-- ==== Sys2Proof/Word.lean ====
section
/-! DEFINITION. The one word type of the part: the byte of its three links. -/

namespace Sys2Proof

/-- A byte of a Station Link frame or of a port frame (R193 to R199). -/
abbrev Byte := BitVec 8

end Sys2Proof
end

