-- ==== Sys2Proof/Syntax.lean ====
section
/-! DEFINITION. The commands of the part: one constructor of `Instr` for each row of
spec/opcode_table.json. The forty request rows carry the request's operands as the request frame
holds them (R196), each a number of the operand's width, so that a value outside its range reaches
the owner that refuses it; the sixteen event rows carry what the event brings. -/

namespace Sys2Proof

/-- The two SPI ports (R165). -/
inductive Port where
  | line | sorter
deriving DecidableEq, Repr

/-- Whether an access request is posted while the store is free, or while the access taken last is
still in progress (R152). Of a COUNTERS SNAPSHOT it says whether the event taken last has ended or is
still in progress (R181, log 18). -/
inductive Moment where
  | storeFree | duringAccess
deriving DecidableEq, Repr

/-- What every write-request transaction brings besides its operands: the port it arrives on, the
master's tag (R196), the bytes received where they are not the well-formed frame of this request
(R166, R197), and the moment of its posting (R152). -/
structure Header where
  port     : Port
  tag      : Nat
  received : Option (List Byte) := none
  moment   : Moment := .storeFree
deriving DecidableEq, Repr

/-- A list operand: its length byte and the elements carried (R196). -/
structure ListOperand (α : Type) where
  count : Nat
  elems : List α
deriving DecidableEq, Repr

/-- The record operand of CLASS WRITE, in the order of R35. -/
structure ClassOperands where
  required : Nat
  tolPermille : Nat
  tolFloor : Nat
  kw : Nat
  wCap : Nat
  grossFactor : Nat
  skip : Nat
  shadow : Nat
  threshold : Nat
  kDark : Nat
  kLight : Nat
  kx : Nat
  sCap : Nat
  uFree : Nat
  ku : Nat
  pPill : Nat
  uCap : Nat
  ptDet : Nat
  ptAbs : Nat
  limA : Nat
  limB : Nat
  limC : Nat
  mapA : Nat
  mapB : Nat
  mapC : Nat
  mapD : Nat
  highBand : Nat
  prefs : ListOperand Nat
deriving DecidableEq, Repr

/-- The operands of STATION SET after the address, in the order of R47. -/
structure StationOperands where
  configured : Nat
  kind : Nat
  holdAllowed : Nat
  fieldMap : ListOperand Nat
  code0 : Nat
  code1 : Nat
  code2 : Nat
  code3 : Nat
  band : Nat
  settleCount : Nat
  unsettleCount : Nat
  holdOnMotion : Nat
  holdOnOverload : Nat
  passes : Nat
  window : Nat
  badLimit : Nat
  recovery : Nat
deriving DecidableEq, Repr

/-- The operands of LINE SET, in the order of R43. -/
structure LineOperands where
  maxLaps : Nat
  divertTries : Nat
  fallbackClass : Nat
  overflowZone : Nat
  reviewChute : Nat
  refurbishChute : Nat
  outletChute : Nat
  recycleChute : Nat
deriving DecidableEq, Repr

/-- The operands of MANIFEST POST, in the order of R29. -/
structure ManifestOperands where
  label : Nat
  cls : Nat
  nominal : Nat
  band : Nat
  hygiene : Nat
  expected : Nat
deriving DecidableEq, Repr

/-- The operands of SLOT SET after the bin, in the order of R143. -/
structure SlotOperands where
  zone : Nat
  lane : Nat
  capacity : Nat
  affinity : Nat
  enabled : Nat
deriving DecidableEq, Repr

/-- The operands of SCHEDULE START and SCHEDULE STAGE (R52, R56). -/
structure ScheduleOperands where
  base : Nat
  length : Nat
  startMode : Nat
  rep : Nat
deriving DecidableEq, Repr

/-- A request as a port engine holds it: its kind and its operands, without the frame around them.
The order is that of the permission table (R169), which numbers the request codes (R196). -/
inductive Request where
  | induct (tray label : Nat)
  | destination (tray : Nat)
  | diverted (tray chute : Nat)
  | divertFailed (tray cause : Nat)
  | trayCleared (tray : Nat)
  | chuteClear (chute : Nat)
  | status
  | tableLimits
  | itemQuery (selector value : Nat)
  | attentionMask (mask : Nat)
  | modeSet (mode : Nat)
  | fullReset
  | lineRestart
  | statusClear (conditions : Nat)
  | arbiterSet (strategy holdLimit : Nat)
  | holdBegin
  | holdEnd
  | lineSet (settings : LineOperands)
  | stationSet (address : Nat) (entry : StationOperands)
  | classWrite (cls : Nat) (record : ClassOperands)
  | classRead (cls : Nat)
  | classClear (cls : Nat)
  | manifestPost (entry : ManifestOperands)
  | manifestWithdraw (label : Nat)
  | manifestRead (label : Nat)
  | zoneSet (zone chute zstate : Nat)
  | slotSet (bin : Nat) (slot : SlotOperands)
  | slotAdjust (bin counted cls : Nat)
  | slotRelease (bin n : Nat)
  | slotRead (bin : Nat)
  | scheduleWrite (first : Nat) (entries : ListOperand (Nat × Nat))
  | linkSet (period timeout threshold : Nat)
  | scheduleStart (schedule : ScheduleOperands)
  | scheduleStage (schedule : ScheduleOperands)
  | scheduleCancel
  | singlePoll (station kind : Nat)
  | collect
  | countersSnapshot
  | countersRead
  | lampSet (lamp source pattern : Nat)
deriving DecidableEq, Repr

/-- What a read-response transaction reads: how many bytes are shifted out (R167), and `cut`, none or, where
a FULL RESET acted during the read, how many of them had been shifted out by then (R172, log 19). -/
structure Reading where
  count : Nat
  cut : Option Nat
deriving DecidableEq, Repr

/-- The commands: one constructor for each row of spec/opcode_table.json, in its order. -/
inductive Instr where
  /-- A transaction given by the bytes on MOSI, its kind byte first (R196). A write request on a port
  that is not IDLE is an overrun whatever its frame is (R168). -/
  | writeRequestOverrun (port : Port) (moment : Moment) (mosi : List Byte)
  /-- A read-response transaction (R167). -/
  | readResponse (port : Port) (reading : Reading)
  | induct (h : Header) (tray label : Nat)
  | destination (h : Header) (tray : Nat)
  | diverted (h : Header) (tray chute : Nat)
  | divertFailed (h : Header) (tray cause : Nat)
  | trayCleared (h : Header) (tray : Nat)
  | chuteClear (h : Header) (chute : Nat)
  | itemQuery (h : Header) (selector value : Nat)
  | status (h : Header)
  | tableLimits (h : Header)
  | attentionMask (h : Header) (mask : Nat)
  | modeSet (h : Header) (mode : Nat)
  | fullReset (h : Header)
  | lineRestart (h : Header)
  | statusClear (h : Header) (conditions : Nat)
  | arbiterSet (h : Header) (strategy holdLimit : Nat)
  | holdBegin (h : Header)
  | holdEnd (h : Header)
  | lineSet (h : Header) (settings : LineOperands)
  | stationSet (h : Header) (address : Nat) (entry : StationOperands)
  | classWrite (h : Header) (cls : Nat) (record : ClassOperands)
  | classRead (h : Header) (cls : Nat)
  | classClear (h : Header) (cls : Nat)
  | manifestPost (h : Header) (entry : ManifestOperands)
  | manifestWithdraw (h : Header) (label : Nat)
  | manifestRead (h : Header) (label : Nat)
  | zoneSet (h : Header) (zone chute zstate : Nat)
  | slotSet (h : Header) (bin : Nat) (slot : SlotOperands)
  | slotAdjust (h : Header) (bin counted cls : Nat)
  | slotRelease (h : Header) (bin n : Nat)
  | slotRead (h : Header) (bin : Nat)
  | scheduleWrite (h : Header) (first : Nat) (entries : ListOperand (Nat × Nat))
  | linkSet (h : Header) (period timeout threshold : Nat)
  | scheduleStart (h : Header) (schedule : ScheduleOperands)
  | scheduleStage (h : Header) (schedule : ScheduleOperands)
  | scheduleCancel (h : Header)
  | singlePoll (h : Header) (station kind : Nat)
  | collect (h : Header)
  | countersSnapshot (h : Header)
  | countersRead (h : Header)
  | lampSet (h : Header) (lamp source pattern : Nat)
  /-- The arbiter makes a grant and the granted client's access is taken (R152). -/
  | storeAccessGrant
  /-- The Grade Computer's computation ends (R109). -/
  | computationDone (moment : Moment)
  /-- The Evidence Collector takes the head frame (R71). -/
  | evidenceFrameTaken (moment : Moment)
  /-- The round timer expires (R55). -/
  | roundTimerExpiry
  /-- The poll has been transmitted in full (R60). -/
  | pollTransmitted
  /-- A complete reply frame has arrived, length byte and CRC included (R61). -/
  | replyReceived (frame : List Byte)
  /-- The reply timer expires (R60). -/
  | replyTimeout
  /-- The line has been idle for 20 µs in the middle of a reply (R60). -/
  | frameIdleGap
  /-- Bytes arrive while no poll awaits a reply (R60). -/
  | strayReplyBytes (bytes : List Byte)
  /-- The hold timer runs out (R160). -/
  | holdExpiry
  /-- RESET_N goes low (R190). -/
  | resetAssert
  /-- RESET_N rises (R190). -/
  | resetRelease
  /-- 250 ms of the blink phase have passed (R183). -/
  | blinkPhaseToggle
  /-- The first byte of a reply, its length byte, arrives (R60, R193). -/
  | replyFirstByte (length : Byte)
deriving DecidableEq, Repr

end Sys2Proof
end

