-- ==== Sys2Proof/Config.lean ====
section
/-! DEFINITION. What is fixed for the part: the capacities of the introduction's table, and the two
quantities that hang on the clock and that the model leaves free. -/

namespace Sys2Proof.Config

/-- Item Table entries (R1). -/
abbrev itemEntries : Nat := 256
/-- Trays on the loop, numbered from 0 (R3). -/
abbrev trays : Nat := 1024
/-- Highest ticket; the next after it is 1 (R2). -/
abbrev lastTicket : Nat := 65535
/-- Manifest Directory entries (R28). -/
abbrev manifestEntries : Nat := 4096
/-- Grading classes (R35). -/
abbrev classEntries : Nat := 64
/-- Bins (R130). -/
abbrev binEntries : Nat := 1024
/-- Zones (R127). -/
abbrev zoneEntries : Nat := 32
/-- Stations (R45). -/
abbrev stationEntries : Nat := 16
/-- Poll Schedule Area entries (R50). -/
abbrev scheduleEntries : Nat := 256
/-- Evidence FIFO frames (R67). -/
abbrev fifoFrames : Nat := 32
/-- Report pool records (R175). -/
abbrev reportRecords : Nat := 128
/-- Highest chute number; 0 is unassigned (R42). -/
abbrev lastChute : Nat := 47
/-- The value at which a counter is held (R180). -/
abbrev counterMax : Nat := 65535

/-- How many milliseconds an open store hold has lasted, as an answer that reports it finds it
(R153, R159). Time passes between commands and no command measures it, so the value is FREE: this
constant has no body. Its argument is the model's count of such readings. -/
opaque holdElapsedMs : Nat → Nat

/-- How many of the raises of a counter that may still be in progress as a COUNTERS SNAPSHOT is taken
fall after it (R181). The spec leaves the order of each raise and the snapshot open, so the value is FREE:
this constant has no body. Its arguments are the model's count of such readings and the counter's place
among the 24. -/
opaque raisesAfterSnapshot : Nat → Nat → Nat

end Sys2Proof.Config
end

