-- ==== Sys2Proof/Machine/State.lean ====
section
/-! DEFINITION. The state of the part as plain data, and its value right after reset. Quantities are
whole numbers (Nat, or Int where the spec signs them); sets the masters read and write whole are bit
vectors; numbered collections are tables in one canonical form. -/

namespace Sys2Proof.Machine

/-- A numbered collection: its listed entries, numbers strictly rising. What an unlisted number holds
is said where the table is read: nothing (a map), or the entry's reset record. -/
abbrev Table (α : Type) := List (Nat × α)

/-! ### Items (R1) -/

/-- R186. -/
inductive Mode where
  | configure | shadow | run
deriving DecidableEq, Repr

/-- R1, in lifecycle order. -/
inductive ItemState where
  | free | opened | queued | grading | decided | routed | retiring
deriving DecidableEq, Repr

inductive TagState where
  | intact | detached | absent | unread
deriving DecidableEq, Repr

inductive Grade where
  | a | b | c | d
deriving DecidableEq, Repr

inductive Disposition where
  | restockNew | restockSecond | refurbish | outlet | recycle | review
deriving DecidableEq, Repr

inductive Reason where
  | none | noManifest | noClass | excessUnit | incomplete | wrongItem | weightGross | hygiene
  | highValue | noSlot | noChute | divertFailed | missort | removed
deriving DecidableEq, Repr

/-- A tag reading; `sku = none` is UNREADABLE (R74). -/
structure TagReading where
  tag : TagState
  sku : Option Nat
deriving DecidableEq, Repr

/-- A defect peak (R101). -/
structure Peak where
  pos : Nat
  amp : Int
deriving DecidableEq, Repr

/-- Kept peaks in position order and the total peak count (R102). -/
structure ScanEvidence where
  peaks : List Peak
  total : Nat
deriving DecidableEq, Repr

structure WearReading where
  index : Nat
  pilling : Bool
deriving DecidableEq, Repr

/-- One Item Table entry (R1). -/
structure Item where
  state : ItemState
  ticket : Nat
  tray : Nat
  label : Option Nat
  cls : Nat
  nominal : Option Nat
  band : Option Nat
  hygiene : Bool
  noManifest : Bool
  excessUnit : Bool
  late : Bool
  weight : Option Nat
  tag : Option TagReading
  scan : Option ScanEvidence
  wear : Option WearReading
  laps : Nat
  attempts : Nat
  score : Option Nat
  grade : Option Grade
  disposition : Option Disposition
  reason : Reason
  bin : Option Nat
  chute : Option Nat
  actualChute : Option Nat
deriving DecidableEq, Repr

/-- The values R1 gives a FREE entry. DESIGN CHOICE (log 2): class 0 and hygiene no, which R1 does
not state for a FREE entry. -/
def Item.empty : Item :=
  { state := .free, ticket := 0, tray := 0, label := none, cls := 0, nominal := none, band := none,
    hygiene := false, noManifest := false, excessUnit := false, late := false, weight := none,
    tag := none, scan := none, wear := none, laps := 0, attempts := 0, score := none, grade := none,
    disposition := none, reason := .none, bin := none, chute := none, actualChute := none }

/-- What the Tray Index holds for a tray (R3). -/
structure TrayEntry where
  index : Nat
  ticket : Nat
deriving DecidableEq, Repr

/-! ### Manifests, classes, line settings (R28, R35, R42) -/

/-- A manifest entry, under its label (R28). -/
structure Manifest where
  cls : Nat
  nominal : Nat
  band : Nat
  hygiene : Bool
  expected : Nat
  received : Nat
deriving DecidableEq, Repr

/-- The evidence kinds, which are the station kinds too (R35, R45). -/
inductive Kind where
  | weigh | tag | scan | wear
deriving DecidableEq, Repr

/-- A class record (R35); `required` has bit i for the i-th of WEIGH, TAG, SCAN, WEAR. -/
structure ClassRecord where
  required : BitVec 4
  tolPermille : Nat
  tolFloor : Nat
  kw : Nat
  wCap : Nat
  grossFactor : Nat
  skip : Nat
  shadow : Nat
  threshold : Nat
  kDark : Nat
  kLight : Nat
  kx : Nat
  sCap : Nat
  uFree : Nat
  ku : Nat
  pPill : Nat
  uCap : Nat
  ptDet : Nat
  ptAbs : Nat
  limA : Nat
  limB : Nat
  limC : Nat
  mapA : Disposition
  mapB : Disposition
  mapC : Disposition
  mapD : Disposition
  highBand : Nat
  prefs : List Nat
deriving DecidableEq, Repr

/-- The cleared values of R35, which an invalid record holds. -/
def ClassRecord.cleared : ClassRecord :=
  { required := 0, tolPermille := 0, tolFloor := 0, kw := 0, wCap := 0, grossFactor := 2, skip := 0,
    shadow := 0, threshold := 1, kDark := 0, kLight := 0, kx := 0, sCap := 0, uFree := 0, ku := 0,
    pPill := 0, uCap := 0, ptDet := 0, ptAbs := 0, limA := 0, limB := 0, limC := 0,
    mapA := .review, mapB := .review, mapC := .review, mapD := .review, highBand := 8, prefs := [] }

/-- The line settings (R42). -/
structure LineSettings where
  maxLaps : Nat
  divertTries : Nat
  fallbackClass : Nat
  overflowZone : Option Nat
  reviewChute : Nat
  refurbishChute : Nat
  outletChute : Nat
  recycleChute : Nat
deriving DecidableEq, Repr

def LineSettings.atReset : LineSettings :=
  { maxLaps := 3, divertTries := 3, fallbackClass := 0, overflowZone := none, reviewChute := 0,
    refurbishChute := 0, outletChute := 0, recycleChute := 0 }

/-! ### Zones and bins (R127, R130) -/

inductive ZoneState where
  | opened | blocked | closed
deriving DecidableEq, Repr

structure Zone where
  chute : Nat
  state : ZoneState
deriving DecidableEq, Repr

def Zone.atReset : Zone := { chute := 0, state := .closed }

inductive Lane where
  | new | second
deriving DecidableEq, Repr

/-- A bin record (R130); `affinity = none` is ANY. -/
structure Bin where
  zone : Nat
  lane : Lane
  capacity : Nat
  committed : Nat
  reserved : Nat
  affinity : Option Nat
  cls : Option Nat
  enabled : Bool
deriving DecidableEq, Repr

def Bin.atReset : Bin :=
  { zone := 0, lane := .new, capacity := 0, committed := 0, reserved := 0, affinity := none,
    cls := none, enabled := false }

/-! ### Reports (R174) -/

structure Report where
  ticket : Nat
  tray : Nat
  label : Option Nat
  cls : Nat
  disposition : Disposition
  reason : Reason
  grade : Option Grade
  score : Option Nat
  weight : Option Nat
  peakCount : Option Nat
  bin : Option Nat
  chute : Nat
  actualChute : Option Nat
  laps : Nat
  attempts : Nat
  late : Bool
  shadow : Bool
  excessUnit : Bool
  noManifest : Bool
deriving DecidableEq, Repr

/-! ### The arbiter (R152 and the table before it) -/

inductive Client where
  | lpe | spe | ec | gc
deriving DecidableEq, Repr

inductive Strategy where
  | sorterFirst | rotate | chained
deriving DecidableEq, Repr

/-- The clients with a request posted and not yet granted. -/
structure WaitingSet where
  lpe : Bool
  spe : Bool
  ec : Bool
  gc : Bool
deriving DecidableEq, Repr

def WaitingSet.empty : WaitingSet := { lpe := false, spe := false, ec := false, gc := false }

/-- The arbiter's state. An access is taken whole inside one step, so `holder` names a client between
steps only while `chain` is yes. `hold` is none, or the limit in ms an open hold's timer was started
with (R154). -/
structure Arbiter where
  strategy : Strategy
  holder : Option Client
  chain : Bool
  waiting : WaitingSet
  pointer : Client
  hold : Option Nat
  holdLimit : Nat
deriving DecidableEq, Repr

def Arbiter.atReset : Arbiter :=
  { strategy := .sorterFirst, holder := none, chain := false, waiting := .empty, pointer := .gc,
    hold := none, holdLimit := 20 }

/-! ### Stations, schedules, the round controller (R45 to R51) -/

inductive Health where
  | unknown | up | down
deriving DecidableEq, Repr

/-- The configuration part of a Station Table entry (R45); a selector `none` is ABSENT. -/
structure StationConfig where
  configured : Bool
  kind : Kind
  holdAllowed : Bool
  sel0 : Option Nat
  sel1 : Option Nat
  sel2 : Option Nat
  sel3 : Option Nat
  code0 : TagState
  code1 : TagState
  code2 : TagState
  code3 : TagState
  band : Nat
  settleCount : Nat
  unsettleCount : Nat
  holdOnMotion : Bool
  holdOnOverload : Bool
  passes : Nat
  window : Nat
  badLimit : Nat
  recovery : Nat
deriving DecidableEq, Repr

def StationConfig.atReset : StationConfig :=
  { configured := false, kind := .weigh, holdAllowed := false, sel0 := none, sel1 := none,
    sel2 := none, sel3 := none, code0 := .intact, code1 := .detached, code2 := .absent,
    code3 := .unread, band := 5, settleCount := 4, unsettleCount := 2, holdOnMotion := false,
    holdOnOverload := false, passes := 1, window := 16, badLimit := 4, recovery := 3 }

/-- The run-time part of a Station Table entry (R46). The history is oldest first, true for a good
outcome; the bad count is the number of bad outcomes in it. -/
structure StationRun where
  health : Health
  history : List Bool
  consecutiveGood : Nat
  holdCapable : Option Bool
  selfCheck : Option Nat
deriving DecidableEq, Repr

def StationRun.atReset : StationRun :=
  { health := .unknown, history := [], consecutiveGood := 0, holdCapable := none, selfCheck := none }

structure Station where
  config : StationConfig
  run : StationRun
deriving DecidableEq, Repr

def Station.atReset : Station := { config := .atReset, run := .atReset }

/-- The link settings (R49): ms, µs, frames. -/
structure LinkSettings where
  period : Nat
  timeout : Nat
  threshold : Nat
deriving DecidableEq, Repr

def LinkSettings.atReset : LinkSettings := { period := 100, timeout := 200, threshold := 24 }

inductive PollKind where
  | evidence | status
deriving DecidableEq, Repr

/-- A poll: a poll entry of the Poll Schedule Area (R50), or the single-poll slot's poll (R51). -/
structure Poll where
  station : Nat
  kind : PollKind
deriving DecidableEq, Repr

inductive StartMode where
  | now | atTimer | empty
deriving DecidableEq, Repr

structure Schedule where
  base : Nat
  length : Nat
  rep : Bool
deriving DecidableEq, Repr

structure StagedSchedule where
  base : Nat
  length : Nat
  mode : StartMode
  rep : Bool
deriving DecidableEq, Repr

inductive PendingStart where
  | atTimer | empty
deriving DecidableEq, Repr

/-- The controller's states. WALKING takes no time of its own (R53), so no step ends in it. -/
inductive ControllerState where
  | idle | walking | awaitReply | roundWait
deriving DecidableEq, Repr

/-- Where the controller goes when the poll in flight has been handled (R51). -/
inductive ReturnPoint where
  | round | idle | roundWait | idleAfterCancel
deriving DecidableEq, Repr

/-- How far a poll in flight has come (R60): still being transmitted; its reply timer running; its
reply being received, with the length its first byte stated. -/
inductive PollPhase where
  | transmitting | awaitingFirst | receiving (length : Byte)
deriving DecidableEq, Repr

/-- The poll in flight: as sent, with the reply timeout in force when it was sent (R60) and its
return point. `single` marks a poll sent from the single-poll slot. -/
structure InFlight where
  station : Nat
  kind : PollKind
  hold : Bool
  timeout : Nat
  returnPoint : ReturnPoint
  single : Bool
  phase : PollPhase
deriving DecidableEq, Repr

/-- The round controller (R51). `roundTimer` is none while stopped, else the period in ms it was last
restarted with (R49). -/
structure RoundController where
  state : ControllerState
  active : Option Schedule
  staged : Option StagedSchedule
  pendingStart : Option PendingStart
  walkPos : Option Nat
  slot : Option Poll
  inFlight : Option InFlight
  expiryDue : Bool
  roundTimer : Option Nat
deriving DecidableEq, Repr

def RoundController.atReset : RoundController :=
  { state := .idle, active := none, staged := none, pendingStart := none, walkPos := none,
    slot := none, inFlight := none, expiryDue := false, roundTimer := none }

/-! ### Evidence (R67, R71, R76, R89) -/

/-- A weighing sample as received (R78, R194). -/
structure Sample where
  value : Int
  motion : Bool
  overload : Bool
deriving DecidableEq, Repr

/-- A scan segment as received (R89 to R91, R195). `length` is L, carried when the start is 0. -/
structure Segment where
  pass : Nat
  start : Nat
  count : Nat
  length : Option Nat
  samples : List Int
deriving DecidableEq, Repr

/-- The fields of an evidence frame, by its kind (R73, R76, R89). -/
inductive EvidenceBody where
  | weigh (isEnd : Bool) (samples : List Sample)
  | tag (r0 r1 r2 r3 : Nat)
  | scan (segment : Segment)
  | wear (r0 r1 r2 r3 : Nat)
deriving DecidableEq, Repr

/-- A stamped frame (R66, R67); the recorded kind is that of `body`. -/
structure StampedFrame where
  station : Nat
  stamp : Option Nat
  tray : Nat
  body : EvidenceBody
deriving DecidableEq, Repr

/-- A finding ready to be written. A profile is written as the peaks extracted from it (R98). -/
inductive Finding where
  | weight (grams : Nat)
  | tag (reading : TagReading)
  | profile (values : List Int)
  | wear (reading : WearReading)
deriving DecidableEq, Repr

/-- One piece of evidence with its tray and stamp (R83). -/
structure Piece where
  tray : Nat
  stamp : Option Nat
  finding : Finding
deriving DecidableEq, Repr

/-- The Evidence Collector (R71). WORKING and WRITING lie inside one step, so a step ends in WAITING,
or in AWAIT_STORE with the frame's one or two pieces of evidence. -/
inductive Collector where
  | waiting
  | awaitStore (pieces : List Piece)
deriving DecidableEq, Repr

inductive SettlePhase where
  | seeking | settled
deriving DecidableEq, Repr

/-- An open settle context (R76). -/
structure SettleContext where
  tray : Nat
  stamp : Option Nat
  phase : SettlePhase
  reference : Option Nat
  count : Nat
  sum : Nat
  settledWeight : Option Nat
  outCount : Nat
deriving DecidableEq, Repr

inductive ScanState where
  | empty | awaitPass | inPass
deriving DecidableEq, Repr

/-- A scan context (R89). Each buffer is written as the list of its filled positions, every other
position being 0; the next expected start of a context in IN_PASS is the number of filled positions
of the pass buffer. -/
structure ScanContext where
  binding : Option Nat
  state : ScanState
  tray : Option Nat
  stamp : Option Nat
  length : Option Nat
  passesDone : Nat
  pass : List Int
  sums : List Int
deriving DecidableEq, Repr

def ScanContext.atReset : ScanContext :=
  { binding := none, state := .empty, tray := none, stamp := none, length := none, passesDone := 0,
    pass := [], sums := [] }

/-! ### The Grade Computer (R106, R108) -/

/-- The copy taken at a fetch (R108). -/
structure GradeCopy where
  index : Nat
  ticket : Nat
  tray : Nat
  cls : Nat
  nominal : Option Nat
  band : Option Nat
  hygiene : Bool
  noManifest : Bool
  excessUnit : Bool
  weight : Option Nat
  tag : Option TagReading
  scan : Option ScanEvidence
  wear : Option WearReading
  valid : Bool
  record : ClassRecord
deriving DecidableEq, Repr

/-- Score and grade, where the copied class is valid (R109). -/
structure GradeResult where
  score : Nat
  grade : Grade
deriving DecidableEq, Repr

inductive Grader where
  | idle
  | fetchWait
  | computing (copy : GradeCopy)
  | writeWait (copy : GradeCopy) (result : Option GradeResult)
deriving DecidableEq, Repr

/-! ### Ports (R165), responses, counters, lamps -/

/-- The response codes, in the order of the response code table, which numbers them from 0 (R197). -/
inductive Code where
  | ok | frameError | unknownRequest | notPermitted | mode | range | full | trayBusy | noItem
  | notRouted | inUse | notFound | occupied | noClass | classConflict | order | pending | idle
  | limit | held | notHeld | itemsLive | noReviewChute | empty | notReady | restarted
deriving DecidableEq, Repr

inductive DestAnswer where
  | route | recirculate | pass | untracked
deriving DecidableEq, Repr

inductive PostOutcome where
  | replaced | inserted
deriving DecidableEq, Repr

/-- The eleven conditions, in the order of R171. -/
inductive Condition where
  | anyStationDown | reportWaiting | poolEmpty | zoneBlocked | holdActive | roundActive
  | fifoNearFull | fifoOverflow | roundEnd | holdExpired | stationWentDown
deriving DecidableEq, Repr

/-- The five sticky conditions (R178). -/
structure Sticky where
  fifoNearFull : Bool
  fifoOverflow : Bool
  roundEnd : Bool
  holdExpired : Bool
  stationWentDown : Bool
deriving DecidableEq, Repr

def Sticky.clear : Sticky :=
  { fifoNearFull := false, fifoOverflow := false, roundEnd := false, holdExpired := false,
    stationWentDown := false }

/-- The 24 counters, in the order of R180. -/
inductive Counter where
  | inducted | gradeA | gradeB | gradeC | gradeD | reviewed | recirculated | lateEvidence
  | noItemEvidence | fifoDropped | weighUnsettled | scanIncomplete | scanPassDiscarded | badReplies
  | divertFailed | missorted | removed | noSlot | reportsLost | heldAnswers | portOverruns
  | skippedPolls | kindMismatch | excessUnits
deriving DecidableEq, Repr

/-- The live counters (R180): for each, its value without the raises of the event taken last, and those
raises. A snapshot that falls inside that event takes each of them before or after itself (R181,
log 18). -/
structure Counters where
  base : Vector Nat 24
  recent : Vector Nat 24
deriving DecidableEq, Repr

def Counters.zero : Counters := { base := Vector.replicate 24 0, recent := Vector.replicate 24 0 }

/-- The lamp sources, in the order of R183. -/
inductive LampSource where
  | off | on | runMode | shadowMode | anyStationDown | fifoNearFull | reportWaiting | zoneBlocked
  | holdActive | poolEmpty
deriving DecidableEq, Repr

inductive LampPattern where
  | steady | blink
deriving DecidableEq, Repr

structure Lamp where
  source : LampSource
  pattern : LampPattern
deriving DecidableEq, Repr

/-- The results an answer carries (R198, R199), by request. -/
inductive Results where
  | none
  | inducted (index ticket : Nat)
  | destination (answer : DestAnswer) (chute : Nat)
  | reopened (zones : Nat)
  | item (index : Nat) (record : Item)
  | statusWord (mode : Mode) (conditions : BitVec 11)
  | mask (mask conditions : BitVec 11)
  | limits (live manifests classes bins reports frames : Nat)
  | mode (mode : Mode) (live : Nat)
  | arbiter (strategy : Strategy) (holdLimit : Nat) (timeLeft : Option Nat) (pointer : Client)
  | milliseconds (ms : Nat)
  | line (settings : LineSettings)
  | station (entry : Station)
  | classRecord (valid : Bool) (record : ClassRecord)
  | posted (outcome : Option PostOutcome) (occupancy : Nat)
  | withdrawn (expected received occupancy : Nat)
  | manifest (label : Nat) (entry : Manifest)
  | zone (record : Zone) (bins : Nat)
  | slot (amount : Option Nat) (record : Bin) (room : Nat) (zone : Zone)
  | link (settings : LinkSettings) (controller : RoundController)
  | report (urgent : Bool) (record : Report) (urgentLen routineLen free waiting : Nat)
  | queueLengths (urgentLen routineLen free waiting : Nat)
  | counters (values : Vector Nat 24)
  | lamps (settings : Vector Lamp 4) (active : Vector Bool 4)
deriving DecidableEq, Repr

/-- A held response (R165, R197), but for the OVERRUN mark, which delivery adds (R168). -/
structure Response where
  code : Code
  request : Nat
  tag : Nat
  held : Bool
  results : Results
deriving DecidableEq, Repr

/-- R165. -/
inductive PortPhase where
  | idle
  | executing (tag : Nat) (request : Request)
  | responseReady (response : Response)
deriving DecidableEq, Repr

/-- A port engine (R165, R168, R171). `miso` is what the port's MISO carried after the kind byte of its
last transaction; beyond the bytes listed it carried 00 (R196). `discarded` is the frame of a response
that a FULL RESET has discarded, while a read that was shifting it out may still be in progress (R172). -/
structure PortEngine where
  phase : PortPhase
  overrun : Bool
  mask : BitVec 11
  miso : List Byte
  discarded : Option (List Byte)
deriving DecidableEq, Repr

def PortEngine.atReset : PortEngine :=
  { phase := .idle, overrun := false, mask := 0, miso := [], discarded := none }

def Lamp.off : Lamp := { source := .off, pattern := .steady }

/-! ### The whole state -/

/-- Every piece of state the spec gives the part; INVENTORY.md lists each with its rule. -/
structure State where
  /-- The level of RESET_N; true is high (R190). -/
  resetN : Bool
  mode : Mode
  items : Table Item
  nextTicket : Nat
  trayIndex : Table TrayEntry
  gradeQueue : List Nat
  manifests : Table Manifest
  /-- The valid class records (R35). -/
  classes : Table ClassRecord
  line : LineSettings
  bins : Table Bin
  zones : Table Zone
  /-- The report queues, oldest first; the other records of the pool of 128 are free (R175). -/
  urgent : List Report
  routine : List Report
  waitList : List Nat
  arbiter : Arbiter
  stations : Table Station
  link : LinkSettings
  /-- The poll entries of the Poll Schedule Area; an unlisted entry is SKIP (R50). -/
  schedule : Table Poll
  controller : RoundController
  fifo : List StampedFrame
  collector : Collector
  /-- The open settle contexts; an unlisted context is empty (R76). -/
  settle : Table SettleContext
  scan0 : ScanContext
  scan1 : ScanContext
  grader : Grader
  linePort : PortEngine
  sorterPort : PortEngine
  sticky : Sticky
  counters : Counters
  snapshot : Vector Nat 24
  lamps : Vector Lamp 4
  /-- The common blink phase: whether an active BLINK lamp is lit now (R183). -/
  blinkLit : Bool
  /-- The bytes of the last poll sent on the Station Link (R194). -/
  linkTxd : List Byte
  /-- The model's own field: how many times a free value (Config) has been read. -/
  freeReads : Nat
  /-- The model's own field: the commands that are waiting, first in, first out. -/
  pending : List Instr
deriving DecidableEq, Repr

/-- The part right after reset (R27, R34, R41, R42, R45, R46, R49, R50, R59, R70, R76, R88, R90, R125,
R149, R164, R172, R177, R179, R182, R185, R186), RESET_N high. DESIGN CHOICE (log 3): the blink phase
starts lit. -/
def State.reset : State :=
  { resetN := true
    mode := .configure
    items := []
    nextTicket := 1
    trayIndex := []
    gradeQueue := []
    manifests := []
    classes := []
    line := .atReset
    bins := []
    zones := []
    urgent := []
    routine := []
    waitList := []
    arbiter := .atReset
    stations := []
    link := .atReset
    schedule := []
    controller := .atReset
    fifo := []
    collector := .waiting
    settle := []
    scan0 := .atReset
    scan1 := .atReset
    grader := .idle
    linePort := .atReset
    sorterPort := .atReset
    sticky := .clear
    counters := .zero
    snapshot := Vector.replicate 24 0
    lamps := #v[{ source := .runMode, pattern := .steady }, .off, .off, .off]
    blinkLit := true
    linkTxd := []
    freeReads := 0
    pending := [] }

/-- The reasons a step stops the part. There is none: R126 says that no arithmetic fault can end a
grading, and every rule that turns a command away answers it with a response code, which is a next
state. -/
inductive Fault where
deriving DecidableEq, Repr

/-- The reasons a command has no meaning here. -/
inductive Refusal where
  /-- Raised by `exec` for a command whose meaning is not modelled; no arm raises it. Safe: a claim
  about a next state does not apply. -/
  | notModelled (mnemonic : String)
deriving DecidableEq, Repr

end Sys2Proof.Machine
end

