-- ==== Sys2Proof/Machine/Operands.lean ====
section
/-! DEFINITION. The operand forms of the requests (R196) and their ranges: each function reads the
number an operand field holds, and answers none where the value lies outside the range the request's
rule gives, so that the owner refuses it RANGE. -/

namespace Sys2Proof.Machine

/-- A yes-or-no operand. DEDUCED (log 4): numbered in the order the manual lists the values, "yes,
no". -/
def readYesNo : Nat → Option Bool
  | 0 => some true
  | 1 => some false
  | _ => none

def yesNoCode (b : Bool) : Nat := if b then 0 else 1

/-- A value in a range. -/
def inRange (lo hi n : Nat) : Bool := decide (lo ≤ n) && decide (n ≤ hi)

/-- A one-byte value up to `hi`, or none, ANY or NONE as the field filled with ones (R196). -/
def readOptional (hi n : Nat) : Option (Option Nat) :=
  if n = 255 then some none else if n ≤ hi then some (some n) else none

def readMode : Nat → Option Mode
  | 0 => some .configure
  | 1 => some .shadow
  | 2 => some .run
  | _ => none

def modeCode : Mode → Nat
  | .configure => 0
  | .shadow => 1
  | .run => 2

def readStrategy : Nat → Option Strategy
  | 0 => some .sorterFirst
  | 1 => some .rotate
  | 2 => some .chained
  | _ => none

def strategyCode : Strategy → Nat
  | .sorterFirst => 0
  | .rotate => 1
  | .chained => 2

def clientCode : Client → Nat
  | .lpe => 0
  | .spe => 1
  | .ec => 2
  | .gc => 3

def readZoneState : Nat → Option ZoneState
  | 0 => some .opened
  | 1 => some .blocked
  | 2 => some .closed
  | _ => none

def zoneStateCode : ZoneState → Nat
  | .opened => 0
  | .blocked => 1
  | .closed => 2

def readLane : Nat → Option Lane
  | 0 => some .new
  | 1 => some .second
  | _ => none

def laneCode : Lane → Nat
  | .new => 0
  | .second => 1

def readKind : Nat → Option Kind
  | 0 => some .weigh
  | 1 => some .tag
  | 2 => some .scan
  | 3 => some .wear
  | _ => none

def kindCode : Kind → Nat
  | .weigh => 0
  | .tag => 1
  | .scan => 2
  | .wear => 3

/-- The bit of an evidence kind in a required set (R35, R196). -/
def kindBit : Kind → Nat := kindCode

def readTagState : Nat → Option TagState
  | 0 => some .intact
  | 1 => some .detached
  | 2 => some .absent
  | 3 => some .unread
  | _ => none

def tagStateCode : TagState → Nat
  | .intact => 0
  | .detached => 1
  | .absent => 2
  | .unread => 3

def readDisposition : Nat → Option Disposition
  | 0 => some .restockNew
  | 1 => some .restockSecond
  | 2 => some .refurbish
  | 3 => some .outlet
  | 4 => some .recycle
  | 5 => some .review
  | _ => none

def dispositionCode : Disposition → Nat
  | .restockNew => 0
  | .restockSecond => 1
  | .refurbish => 2
  | .outlet => 3
  | .recycle => 4
  | .review => 5

def reasonCode : Reason → Nat
  | .none => 0
  | .noManifest => 1
  | .noClass => 2
  | .excessUnit => 3
  | .incomplete => 4
  | .wrongItem => 5
  | .weightGross => 6
  | .hygiene => 7
  | .highValue => 8
  | .noSlot => 9
  | .noChute => 10
  | .divertFailed => 11
  | .missort => 12
  | .removed => 13

def gradeCode : Grade → Nat
  | .a => 0
  | .b => 1
  | .c => 2
  | .d => 3

def itemStateCode : ItemState → Nat
  | .free => 0
  | .opened => 1
  | .queued => 2
  | .grading => 3
  | .decided => 4
  | .routed => 5
  | .retiring => 6

def readPollKind : Nat → Option PollKind
  | 0 => some .evidence
  | 1 => some .status
  | _ => none

def pollKindCode : PollKind → Nat
  | .evidence => 0
  | .status => 1

def readStartMode : Nat → Option StartMode
  | 0 => some .now
  | 1 => some .atTimer
  | 2 => some .empty
  | _ => none

def startModeCode : StartMode → Nat
  | .now => 0
  | .atTimer => 1
  | .empty => 2

def readLampSource : Nat → Option LampSource
  | 0 => some .off
  | 1 => some .on
  | 2 => some .runMode
  | 3 => some .shadowMode
  | 4 => some .anyStationDown
  | 5 => some .fifoNearFull
  | 6 => some .reportWaiting
  | 7 => some .zoneBlocked
  | 8 => some .holdActive
  | 9 => some .poolEmpty
  | _ => none

def lampSourceCode : LampSource → Nat
  | .off => 0
  | .on => 1
  | .runMode => 2
  | .shadowMode => 3
  | .anyStationDown => 4
  | .fifoNearFull => 5
  | .reportWaiting => 6
  | .zoneBlocked => 7
  | .holdActive => 8
  | .poolEmpty => 9

def readLampPattern : Nat → Option LampPattern
  | 0 => some .steady
  | 1 => some .blink
  | _ => none

def lampPatternCode : LampPattern → Nat
  | .steady => 0
  | .blink => 1

/-- The causes of DIVERT FAILED (R19). -/
inductive DivertCause where
  | chuteFull | tiltFault | other
deriving DecidableEq, Repr

def readCause : Nat → Option DivertCause
  | 0 => some .chuteFull
  | 1 => some .tiltFault
  | 2 => some .other
  | _ => none

/-- A chute operand of the sorter: 1 to 47 (R5). -/
def chuteInRange (c : Nat) : Bool := inRange 1 Config.lastChute c

/-- An attention mask operand (R171): KEEP is the field filled with ones; a mask names only the eleven
conditions. The outer none is RANGE. -/
def readMask (n : Nat) : Option (Option (BitVec 11)) :=
  if n = 65535 then some none else if n < 2048 then some (some (BitVec.ofNat 11 n)) else none

/-- A STATUS CLEAR operand names only sticky conditions (R179), which are bits 6 to 10. -/
def namesOnlySticky (n : Nat) : Bool := decide (n % 64 = 0) && decide (n < 2048)

/-- Every field of a class record against its range in R35; none is RANGE. -/
def readClassRecord (o : ClassOperands) : Option ClassRecord :=
  if o.required < 16 ∧ o.tolPermille ≤ 500 ∧ o.tolFloor ≤ 255 ∧ o.kw ≤ 255 ∧ o.wCap ≤ 1000
      ∧ inRange 2 15 o.grossFactor ∧ o.skip ≤ 63 ∧ o.shadow ≤ 15 ∧ inRange 1 127 o.threshold
      ∧ o.kDark ≤ 15 ∧ o.kLight ≤ 15 ∧ o.kx ≤ 63 ∧ o.sCap ≤ 1000 ∧ o.uFree ≤ 255 ∧ o.ku ≤ 63
      ∧ o.pPill ≤ 255 ∧ o.uCap ≤ 1000 ∧ o.ptDet ≤ 1000 ∧ o.ptAbs ≤ 1000 ∧ o.limA ≤ 1000
      ∧ o.limB ≤ 1000 ∧ o.limC ≤ 1000 ∧ o.highBand ≤ 8 ∧ o.prefs.count ≤ 4
      ∧ o.prefs.elems.all (fun z => decide (z ≤ 31)) = true then
    match readDisposition o.mapA, readDisposition o.mapB, readDisposition o.mapC,
        readDisposition o.mapD with
    | some a, some b, some c, some d =>
      some { required := BitVec.ofNat 4 o.required, tolPermille := o.tolPermille,
             tolFloor := o.tolFloor, kw := o.kw, wCap := o.wCap, grossFactor := o.grossFactor,
             skip := o.skip, shadow := o.shadow, threshold := o.threshold, kDark := o.kDark,
             kLight := o.kLight, kx := o.kx, sCap := o.sCap, uFree := o.uFree, ku := o.ku,
             pPill := o.pPill, uCap := o.uCap, ptDet := o.ptDet, ptAbs := o.ptAbs, limA := o.limA,
             limB := o.limB, limC := o.limC, mapA := a, mapB := b, mapC := c, mapD := d,
             highBand := o.highBand, prefs := o.prefs.elems }
    | _, _, _, _ => none
  else none

/-- The order of the grade limits (R37, check 3). -/
def limitsInOrder (r : ClassRecord) : Bool := decide (r.limA ≤ r.limB) && decide (r.limB ≤ r.limC)

/-- The operands of LINE SET against R42; none is RANGE. -/
def readLineSettings (o : LineOperands) : Option LineSettings :=
  match readOptional 31 o.overflowZone with
  | none => none
  | some zone =>
    if inRange 1 8 o.maxLaps && inRange 1 7 o.divertTries && decide (o.fallbackClass ≤ 63)
        && decide (o.reviewChute ≤ 47) && decide (o.refurbishChute ≤ 47)
        && decide (o.outletChute ≤ 47) && decide (o.recycleChute ≤ 47) then
      some { maxLaps := o.maxLaps, divertTries := o.divertTries, fallbackClass := o.fallbackClass,
             overflowZone := zone, reviewChute := o.reviewChute,
             refurbishChute := o.refurbishChute, outletChute := o.outletChute,
             recycleChute := o.recycleChute }
    else none

/-- A manifest's fields against R28 (R29, check 1); none is RANGE. The received count is the
caller's. -/
def readManifest (o : ManifestOperands) : Option Manifest :=
  match readYesNo o.hygiene with
  | none => none
  | some hygiene =>
    if inRange 1 (2 ^ 48 - 1) o.label && decide (o.cls ≤ 63) && inRange 1 20000 o.nominal
        && decide (o.band ≤ 7) && inRange 1 15 o.expected then
      some { cls := o.cls, nominal := o.nominal, band := o.band, hygiene := hygiene,
             expected := o.expected, received := 0 }
    else none

/-- The settings of SLOT SET (R142). -/
structure SlotSettings where
  zone : Nat
  lane : Lane
  capacity : Nat
  affinity : Option Nat
  enabled : Bool
deriving DecidableEq, Repr

def readSlotSettings (o : SlotOperands) : Option SlotSettings :=
  match readLane o.lane, readOptional 63 o.affinity, readYesNo o.enabled with
  | some lane, some affinity, some enabled =>
    if o.zone ≤ 31 ∧ o.capacity ≤ 255 then
      some { zone := o.zone, lane := lane, capacity := o.capacity, affinity := affinity,
             enabled := enabled }
    else none
  | _, _, _ => none

/-- The operands of SCHEDULE START and SCHEDULE STAGE (R52, check 2); none is RANGE. DESIGN CHOICE (log 28):
a repeat byte that is neither yes nor no is refused here, with the operands that check 2 names. -/
def readSchedule (o : ScheduleOperands) : Option StagedSchedule :=
  match readStartMode o.startMode, readYesNo o.rep with
  | some mode, some rep =>
    if inRange 1 64 o.length && decide (o.base + o.length ≤ 256) then
      some { base := o.base, length := o.length, mode := mode, rep := rep }
    else none
  | _, _ => none

/-- One entry of SCHEDULE WRITE (R50, R196): SKIP has both bytes filled with ones. The outer none is
RANGE. -/
def readScheduleEntry (e : Nat × Nat) : Option (Option Poll) :=
  if e.1 = 255 ∧ e.2 = 255 then some none
  else if e.1 ≤ 15 then
    match readPollKind e.2 with
    | some k => some (some { station := e.1, kind := k })
    | none => none
  else none

/-- The link settings of LINK SET (R49); none is RANGE. -/
def readLinkSettings (period timeout threshold : Nat) : Option LinkSettings :=
  if inRange 1 1000 period
      && (decide (timeout = 100) || decide (timeout = 200) || decide (timeout = 400)
          || decide (timeout = 800))
      && inRange 1 31 threshold then
    some { period := period, timeout := timeout, threshold := threshold }
  else none

/-- The four field map selectors (R45); none is RANGE. -/
def readFieldMap (m : ListOperand Nat) :
    Option (Option Nat × Option Nat × Option Nat × Option Nat) :=
  if m.count = 4 then
    match m.elems with
    | [a, b, c, d] =>
      match readOptional 3 a, readOptional 3 b, readOptional 3 c, readOptional 3 d with
      | some a', some b', some c', some d' => some (a', b', c', d')
      | _, _, _, _ => none
    | _ => none
  else none

/-- The configuration of a configured entry against R45 (R47, check 4); none is RANGE. DEDUCED (log 16): the
SCAN passes operand is the number of passes itself, 1, 2, 4, 8 or 16, and no number of a list. -/
def readStationConfig (o : StationOperands) : Option StationConfig :=
  match readKind o.kind, readYesNo o.holdAllowed, readFieldMap o.fieldMap, readTagState o.code0,
      readTagState o.code1, readTagState o.code2, readTagState o.code3, readYesNo o.holdOnMotion,
      readYesNo o.holdOnOverload with
  | some kind, some hold, some (m0, m1, m2, m3), some c0, some c1, some c2, some c3, some motion,
      some overload =>
    if inRange 1 255 o.band && inRange 2 15 o.settleCount && inRange 1 7 o.unsettleCount
        && (decide (o.passes = 1) || decide (o.passes = 2) || decide (o.passes = 4)
            || decide (o.passes = 8) || decide (o.passes = 16))
        && inRange 4 32 o.window && inRange 1 o.window o.badLimit && inRange 1 15 o.recovery then
      some { configured := true, kind := kind, holdAllowed := hold, sel0 := m0, sel1 := m1,
             sel2 := m2, sel3 := m3, code0 := c0, code1 := c1, code2 := c2, code3 := c3,
             band := o.band, settleCount := o.settleCount, unsettleCount := o.unsettleCount,
             holdOnMotion := motion, holdOnOverload := overload, passes := o.passes,
             window := o.window, badLimit := o.badLimit, recovery := o.recovery }
    else none
  | _, _, _, _, _, _, _, _, _ => none

/-- The response codes' numbers (R197). -/
def codeNumber : Code → Nat
  | .ok => 0
  | .frameError => 1
  | .unknownRequest => 2
  | .notPermitted => 3
  | .mode => 4
  | .range => 5
  | .full => 6
  | .trayBusy => 7
  | .noItem => 8
  | .notRouted => 9
  | .inUse => 10
  | .notFound => 11
  | .occupied => 12
  | .noClass => 13
  | .classConflict => 14
  | .order => 15
  | .pending => 16
  | .idle => 17
  | .limit => 18
  | .held => 19
  | .notHeld => 20
  | .itemsLive => 21
  | .noReviewChute => 22
  | .empty => 23
  | .notReady => 24
  | .restarted => 25

/-- The request codes (R196): the order of the permission table (R169). -/
def requestCode : Request → Nat
  | .induct .. => 1
  | .destination .. => 2
  | .diverted .. => 3
  | .divertFailed .. => 4
  | .trayCleared .. => 5
  | .chuteClear .. => 6
  | .status => 7
  | .tableLimits => 8
  | .itemQuery .. => 9
  | .attentionMask .. => 10
  | .modeSet .. => 11
  | .fullReset => 12
  | .lineRestart => 13
  | .statusClear .. => 14
  | .arbiterSet .. => 15
  | .holdBegin => 16
  | .holdEnd => 17
  | .lineSet .. => 18
  | .stationSet .. => 19
  | .classWrite .. => 20
  | .classRead .. => 21
  | .classClear .. => 22
  | .manifestPost .. => 23
  | .manifestWithdraw .. => 24
  | .manifestRead .. => 25
  | .zoneSet .. => 26
  | .slotSet .. => 27
  | .slotAdjust .. => 28
  | .slotRelease .. => 29
  | .slotRead .. => 30
  | .scheduleWrite .. => 31
  | .linkSet .. => 32
  | .scheduleStart .. => 33
  | .scheduleStage .. => 34
  | .scheduleCancel => 35
  | .singlePoll .. => 36
  | .collect => 37
  | .countersSnapshot => 38
  | .countersRead => 39
  | .lampSet .. => 40

end Sys2Proof.Machine
end

