-- ==== Sys2Proof/Machine/Table.lean ====
section
/-! DEFINITION. Reading and writing numbered tables. Every write keeps the canonical form (strictly
rising numbers; no entry equal to what an unlisted number holds), so that equal tables are equal
data; and reading after writing is right of every list, canonical or not. -/

namespace Sys2Proof.Machine

variable {α : Type}

/-- The entry listed under a number. -/
def tfind : Table α → Nat → Option α
  | [], _ => none
  | (j, v) :: t, k => if j = k then some v else tfind t k

/-- The table without a number. -/
def terase : Table α → Nat → Table α
  | [], _ => []
  | (j, v) :: t, k => if j = k then terase t k else (j, v) :: terase t k

/-- The table with an entry put in front of the first greater number. -/
def tinsert : Table α → Nat → α → Table α
  | [], k, v => [(k, v)]
  | (j, w) :: t, k, v => if k < j then (k, v) :: (j, w) :: t else (j, w) :: tinsert t k v

/-- The table with a number holding a value. -/
def tset (t : Table α) (k : Nat) (v : α) : Table α := tinsert (terase t k) k v

/-- The record a number holds, an unlisted number holding `d`. -/
def tget (d : α) (t : Table α) (k : Nat) : α := (tfind t k).getD d

/-- The table with a number holding a record, an unlisted number holding `d`. -/
def tput [DecidableEq α] (d : α) (t : Table α) (k : Nat) (v : α) : Table α :=
  if v = d then terase t k else tset t k v

/-- The table with `f` applied to the records of the numbers below `n`. -/
def tupdate [DecidableEq α] (d : α) (f : α → α) : Nat → Table α → Table α
  | 0, t => t
  | n + 1, t => let t' := tupdate d f n t; tput d t' n (f (tget d t' n))

/-- How many numbers below `n` hold a record for which `p` holds. -/
def tcount (d : α) (t : Table α) (n : Nat) (p : α → Bool) : Nat :=
  (List.range n).countP (fun k => p (tget d t k))

/-- The listed numbers strictly rise. -/
abbrev tsorted (t : Table α) : Prop := (t.map Prod.fst).Pairwise (· < ·)

/-- The canonical form of a table whose unlisted numbers hold `d`. -/
abbrev tcanonical [DecidableEq α] (d : α) (t : Table α) : Prop :=
  tsorted t ∧ ∀ e ∈ t, e.2 ≠ d

/-! ### The tables of the part -/

/-- An Item Table entry (R1). -/
def State.item (s : State) (i : Nat) : Item := tget Item.empty s.items i

def State.setItem (s : State) (i : Nat) (it : Item) : State :=
  { s with items := tput Item.empty s.items i it }

/-- A bin record (R130). -/
def State.bin (s : State) (b : Nat) : Bin := tget Bin.atReset s.bins b

def State.setBin (s : State) (b : Nat) (r : Bin) : State :=
  { s with bins := tput Bin.atReset s.bins b r }

/-- A zone record (R127). -/
def State.zone (s : State) (z : Nat) : Zone := tget Zone.atReset s.zones z

def State.setZone (s : State) (z : Nat) (r : Zone) : State :=
  { s with zones := tput Zone.atReset s.zones z r }

/-- A Station Table entry (R45, R46). -/
def State.station (s : State) (a : Nat) : Station := tget Station.atReset s.stations a

def State.setStation (s : State) (a : Nat) (e : Station) : State :=
  { s with stations := tput Station.atReset s.stations a e }

/-- Whether a class record is valid (R35). -/
def State.classValid (s : State) (k : Nat) : Bool := (tfind s.classes k).isSome

/-- A class record, an invalid one with its cleared values (R35). -/
def State.classRecord (s : State) (k : Nat) : ClassRecord := tget ClassRecord.cleared s.classes k

def State.setClass (s : State) (k : Nat) (r : ClassRecord) : State :=
  { s with classes := tset s.classes k r }

def State.clearClass (s : State) (k : Nat) : State := { s with classes := terase s.classes k }

/-- The manifest entry of a label (R28). -/
def State.manifest (s : State) (label : Nat) : Option Manifest := tfind s.manifests label

def State.setManifest (s : State) (label : Nat) (m : Manifest) : State :=
  { s with manifests := tset s.manifests label m }

def State.removeManifest (s : State) (label : Nat) : State :=
  { s with manifests := terase s.manifests label }

/-- What the Tray Index holds for a tray (R3). -/
def State.trayEntry (s : State) (tray : Nat) : Option TrayEntry := tfind s.trayIndex tray

def State.setTray (s : State) (tray : Nat) (e : TrayEntry) : State :=
  { s with trayIndex := tset s.trayIndex tray e }

def State.clearTray (s : State) (tray : Nat) : State :=
  { s with trayIndex := terase s.trayIndex tray }

/-- The settle context of a station address; none is empty (R76). -/
def State.settleContext (s : State) (a : Nat) : Option SettleContext := tfind s.settle a

def State.setSettle (s : State) (a : Nat) : Option SettleContext → State
  | none => { s with settle := terase s.settle a }
  | some c => { s with settle := tset s.settle a c }

/-- A Poll Schedule Area entry; none is SKIP (R50). -/
def State.scheduleEntry (s : State) (i : Nat) : Option Poll := tfind s.schedule i

def State.setScheduleEntry (s : State) (i : Nat) : Option Poll → State
  | none => { s with schedule := terase s.schedule i }
  | some p => { s with schedule := tset s.schedule i p }

end Sys2Proof.Machine
end

