-- ==== Sys2Proof/Machine/Flags.lean ====
section
/-! DEFINITION. The conditions of the status word and what follows from them: the status word, the
attention outputs, the READY outputs and the lamps. All are computed from their causes, so a level
condition is present exactly while its cause holds (R178). -/

namespace Sys2Proof.Machine

/-- Free report records (R175): the pool of 128 less the records in the two queues. -/
def State.freeRecords (s : State) : Nat := Config.reportRecords - (s.urgent.length + s.routine.length)

/-- Live items: entries not FREE (R162). -/
def State.liveItems (s : State) : Nat :=
  tcount Item.empty s.items Config.itemEntries (fun it => it.state != .free)

/-- R46. -/
def State.anyStationDown (s : State) : Bool :=
  (List.range Config.stationEntries).any fun a =>
    (s.station a).config.configured && (s.station a).run.health == .down

/-- R127. -/
def State.zoneBlocked (s : State) : Bool :=
  (List.range Config.zoneEntries).any fun z => (s.zone z).state == .blocked

/-- Whether a condition is present (R178). -/
def State.present (s : State) : Condition → Bool
  | .anyStationDown => s.anyStationDown
  | .reportWaiting => !(s.urgent.isEmpty && s.routine.isEmpty)
  | .poolEmpty => s.freeRecords == 0
  | .zoneBlocked => s.zoneBlocked
  | .holdActive => s.arbiter.hold.isSome
  | .roundActive => s.controller.state != .idle
  | .fifoNearFull => s.sticky.fifoNearFull
  | .fifoOverflow => s.sticky.fifoOverflow
  | .roundEnd => s.sticky.roundEnd
  | .holdExpired => s.sticky.holdExpired
  | .stationWentDown => s.sticky.stationWentDown

/-- The eleven conditions as a set, bit i for the i-th condition of R171. -/
def State.conditions (s : State) : BitVec 11 :=
  BitVec.ofBoolListLE
    [s.present .anyStationDown, s.present .reportWaiting, s.present .poolEmpty,
     s.present .zoneBlocked, s.present .holdActive, s.present .roundActive,
     s.present .fifoNearFull, s.present .fifoOverflow, s.present .roundEnd,
     s.present .holdExpired, s.present .stationWentDown]

/-- The status word as an answer carries it (R178). -/
def State.statusWord (s : State) : Results := .statusWord s.mode s.conditions

/-- A port's engine. -/
def State.port (s : State) : Port → PortEngine
  | .line => s.linePort
  | .sorter => s.sorterPort

def State.setPort (s : State) : Port → PortEngine → State
  | .line, e => { s with linePort := e }
  | .sorter, e => { s with sorterPort := e }

/-- The attention output of a port (R171), ATTN-L or ATTN-S. -/
def State.attention (s : State) (p : Port) : Bool := ((s.port p).mask &&& s.conditions) != 0

/-- The READY output of a port (R165). -/
def State.ready (s : State) (p : Port) : Bool :=
  s.resetN && match (s.port p).phase with
    | .responseReady _ => true
    | _ => false

/-- Whether a lamp source holds (R183). -/
def State.sourceActive (s : State) : LampSource → Bool
  | .off => false
  | .on => true
  | .runMode => s.mode == .run
  | .shadowMode => s.mode == .shadow
  | .anyStationDown => s.present .anyStationDown
  | .fifoNearFull => s.present .fifoNearFull
  | .reportWaiting => s.present .reportWaiting
  | .zoneBlocked => s.present .zoneBlocked
  | .holdActive => s.present .holdActive
  | .poolEmpty => s.present .poolEmpty

/-- The lamp outputs LAMP0 to LAMP3 (R183): dark while RESET_N is low. -/
def State.lampLit (s : State) (l : Lamp) : Bool :=
  s.resetN && s.sourceActive l.source && (l.pattern == .steady || s.blinkLit)

/-- Whether each lamp is active (R184). -/
def State.lampsActive (s : State) : Vector Bool 4 := s.lamps.map fun l => s.sourceActive l.source

/-- The answer of LAMP SET (R184). -/
def State.lampResults (s : State) : Results := .lamps s.lamps s.lampsActive

/-- Whether the Station Link transmitter is enabled (R59, R190). -/
def State.transmitterEnabled (s : State) : Bool := s.resetN && s.mode != .configure

/-- The stickies after STATUS CLEAR names a set (R179). -/
def Sticky.clearNamed (k : Sticky) (set : Nat) : Sticky :=
  { fifoNearFull := k.fifoNearFull && !set.testBit 6
    fifoOverflow := k.fifoOverflow && !set.testBit 7
    roundEnd := k.roundEnd && !set.testBit 8
    holdExpired := k.holdExpired && !set.testBit 9
    stationWentDown := k.stationWentDown && !set.testBit 10 }

/-- The place of a counter among the 24 (R180). -/
def Counter.index : Counter → Fin 24
  | .inducted => 0
  | .gradeA => 1
  | .gradeB => 2
  | .gradeC => 3
  | .gradeD => 4
  | .reviewed => 5
  | .recirculated => 6
  | .lateEvidence => 7
  | .noItemEvidence => 8
  | .fifoDropped => 9
  | .weighUnsettled => 10
  | .scanIncomplete => 11
  | .scanPassDiscarded => 12
  | .badReplies => 13
  | .divertFailed => 14
  | .missorted => 15
  | .removed => 16
  | .noSlot => 17
  | .reportsLost => 18
  | .heldAnswers => 19
  | .portOverruns => 20
  | .skippedPolls => 21
  | .kindMismatch => 22
  | .excessUnits => 23

/-- A live counter's value, held at 65535 (R180). -/
def Counters.live (k : Counters) (i : Fin 24) : Nat := min Config.counterMax (k.base[i] + k.recent[i])

/-- A counter raised by `n` (R180). -/
def Counters.raise (k : Counters) (i : Fin 24) (n : Nat) : Counters :=
  { k with recent := k.recent.set i (k.recent[i] + n) i.isLt }

/-- The event taken last has ended: none of its raises can fall after a later snapshot (R181). -/
@[irreducible] def Counters.fold (k : Counters) : Counters :=
  { base := Vector.ofFn k.live, recent := Vector.replicate 24 0 }

/-- A live counter's value. -/
def State.counter (s : State) (c : Counter) : Nat := s.counters.live c.index

/-- A counter raised by `n` and held at 65535 (R180). -/
def State.bumpBy (s : State) (c : Counter) (n : Nat) : State :=
  { s with counters := s.counters.raise c.index n }

/-- A counter raised by 1. -/
def State.bump (s : State) (c : Counter) : State := s.bumpBy c 1

end Sys2Proof.Machine
end

