-- ==== Sys2Proof/Machine/Ops.lean ====
section
/-! DEFINITION. The operations the families share: completing a request, the waiting set and the
arbiter's choice, joining the Grade Queue, reservations, and retirement. -/

namespace Sys2Proof.Machine

/-! ### Answers -/

/-- What the work of a request answers. -/
structure Answer where
  code : Code
  results : Results := .none
  held : Bool := false
deriving DecidableEq, Repr

/-- A request's work ends: the engine enters RESPONSE_READY with the response, which names the tag and
the request code (R165, R197). -/
def State.respond (s : State) (p : Port) (tag request : Nat) (a : Answer) : State :=
  s.setPort p { s.port p with
    phase := .responseReady { code := a.code, request := request, tag := tag, held := a.held,
                              results := a.results } }

/-- The event taken last has ended, and with it what a later snapshot can divide (R181, log 18): an access
begins, another event that may raise counters begins, a response is read, or a Line Port transaction has
come to its end. -/
def State.closeRaises (s : State) : State := { s with counters := s.counters.fold }

/-- A request frame discarded as an overrun (R168). -/
def State.overrun (s : State) (p : Port) : State :=
  (s.closeRaises.setPort p { s.port p with overrun := true }).bump .portOverruns

/-- A write-request transaction on the Line Port comes to its end: the raises made until then lie before
any later snapshot, which is a Line Port request itself (R165, R181). -/
def State.foldRaises (s : State) : Port → State
  | .line => s.closeRaises
  | .sorter => s

/-- A write-request transaction comes to its end: MISO carried 00 while the request was written (R196). -/
def State.written (s : State) (p : Port) : State :=
  (s.setPort p { s.port p with miso := [] }).foldRaises p

/-! ### The waiting set and the grant order (R152, R155) -/

def WaitingSet.has (w : WaitingSet) : Client → Bool
  | .lpe => w.lpe
  | .spe => w.spe
  | .ec => w.ec
  | .gc => w.gc

def WaitingSet.put (w : WaitingSet) (b : Bool) : Client → WaitingSet
  | .lpe => { w with lpe := b }
  | .spe => { w with spe := b }
  | .ec => { w with ec := b }
  | .gc => { w with gc := b }

/-- The first waiting client in the order SPE, GC, EC, LPE. -/
def WaitingSet.sorterFirst (w : WaitingSet) : Option Client :=
  if w.spe then some .spe else if w.gc then some .gc else if w.ec then some .ec
  else if w.lpe then some .lpe else none

/-- The ring LPE, SPE, EC, GC, LPE. -/
def Client.next : Client → Client
  | .lpe => .spe
  | .spe => .ec
  | .ec => .gc
  | .gc => .lpe

/-- The first waiting client on the ring, starting after the pointer. -/
def WaitingSet.rotate (w : WaitingSet) (pointer : Client) : Option Client :=
  [pointer.next, pointer.next.next, pointer.next.next.next, pointer].find? w.has

/-- The client the arbiter grants when the store is free (R152); during a hold the Line Port Engine
alone (R155). -/
def Arbiter.choice (a : Arbiter) : Option Client :=
  if a.hold.isSome then (if a.waiting.lpe then some .lpe else none)
  else match a.strategy with
    | .sorterFirst => a.waiting.sorterFirst
    | .rotate => a.waiting.rotate a.pointer
    | .chained => a.waiting.sorterFirst

/-- Whether a request posted now is granted at once: the store is free, and no client waits (R152),
or a hold is open and the client is the Line Port Engine (R155). -/
def Arbiter.grantsAtOnce (a : Arbiter) (c : Client) (m : Moment) : Bool :=
  a.holder.isNone && m == .storeFree &&
    (if a.hold.isSome then c == .lpe else a.waiting == .empty)

/-- A client's request is posted and waits. -/
def State.postWaiting (s : State) (c : Client) : State :=
  { s with arbiter := { s.arbiter with waiting := s.arbiter.waiting.put true c } }

/-- What a grant leaves of the arbiter: the client is out of the waiting set and the rotation pointer
names it (R152). -/
def State.granted (s : State) (c : Client) : State :=
  { s with arbiter := { s.arbiter with waiting := s.arbiter.waiting.put false c, pointer := c } }

/-- The client is granted (R152) and its access begins, so the event taken last has ended (R181). -/
def State.markGranted (s : State) (c : Client) : State := (s.granted c).closeRaises

/-! ### Items and the Grade Queue -/

/-- The item the Tray Index maps a tray to, with its index. Under R3 the index names active items
only; an entry that is not active is answered as nothing. -/
def State.itemOnTray (s : State) (tray : Nat) : Option (Nat × Item) :=
  match s.trayEntry tray with
  | none => none
  | some e =>
    match (s.item e.index).state with
    | .free | .retiring => none
    | _ => some (e.index, s.item e.index)

/-- Whether every kind of a required set is present among an item's evidence (R86). -/
def Item.complete (it : Item) (required : BitVec 4) : Bool :=
  (!required.getLsbD (kindBit .weigh) || it.weight.isSome) &&
  (!required.getLsbD (kindBit .tag) || it.tag.isSome) &&
  (!required.getLsbD (kindBit .scan) || it.scan.isSome) &&
  (!required.getLsbD (kindBit .wear) || it.wear.isSome)

/-- An item becomes QUEUED and joins the tail of the Grade Queue (R105). When the Grade Computer is
IDLE it enters FETCH_WAIT and posts its request; the access in progress makes it wait (R106). -/
def State.enqueue (s : State) (i : Nat) (it : Item) : State :=
  let s := s.setItem i { it with state := .queued }
  let s := { s with gradeQueue := s.gradeQueue ++ [i] }
  match s.grader with
  | .idle => { s with grader := .fetchWait }.postWaiting .gc
  | _ => s

/-- "laps + 1" (R9). -/
def Item.lapDone (it : Item) : Item := { it with laps := min 15 (it.laps + 1) }

/-- "attempts + 1 (held at 7)" (R14, R19). -/
def Item.attemptDone (it : Item) : Item := { it with attempts := min 7 (it.attempts + 1) }

/-- The bin in which an item holds a reservation: in DECIDED or ROUTED, decided in RUN, with a bin
present (R1). Every live item was decided in the mode that is current. -/
def State.reservation (s : State) (it : Item) : Option Nat :=
  if s.mode = .run ∧ (it.state = .decided ∨ it.state = .routed) then it.bin else none

/-! ### Reservations (R136, R139, R140) -/

def Bin.isEmpty (b : Bin) : Bool := b.committed == 0 && b.reserved == 0

/-- The room of a bin (R131). -/
def Bin.room (b : Bin) : Nat := b.capacity - (b.committed + b.reserved)

/-- The current class once a bin may have become empty: an empty bin with affinity ANY has none
(R132). -/
def Bin.settleClass (b : Bin) : Bin :=
  if b.isEmpty && b.affinity.isNone then { b with cls := none } else b

/-- A unit is reserved for class `k` (R136). -/
def Bin.reserve (b : Bin) (k : Nat) : Bin :=
  { b with reserved := b.reserved + 1, cls := some (b.cls.getD k) }

/-- One reservation is returned (R140). -/
def Bin.release (b : Bin) : Bin := { b with reserved := b.reserved - 1 }.settleClass

/-- One unit moves from reserved to committed (R139). A bin without a reservation, which R138 keeps
from a commit, has no unit to move. -/
def Bin.commit (b : Bin) : Bin :=
  { b with reserved := b.reserved - min 1 b.reserved, committed := b.committed + min 1 b.reserved }

/-- A release in a numbered bin. -/
def State.releaseBin (s : State) (b : Nat) : State := s.setBin b (s.bin b).release

/-- The release of an item's reservation, where it holds one (R140). The item's bin field is the
caller's. -/
def State.releaseReservation (s : State) (it : Item) : State :=
  match s.reservation it with
  | some b => s.releaseBin b
  | none => s

/-! ### Reports and retirement (R174, R175, R23) -/

/-- A report built from an item record (R174). -/
def Report.ofItem (mode : Mode) (it : Item) : Report :=
  { ticket := it.ticket, tray := it.tray, label := it.label, cls := it.cls,
    disposition := it.disposition.getD .review, reason := it.reason, grade := it.grade,
    score := it.score, weight := it.weight, peakCount := it.scan.map (·.total), bin := it.bin,
    chute := it.chute.getD 0, actualChute := it.actualChute, laps := it.laps,
    attempts := it.attempts, late := it.late, shadow := mode == .shadow,
    excessUnit := it.excessUnit, noManifest := it.noManifest }

/-- A report joins the urgent or the routine queue by its reason (R175). -/
def State.queueReport (s : State) (r : Report) : State :=
  if r.reason = .none then { s with routine := s.routine ++ [r] }
  else { s with urgent := s.urgent ++ [r] }

/-- Retirement (R23): the pair leaves the Tray Index; with a free record the report is built and the
entry becomes FREE, otherwise the item becomes RETIRING on the wait list. `it` is the record the
request leaves. -/
def State.retire (s : State) (i : Nat) (it : Item) : State :=
  let s := s.clearTray it.tray
  if s.freeRecords = 0 then
    { s.setItem i { it with state := .retiring } with waitList := s.waitList ++ [i] }
  else (s.queueReport (Report.ofItem s.mode it)).setItem i Item.empty

/-- A freed record goes to the item at the head of the retire wait list (R24). -/
def State.serveWaitList (s : State) : State :=
  match s.waitList with
  | [] => s
  | i :: rest =>
    ({ s with waitList := rest }.queueReport (Report.ofItem s.mode (s.item i))).setItem i Item.empty

end Sys2Proof.Machine
end

