-- ==== Sys2Proof/Machine/Arbiter.lean ====
section
/-! DEFINITION. The arbiter's own requests and the store hold (R153 to R160). -/

namespace Sys2Proof.Machine

/-- The requests refused MODE in CONFIGURE (R169). -/
def refusedInConfigure : Request → Bool
  | .induct .. | .destination .. | .diverted .. | .divertFailed .. | .trayCleared .. | .chuteClear ..
  | .scheduleStart .. | .scheduleStage .. | .scheduleCancel | .singlePoll .. => true
  | _ => false

/-- Check 4 of the port checks (R166). -/
def refusedInMode (mode : Mode) (r : Request) : Bool := mode == .configure && refusedInConfigure r

/-- A Sorter Port store request during a hold, after its checks (R156): a DESTINATION is answered
RECIRCULATE flagged HELD, the others are refused HELD. -/
def answerUnderHold (r : Request) (s : State) : Answer × State :=
  if refusedInMode s.mode r then ({ code := .mode }, s)
  else
    match r with
    | .destination _ =>
      ({ code := .ok, results := .destination .recirculate 0, held := true },
       s.closeRaises.bump .heldAnswers)
    | _ => ({ code := .held }, s)

/-- A waiting Sorter Port request is withdrawn at the opening of a hold and answered (R157). -/
def State.withdrawSorter (s : State) : State :=
  match s.sorterPort.phase with
  | .executing tag r =>
    let a := answerUnderHold r s
    { a.2 with arbiter := { a.2.arbiter with waiting := a.2.arbiter.waiting.put false .spe } }.respond
      .sorter tag (requestCode r) a.1
  | _ => s

/-- HOLD BEGIN at its grant (R154, R157). -/
def workHoldBegin (s : State) : Answer × State :=
  if s.arbiter.hold.isSome then ({ code := .held }, s)
  else
    ({ code := .ok, results := .milliseconds s.arbiter.holdLimit },
     { s with arbiter := { s.arbiter with hold := some s.arbiter.holdLimit } }.withdrawSorter)

/-- How long an open hold started with limit `l` has lasted, read now: a free value, at most `l`. -/
def State.heldMs (s : State) (l : Nat) : Nat := min l (Config.holdElapsedMs s.freeReads)

/-- HOLD END (R159). -/
def workHoldEnd (s : State) : Answer × State :=
  match s.arbiter.hold with
  | none => ({ code := .notHeld }, s)
  | some l =>
    ({ code := .ok, results := .milliseconds (s.heldMs l) },
     { s with arbiter := { s.arbiter with hold := none }, freeReads := s.freeReads + 1 })

/-- The arbiter's state as ARBITER SET answers it (R153). -/
def State.arbiterResults (s : State) : Results :=
  .arbiter s.arbiter.strategy s.arbiter.holdLimit (s.arbiter.hold.map fun l => l - s.heldMs l)
    s.arbiter.pointer

/-- A reading of the hold timer is counted, so that the next one is free anew. -/
def State.countReading (s : State) : State :=
  if s.arbiter.hold.isSome then { s with freeReads := s.freeReads + 1 } else s

/-- ARBITER SET (R153). -/
def workArbiterSet (strategy limit : Nat) (s : State) : Answer × State :=
  match readStrategy strategy with
  | none => ({ code := .range, results := s.arbiterResults }, s.countReading)
  | some k =>
    if inRange 1 250 limit then
      let s' := { s with arbiter := { s.arbiter with strategy := k, holdLimit := limit } }
      ({ code := .ok, results := s'.arbiterResults }, s'.countReading)
    else ({ code := .range, results := s.arbiterResults }, s.countReading)

/-- The hold timer runs out (R160). -/
def holdExpires (s : State) : State :=
  if s.arbiter.hold.isSome then
    { s with arbiter := { s.arbiter with hold := none },
             sticky := { s.sticky with holdExpired := true } }
  else s

end Sys2Proof.Machine
end

