-- ==== Sys2Proof/Machine/Catalog.lean ====
section
/-! DEFINITION. The work of the requests over the Manifest Directory, the Class Table and the line
settings (R28 to R43). -/

namespace Sys2Proof.Machine

/-! ### Manifests -/

/-- The directory occupancy (R28). -/
def State.manifestCount (s : State) : Nat := s.manifests.length

/-- MANIFEST POST (R29). -/
def workManifestPost (o : ManifestOperands) (s : State) : Answer × State :=
  match readManifest o with
  | none => ({ code := .range, results := .posted none s.manifestCount }, s)
  | some m =>
    match s.manifest o.label with
    | some old =>
      if 0 < old.received then ({ code := .inUse, results := .posted none s.manifestCount }, s)
      else
        let s' := s.setManifest o.label m
        ({ code := .ok, results := .posted (some .replaced) s'.manifestCount }, s')
    | none =>
      if Config.manifestEntries ≤ s.manifestCount then
        ({ code := .full, results := .posted none s.manifestCount }, s)
      else
        let s' := s.setManifest o.label m
        ({ code := .ok, results := .posted (some .inserted) s'.manifestCount }, s')

/-- MANIFEST WITHDRAW (R30). -/
def workManifestWithdraw (label : Nat) (s : State) : Answer × State :=
  if label = 0 then ({ code := .range }, s)
  else
    match s.manifest label with
    | none => ({ code := .notFound }, s)
    | some m =>
      let s' := s.removeManifest label
      ({ code := .ok, results := .withdrawn m.expected m.received s'.manifestCount }, s')

/-- MANIFEST READ (R31). -/
def workManifestRead (label : Nat) (s : State) : Answer × State :=
  if label = 0 then ({ code := .range }, s)
  else
    match s.manifest label with
    | none => ({ code := .notFound }, s)
    | some m => ({ code := .ok, results := .manifest label m }, s)

/-! ### Classes -/

/-- CLASS WRITE (R37). -/
def workClassWrite (k : Nat) (o : ClassOperands) (s : State) : Answer × State :=
  if 63 < k then ({ code := .range }, s)
  else
    match readClassRecord o with
    | none => ({ code := .range }, s)
    | some r => if limitsInOrder r then ({ code := .ok }, s.setClass k r) else ({ code := .order }, s)

/-- CLASS READ (R40). -/
def workClassRead (k : Nat) (s : State) : Answer × State :=
  if 63 < k then ({ code := .range }, s)
  else ({ code := .ok, results := .classRecord (s.classValid k) (s.classRecord k) }, s)

/-- CLASS CLEAR (R39). -/
def workClassClear (k : Nat) (s : State) : Answer × State :=
  if 63 < k then ({ code := .range }, s) else ({ code := .ok }, s.clearClass k)

/-! ### Line settings -/

/-- LINE SET (R43): refused MODE outside CONFIGURE before its fields are checked. -/
def workLineSet (o : LineOperands) (s : State) : Answer × State :=
  if s.mode = .configure then
    match readLineSettings o with
    | none => ({ code := .range, results := .line s.line }, s)
    | some l => ({ code := .ok, results := .line l }, { s with line := l })
  else ({ code := .mode, results := .line s.line }, s)

/-- TABLE LIMITS (R162): the occupancies; the capacities are fixed. -/
def workTableLimits (s : State) : Answer × State :=
  ({ code := .ok,
     results := .limits s.liveItems s.manifestCount
       ((List.range Config.classEntries).countP s.classValid)
       (tcount Bin.atReset s.bins Config.binEntries (fun b => b.enabled))
       s.freeRecords s.fifo.length }, s)

end Sys2Proof.Machine
end

