-- ==== Sys2Proof/Machine/Restock.lean ====
section
/-! DEFINITION. The Restock Allocator (R127 to R149): the allocation search, reallocation, and the work
of the zone and bin requests. -/

namespace Sys2Proof.Machine

/-! ### The search (R133 to R135) -/

/-- The candidate zones (R133): the preference list without repeats, then the overflow zone unless the
list names it. -/
def candidateZones (prefs : List Nat) (overflow : Option Nat) : List Nat :=
  let listed := prefs.foldl (fun acc z => if acc.contains z then acc else acc ++ [z]) []
  match overflow with
  | none => listed
  | some z => if listed.contains z then listed else listed ++ [z]

/-- The first of a list that no later one beats: `better b a` says that `b`, which stands later, is
ranked before `a`. -/
def bestOf (better : Nat → Nat → Bool) : List Nat → Option Nat
  | [] => none
  | a :: t =>
    match bestOf better t with
    | none => some a
    | some b => if better b a then some b else some a

/-- The bins of a zone that satisfy a condition, in number order. -/
def State.binsOf (s : State) (z : Nat) (p : Bin → Bool) : List Nat :=
  (List.range Config.binEntries).filter fun b => (s.bin b).zone == z && p (s.bin b)

/-- Whether step (a) considers a bin (R134). -/
def Bin.inUseFor (k : Nat) (lane : Lane) (b : Bin) : Bool :=
  b.enabled && b.lane == lane && b.cls == some k && decide (1 ≤ b.room)

/-- Whether step (b) considers a bin (R135). -/
def Bin.openableFor (k : Nat) (lane : Lane) (b : Bin) : Bool :=
  b.enabled && b.lane == lane && b.isEmpty && decide (1 ≤ b.capacity) &&
    (b.affinity == some k || b.affinity.isNone)

/-- Step (a): the least room, then the lowest number (R134). -/
def State.stepA (s : State) (z k : Nat) (lane : Lane) : Option Nat :=
  bestOf (fun b a => decide ((s.bin b).room < (s.bin a).room)) (s.binsOf z (Bin.inUseFor k lane))

/-- The ranking of step (b): affinity k before ANY, then the greater capacity, then the lower number
(R135). `openBefore k b a` says that a later-numbered `b` ranks before `a`. -/
def Bin.openBefore (k : Nat) (b a : Bin) : Bool :=
  if b.affinity == some k && a.affinity != some k then true
  else if b.affinity != some k && a.affinity == some k then false
  else decide (a.capacity < b.capacity)

/-- Step (b): an empty bin to open for the class (R135). -/
def State.stepB (s : State) (z k : Nat) (lane : Lane) : Option Nat :=
  bestOf (fun b a => Bin.openBefore k (s.bin b) (s.bin a)) (s.binsOf z (Bin.openableFor k lane))

/-- The search in one zone: a zone not OPEN is passed over; step (a), then step (b) (R133). -/
def State.searchZone (s : State) (k : Nat) (lane : Lane) (z : Nat) : Option Nat :=
  if (s.zone z).state = .opened then
    match s.stepA z k lane with
    | some b => some b
    | none => s.stepB z k lane
  else none

/-- The allocation search (R133): the bin found in the first candidate zone that has one; none is
NO_SLOT. -/
def State.searchBin (s : State) (prefs : List Nat) (k : Nat) (lane : Lane) : Option Nat :=
  (candidateZones prefs s.line.overflowZone).findSome? (s.searchZone k lane)

/-- The lane of a restock disposition (R119). -/
def Disposition.lane : Disposition → Option Lane
  | .restockNew => some .new
  | .restockSecond => some .second
  | _ => none

/-- A bin is reserved for class `k` (R136). -/
def State.reserveBin (s : State) (b k : Nat) : State := s.setBin b ((s.bin b).reserve k)

/-- Reallocation out of bin `b` (R15, R141): the reservation is released and the search made again
with the class as the Class Table holds it; the item's new record and the state. -/
def State.reallocate (s : State) (it : Item) (b : Nat) : Item × State :=
  let s := s.releaseBin b
  let lane := (it.disposition.bind Disposition.lane).getD .new
  match s.searchBin (s.classRecord it.cls).prefs it.cls lane with
  | some b' =>
    ({ it with bin := some b', chute := some (s.zone (s.bin b').zone).chute }, s.reserveBin b' it.cls)
  | none =>
    ({ it with disposition := some .review, reason := .noSlot, chute := some s.line.reviewChute,
               bin := none },
     (s.bump .noSlot).bump .reviewed)

/-- Reallocation where the item holds a reservation in a bin whose zone is BLOCKED (R13, R14). -/
def State.reallocateIfBlocked (s : State) (it : Item) : Item × State :=
  match s.reservation it with
  | some b => if (s.zone (s.bin b).zone).state = .blocked then s.reallocate it b else (it, s)
  | none => (it, s)

/-! ### Zones -/

/-- How many bins name a zone (R128). -/
def State.binsNaming (s : State) (z : Nat) : Nat :=
  tcount Bin.atReset s.bins Config.binEntries (fun b => b.zone == z)

def State.zoneResults (s : State) (z : Nat) : Results := .zone (s.zone z) (s.binsNaming z)

/-- ZONE SET (R128). -/
def workZoneSet (z chute zstate : Nat) (s : State) : Answer × State :=
  if 31 < z then ({ code := .range }, s)
  else
    match readZoneState zstate with
    | some .opened =>
      if inRange 1 47 chute then
        let s' := s.setZone z { chute := chute, state := .opened }
        ({ code := .ok, results := s'.zoneResults z }, s')
      else ({ code := .range, results := s.zoneResults z }, s)
    | some .closed =>
      if chute ≤ 47 then
        let s' := s.setZone z { chute := chute, state := .closed }
        ({ code := .ok, results := s'.zoneResults z }, s')
      else ({ code := .range, results := s.zoneResults z }, s)
    | _ => ({ code := .range, results := s.zoneResults z }, s)

/-- A zone after a CHUTE_FULL divert failure of an item bound for `chute` (R19). -/
def Zone.blockFor (chute : Nat) (z : Zone) : Zone :=
  if z.state = .opened ∧ z.chute = chute then { z with state := .blocked } else z

/-- A zone after CHUTE CLEAR of `chute` (R21). -/
def Zone.clearFor (chute : Nat) (z : Zone) : Zone :=
  if z.state = .blocked ∧ z.chute = chute then { z with state := .opened } else z

/-- A change of every zone record. -/
def State.updateZones (s : State) (f : Zone → Zone) : State :=
  { s with zones := tupdate Zone.atReset f Config.zoneEntries s.zones }

/-! ### Bins -/

/-- What every answer to a SLOT request that names a bin carries (R142). -/
def State.slotResults (s : State) (b : Nat) (amount : Option Nat) : Results :=
  .slot amount (s.bin b) (s.bin b).room (s.zone (s.bin b).zone)

/-- The current class SLOT SET gives (R132). -/
def Bin.withSettings (b : Bin) (n : SlotSettings) : Bin :=
  { b with zone := n.zone, lane := n.lane, capacity := n.capacity, affinity := n.affinity,
           enabled := n.enabled,
           cls := match n.affinity with
             | some k => some k
             | none => if b.isEmpty then none else b.cls }

/-- The occupancy checks of SLOT SET: R143 in CONFIGURE, R144 in SHADOW and RUN. -/
def Bin.settingsRefused (mode : Mode) (b : Bin) (n : SlotSettings) : Bool :=
  match mode with
  | .configure => decide (n.capacity < b.committed + b.reserved)
  | _ =>
    ((n.zone != b.zone || n.lane != b.lane || n.affinity != b.affinity) && !b.isEmpty)
    || decide (n.capacity < b.committed + b.reserved)
    || (!n.enabled && decide (0 < b.reserved))

/-- SLOT SET (R143, R144). -/
def workSlotSet (b : Nat) (o : SlotOperands) (s : State) : Answer × State :=
  if 1023 < b then ({ code := .range }, s)
  else
    match readSlotSettings o with
    | none => ({ code := .range, results := s.slotResults b none }, s)
    | some n =>
      if (s.bin b).settingsRefused s.mode n then
        ({ code := .occupied, results := s.slotResults b none }, s)
      else
        let s' := s.setBin b ((s.bin b).withSettings n)
        ({ code := .ok, results := s'.slotResults b none }, s')

/-- A bin after SLOT ADJUST counted `n` units of class `k` (R145). -/
def Bin.adjust (b : Bin) (n : Nat) (k : Option Nat) : Bin :=
  let committed := min n (b.capacity - b.reserved)
  { b with committed := committed,
           cls := if b.cls.isNone && decide (0 < committed) then k else b.cls }.settleClass

/-- SLOT ADJUST (R145). -/
def workSlotAdjust (b counted cls : Nat) (s : State) : Answer × State :=
  if 1023 < b then ({ code := .range }, s)
  else
    match readOptional 63 cls with
    | none => ({ code := .range, results := s.slotResults b none }, s)
    | some k =>
      if 255 < counted then ({ code := .range, results := s.slotResults b none }, s)
      else if k.isSome && (s.bin b).cls.isSome && k != (s.bin b).cls then
        ({ code := .classConflict, results := s.slotResults b none }, s)
      else if decide (0 < counted) && k.isNone && (s.bin b).cls.isNone then
        ({ code := .noClass, results := s.slotResults b none }, s)
      else
        let r := (s.bin b).adjust counted k
        let s' := s.setBin b r
        ({ code := .ok, results := s'.slotResults b (some (counted - r.committed)) }, s')

/-- SLOT RELEASE (R146). -/
def workSlotRelease (b n : Nat) (s : State) : Answer × State :=
  if 1023 < b then ({ code := .range }, s)
  else if 255 < n then ({ code := .range, results := s.slotResults b none }, s)
  else
    let taken := min n (s.bin b).committed
    let s' := s.setBin b { s.bin b with committed := (s.bin b).committed - taken }.settleClass
    ({ code := .ok, results := s'.slotResults b (some taken) }, s')

/-- SLOT READ (R147). -/
def workSlotRead (b : Nat) (s : State) : Answer × State :=
  if 1023 < b then ({ code := .range }, s)
  else ({ code := .ok, results := s.slotResults b none }, s)

/-- A bin after LINE RESTART (R149). -/
def Bin.afterRestart (b : Bin) : Bin := { b with reserved := 0 }.settleClass

end Sys2Proof.Machine
end

