-- ==== Sys2Proof/Machine/Grading.lean ====
section
/-! DEFINITION. The Grade Computer (R105 to R126): fetch, computation and write-back. -/

namespace Sys2Proof.Machine

/-! ### The computation (R112 to R116) -/

/-- Whether a copied class requires a kind. -/
def GradeCopy.requires (c : GradeCopy) (k : Kind) : Bool := c.record.required.getLsbD (kindBit k)

/-- The allowance A (R113): the greater of TolFloor and ⌈N × TolPermille / 1000⌉, and never 0. -/
def allowance (r : ClassRecord) (n : Nat) : Nat :=
  max 1 (max r.tolFloor ((n * r.tolPermille + 999) / 1000))

/-- The difference D (R113): the magnitude of W − N. -/
def weightDifference (n w : Nat) : Nat := (w - n) + (n - w)

/-- Pw for a weight that is present (R113). -/
def weightCost (r : ClassRecord) (n w : Nat) : Nat :=
  min r.wCap ((weightDifference n w - allowance r n) * r.kw / allowance r n)

/-- The weight term Pw (R112, R113). -/
def weightTerm (c : GradeCopy) : Nat :=
  if c.requires .weigh then
    match c.nominal, c.weight with
    | none, _ => 0
    | some _, none => c.record.wCap
    | some n, some w => weightCost c.record n w
  else 0

/-- What one kept peak costs (R114). -/
def peakCost (r : ClassRecord) (p : Peak) : Nat :=
  (p.amp.natAbs + 1 - r.threshold) * (if p.amp < 0 then r.kDark else r.kLight)

/-- Ps for scan evidence that is present (R114). -/
def scanCost (r : ClassRecord) (e : ScanEvidence) : Nat :=
  min r.sCap ((e.peaks.map (peakCost r)).sum + (e.total - e.peaks.length) * r.kx)

/-- The scan term Ps (R112, R114). -/
def scanTerm (c : GradeCopy) : Nat :=
  if c.requires .scan then
    match c.scan with
    | none => c.record.sCap
    | some e => scanCost c.record e
  else 0

/-- Pu for a wear reading that is present (R115). -/
def wearCost (r : ClassRecord) (w : WearReading) : Nat :=
  min r.uCap ((w.index - r.uFree) * r.ku / 16 + (if w.pilling then r.pPill else 0))

/-- The wear term Pu (R112, R115). -/
def wearTerm (c : GradeCopy) : Nat :=
  if c.requires .wear then
    match c.wear with
    | none => c.record.uCap
    | some w => wearCost c.record w
  else 0

/-- Pt for a tag state (R115). -/
def tagCost (r : ClassRecord) : TagState → Nat
  | .intact => 0
  | .detached => r.ptDet
  | .absent | .unread => r.ptAbs

/-- The tag term Pt (R112, R115). -/
def tagTerm (c : GradeCopy) : Nat :=
  if c.requires .tag then
    match c.tag with
    | none => c.record.ptAbs
    | some t => tagCost c.record t.tag
  else 0

/-- The score S (R116). -/
def scoreOf (c : GradeCopy) : Nat :=
  min 1000 (weightTerm c + scanTerm c + wearTerm c + tagTerm c)

/-- The grade a score gives under a record's limits (R116). -/
def gradeOf (r : ClassRecord) (score : Nat) : Grade :=
  if score ≤ r.limA then .a else if score ≤ r.limB then .b else if score ≤ r.limC then .c else .d

/-- The result of the computation (R109): none for an invalid class. -/
def computeResult (c : GradeCopy) : Option GradeResult :=
  if c.valid then some { score := scoreOf c, grade := gradeOf c.record (scoreOf c) } else none

/-! ### Disposition (R117, R118) -/

/-- Case 4: a SKU class was read and differs from the item's class. -/
def GradeCopy.wrongItem (c : GradeCopy) : Bool :=
  match c.tag with
  | some t => t.sku.isSome && t.sku != some c.cls
  | none => false

/-- Case 5: weight and nominal weight present, and D above GrossFactor × A. -/
def GradeCopy.grossWeight (c : GradeCopy) : Bool :=
  match c.weight, c.nominal with
  | some w, some n => decide (c.record.grossFactor * allowance c.record n < weightDifference n w)
  | _, _ => false

/-- Case 6: hygiene flag, and no INTACT tag. -/
def GradeCopy.hygieneBreach (c : GradeCopy) : Bool :=
  c.hygiene && match c.tag with
    | some t => t.tag != .intact
    | none => true

/-- The grade map's entry (R118). -/
def ClassRecord.mapped (r : ClassRecord) : Grade → Disposition
  | .a => r.mapA
  | .b => r.mapB
  | .c => r.mapC
  | .d => r.mapD

/-- The high-value test (R118). -/
def GradeCopy.highValue (c : GradeCopy) (g : Grade) : Bool :=
  match c.band with
  | some b => decide (c.record.highBand ≤ b) && g != .a
  | none => false

/-- The override list and the grade map (R117, R118). -/
def decideDisposition (c : GradeCopy) (result : Option GradeResult) : Disposition × Reason :=
  if c.noManifest then (.review, .noManifest)
  else match result with
    | none => (.review, .noClass)
    | some r =>
      if c.excessUnit then (.review, .excessUnit)
      else if c.wrongItem then (.review, .wrongItem)
      else if c.grossWeight then (.review, .weightGross)
      else if c.hygieneBreach then (.recycle, .hygiene)
      else if c.highValue r.grade then (.review, .highValue)
      else (c.record.mapped r.grade, .none)

/-! ### Fetch (R107, R108) -/

/-- The copy of an item and its class (R108). -/
def State.gradeCopy (s : State) (i : Nat) : GradeCopy :=
  let it := s.item i
  { index := i, ticket := it.ticket, tray := it.tray, cls := it.cls, nominal := it.nominal,
    band := it.band, hygiene := it.hygiene, noManifest := it.noManifest,
    excessUnit := it.excessUnit, weight := it.weight, tag := it.tag, scan := it.scan,
    wear := it.wear, valid := s.classValid it.cls, record := s.classRecord it.cls }

/-- The fetch access (R107). Under CHAINED a fetch that takes an item begins a chain, and the Grade
Computer keeps the store (R123, R152). -/
def gradingFetch (s : State) : State :=
  match s.gradeQueue with
  | [] => { s with grader := .idle }
  | i :: rest =>
    let copy := s.gradeCopy i
    let s' : State := { s.setItem i { s.item i with state := .grading } with
      gradeQueue := rest, grader := .computing copy }
    if s.arbiter.strategy = .chained then
      { s' with arbiter := { s'.arbiter with holder := some .gc, chain := true } }
    else s'

/-! ### Write-back (R110, R111, R120, R121) -/

/-- The chute of a disposition without a bin (R121). -/
def LineSettings.chuteFor (l : LineSettings) : Disposition → Nat
  | .refurbish => l.refurbishChute
  | .outlet => l.outletChute
  | .recycle => l.recycleChute
  | _ => l.reviewChute

/-- The chute step for a disposition that keeps no bin (R121): an unassigned chute sends the item to
review with reason NO_CHUTE. -/
def finishWithoutBin (l : LineSettings) (it : Item) (d : Disposition) (r : Reason) : Item :=
  if l.chuteFor d = 0 then
    { it with disposition := some .review, reason := .noChute, bin := none,
              chute := some l.reviewChute }
  else
    { it with disposition := some d, reason := r, bin := none, chute := some (l.chuteFor d) }

/-- The bin and chute steps (R111 steps 3 and 4): the item's record and the state, in which a bin found
in RUN is reserved and NO_SLOT is counted. -/
def State.placeItem (s : State) (c : GradeCopy) (it : Item) (d : Disposition) (r : Reason) :
    Item × State :=
  match d.lane with
  | none => (finishWithoutBin s.line it d r, s)
  | some lane =>
    match s.searchBin c.record.prefs c.cls lane with
    | some b =>
      ({ it with disposition := some d, reason := r, bin := some b,
                 chute := some (s.zone (s.bin b).zone).chute },
       if s.mode = .run then s.reserveBin b c.cls else s)
    | none => (finishWithoutBin s.line it .review .noSlot, s.bump .noSlot)

/-- The counter of a grade (R111). -/
def Grade.counter : Grade → Counter
  | .a => .gradeA
  | .b => .gradeB
  | .c => .gradeC
  | .d => .gradeD

/-- The counters an applied write-back raises for its grade and its final disposition (R111). -/
def State.countDecision (s : State) (result : Option GradeResult) (it : Item) : State :=
  let s := match result with
    | some r => s.bump r.grade.counter
    | none => s
  if it.disposition = some .review then s.bump .reviewed else s

/-- An applied result (R111). -/
def applyResult (c : GradeCopy) (result : Option GradeResult) (s : State) : State :=
  let it := { s.item c.index with score := result.map (·.score), grade := result.map (·.grade) }
  let d := decideDisposition c result
  let p := s.placeItem c it d.1 d.2
  (p.2.countDecision result p.1).setItem c.index { p.1 with state := .decided }

/-- The identity check (R110). -/
def State.stillGrading (s : State) (c : GradeCopy) : Bool :=
  (s.item c.index).state == .grading && (s.item c.index).ticket == c.ticket

/-- When the write-back access ends, the Grade Computer drops its copy; it posts a fetch when the queue
is not empty (R106). -/
def State.graderDone (s : State) : State :=
  if s.gradeQueue.isEmpty then { s with grader := .idle }
  else { s with grader := .fetchWait }.postWaiting .gc

/-- The write-back access (R110, R111): a failed check discards the result. -/
def gradingWriteBack (c : GradeCopy) (result : Option GradeResult) (s : State) : State :=
  (if s.stillGrading c then applyResult c result s else s).graderDone

end Sys2Proof.Machine
end

