-- ==== Sys2Proof/Machine/Items.lean ====
section
/-! DEFINITION. The work of the sorter item requests and of ITEM QUERY (R6 to R22), each as done in
its access. -/

namespace Sys2Proof.Machine

/-! ### INDUCT -/

/-- The lowest-numbered FREE entry (R8). -/
def State.freeEntry (s : State) : Option Nat :=
  (List.range Config.itemEntries).find? fun i => (s.item i).state == .free

/-- The next ticket after `t` (R2). -/
def ticketAfter (t : Nat) : Nat := if Config.lastTicket ≤ t then 1 else t + 1

/-- The new item before its state is known (R7, R8). -/
def State.newItem (s : State) (tray label : Nat) : Item :=
  let base := { Item.empty with
    ticket := s.nextTicket, tray := tray, label := if label = 0 then none else some label }
  match (if label = 0 then none else s.manifest label) with
  | some m =>
    { base with cls := m.cls, nominal := some m.nominal, band := some m.band,
                hygiene := m.hygiene, excessUnit := decide (m.expected ≤ m.received) }
  | none => { base with cls := s.line.fallbackClass, noManifest := true }

/-- The manifest side of an induction (R7): a found entry below its expected units counts one more. -/
def State.countReceived (s : State) (label : Nat) : State :=
  match (if label = 0 then none else s.manifest label) with
  | some m =>
    if m.received < m.expected then s.setManifest label { m with received := m.received + 1 }
    else s.bump .excessUnits
  | none => s

/-- INDUCT (R6 to R8). -/
def workInduct (tray label : Nat) (s : State) : Answer × State :=
  if Config.trays ≤ tray then ({ code := .range }, s)
  else if (s.itemOnTray tray).isSome then ({ code := .trayBusy }, s)
  else
    match s.freeEntry with
    | none => ({ code := .full }, s)
    | some i =>
      let it := s.newItem tray label
      let s1 := s.countReceived label
      let s2 := { s1 with nextTicket := ticketAfter s1.nextTicket }
      let s3 := (s2.setTray tray { index := i, ticket := it.ticket }).bump .inducted
      let s4 :=
        if s3.classValid it.cls && (s3.classRecord it.cls).required != 0#4 then
          s3.setItem i { it with state := .opened }
        else s3.enqueue i it
      ({ code := .ok, results := .inducted i it.ticket }, s4)

/-! ### DESTINATION -/

/-- The answer naming an item's chute (R11, R13, R14): ROUTE in RUN, PASS in SHADOW. -/
def State.chuteAnswer (s : State) (it : Item) : Answer :=
  { code := .ok,
    results := .destination (if s.mode = .run then .route else .pass) (it.chute.getD 0) }

def recirculate : Answer := { code := .ok, results := .destination .recirculate 0 }

/-- Re-decision to review (R16); the state is the caller's. -/
def State.redecide (s : State) (it : Item) : Item × State :=
  ({ it with bin := none, disposition := some .review, reason := .divertFailed,
             chute := some s.line.reviewChute },
   (s.releaseReservation it).bump .reviewed)

/-- Whether an item's attempts have reached the divert tries while it is not in REVIEW (R14, R19). -/
def State.triesSpent (s : State) (it : Item) : Bool :=
  decide (s.line.divertTries ≤ it.attempts) && it.disposition != some .review

/-- DESTINATION on an OPEN item (R10, R11). -/
def destinationOpen (i : Nat) (it : Item) (s : State) : Answer × State :=
  let it := it.lapDone
  if it.complete (s.classRecord it.cls).required then
    (recirculate, (s.enqueue i it).bump .recirculated)
  else if s.line.maxLaps ≤ it.laps then
    let it := { it with state := .routed, disposition := some .review, reason := .incomplete,
                        chute := some s.line.reviewChute }
    (s.chuteAnswer it, (s.setItem i it).bump .reviewed)
  else (recirculate, (s.setItem i it).bump .recirculated)

/-- DESTINATION on a QUEUED or GRADING item (R12). -/
def destinationWaiting (i : Nat) (it : Item) (s : State) : Answer × State :=
  (recirculate, (s.setItem i it.lapDone).bump .recirculated)

/-- DESTINATION on a DECIDED item (R13). -/
def destinationDecided (i : Nat) (it : Item) (s : State) : Answer × State :=
  let r := s.reallocateIfBlocked it
  let it := { r.1 with state := .routed }
  (s.chuteAnswer it, r.2.setItem i it)

/-- DESTINATION on a ROUTED item (R14). -/
def destinationRouted (i : Nat) (it : Item) (s : State) : Answer × State :=
  let it := it.lapDone.attemptDone
  let s := s.bump .divertFailed
  let r := if s.triesSpent it then s.redecide it else s.reallocateIfBlocked it
  (s.chuteAnswer r.1, r.2.setItem i r.1)

/-- DESTINATION (R9). -/
def workDestination (tray : Nat) (s : State) : Answer × State :=
  if Config.trays ≤ tray then ({ code := .range }, s)
  else
    match s.itemOnTray tray with
    | none => ({ code := .ok, results := .destination .untracked 0 }, s)
    | some (i, it) =>
      match it.state with
      | .opened => destinationOpen i it s
      | .queued | .grading => destinationWaiting i it s
      | .decided => destinationDecided i it s
      | .routed => destinationRouted i it s
      | .free | .retiring => ({ code := .ok, results := .destination .untracked 0 }, s)

/-! ### DIVERTED, DIVERT FAILED, TRAY CLEARED, CHUTE CLEAR -/

/-- A matching tilt (R17): the reservation is committed and the item retires. -/
def confirmDivert (i : Nat) (it : Item) (s : State) : State :=
  let s := match s.reservation it with
    | some b => s.setBin b (s.bin b).commit
    | none => s
  s.retire i it

/-- A missort (R18). -/
def missortDivert (i chute : Nat) (it : Item) (s : State) : State :=
  let it' := { it with bin := if s.mode = .run then none else it.bin, actualChute := some chute,
                       reason := .missort }
  ((s.releaseReservation it).bump .missorted).retire i it'

/-- DIVERTED (R17, R18). -/
def workDiverted (tray chute : Nat) (s : State) : Answer × State :=
  if Config.trays ≤ tray || !chuteInRange chute then ({ code := .range }, s)
  else
    match s.itemOnTray tray with
    | none => ({ code := .noItem }, s)
    | some (i, it) =>
      if it.state ≠ .routed then ({ code := .notRouted }, s)
      else if it.chute = some chute then ({ code := .ok }, confirmDivert i it s)
      else ({ code := .ok }, missortDivert i chute it s)

/-- DIVERT FAILED (R19). -/
def workDivertFailed (tray cause : Nat) (s : State) : Answer × State :=
  if Config.trays ≤ tray then ({ code := .range }, s)
  else
    match readCause cause with
    | none => ({ code := .range }, s)
    | some c =>
      match s.itemOnTray tray with
      | none => ({ code := .noItem }, s)
      | some (i, it) =>
        if it.state ≠ .routed then ({ code := .notRouted }, s)
        else
          let it := { it.attemptDone with state := .decided }
          let s := s.bump .divertFailed
          let s := if c = .chuteFull then s.updateZones (Zone.blockFor (it.chute.getD 0)) else s
          let r := if s.triesSpent it then s.redecide it else (it, s)
          ({ code := .ok }, r.2.setItem i r.1)

/-- TRAY CLEARED (R20). -/
def workTrayCleared (tray : Nat) (s : State) : Answer × State :=
  if Config.trays ≤ tray then ({ code := .range }, s)
  else
    match s.itemOnTray tray with
    | none => ({ code := .noItem }, s)
    | some (i, it) =>
      let s1 := s.releaseReservation it
      let s2 := if it.state = .queued then { s1 with gradeQueue := s1.gradeQueue.erase i } else s1
      let it' := { it with bin := none, disposition := some (it.disposition.getD .review),
                           reason := .removed }
      ({ code := .ok }, (s2.bump .removed).retire i it')

/-- CHUTE CLEAR (R21). -/
def workChuteClear (chute : Nat) (s : State) : Answer × State :=
  if !chuteInRange chute then ({ code := .range }, s)
  else
    let n := tcount Zone.atReset s.zones Config.zoneEntries
      (fun z => z.state == .blocked && z.chute == chute)
    ({ code := .ok, results := .reopened n }, s.updateZones (Zone.clearFor chute))

/-- ITEM QUERY (R22): selector 0 by tray, 1 by index (R196). -/
def workItemQuery (selector value : Nat) (s : State) : Answer × State :=
  match selector with
  | 0 =>
    if Config.trays ≤ value then ({ code := .range }, s)
    else
      match s.itemOnTray value with
      | none => ({ code := .noItem }, s)
      | some (i, it) => ({ code := .ok, results := .item i it }, s)
  | 1 =>
    if Config.itemEntries ≤ value then ({ code := .range }, s)
    else ({ code := .ok, results := .item value (s.item value) }, s)
  | _ => ({ code := .range }, s)

end Sys2Proof.Machine
end

