-- ==== Sys2Proof/Machine/Scan.lean ====
section
/-! DEFINITION. The Scan Processor (R89 to R97) and the peak extraction (R98 to R102). -/

namespace Sys2Proof.Machine

/-! ### Segments and passes -/

/-- A context in EMPTY, its binding kept (R89, R90). -/
def ScanContext.emptied (c : ScanContext) : ScanContext :=
  { ScanContext.atReset with binding := c.binding }

/-- A context opened for a tray and a stamp (R92). -/
def ScanContext.openFor (c : ScanContext) (tray : Nat) (stamp : Option Nat) : ScanContext :=
  { c.emptied with state := .awaitPass, tray := some tray, stamp := stamp }

/-- A sample of −128 is taken as −127 (R91). -/
def clampSample (x : Int) : Int := if x = -128 then -127 else x

/-- A malformed segment (R91). -/
def Segment.malformed (g : Segment) : Bool :=
  g.count == 0 || decide (32 < g.count) ||
    (g.start == 0 && match g.length with
      | some l => decide (l < 16) || decide (512 < l)
      | none => true)

/-- What taking a segment brings: the context, the passes discarded or refused, and the averaged profile
of a completed scan. -/
structure ScanStep where
  context : ScanContext
  discarded : Nat := 0
  profile : Option (List Int) := none
deriving DecidableEq, Repr

/-- A sum divided by P, halves away from zero (R97). -/
def averageOf (p : Nat) (sum : Int) : Int :=
  let q : Nat := (2 * sum.natAbs + p) / (2 * p)
  if sum < 0 then -(q : Int) else (q : Int)

/-- A complete pass is summed; at P passes the scan is complete and the context EMPTY (R95, R96). -/
def ScanContext.completePass (c : ScanContext) (p : Nat) : ScanStep :=
  let sums := if c.passesDone = 0 then c.pass else List.zipWith (· + ·) c.sums c.pass
  if c.passesDone + 1 < p then
    { context := { c with state := .awaitPass, passesDone := c.passesDone + 1, pass := [],
                          sums := sums } }
  else { context := c.emptied, profile := some (sums.map (averageOf p)) }

/-- Samples placed in the pass buffer: the pass is complete at L samples, otherwise IN_PASS (R93, R94). -/
def ScanContext.place (c : ScanContext) (p : Nat) (samples : List Int) : ScanStep :=
  let c := { c with state := .inPass, pass := c.pass ++ samples.map clampSample }
  if c.length = some c.pass.length then c.completePass p else { context := c }

/-- Whether a start-0 segment is refused (R93, checks 1 to 4). -/
def ScanContext.refuses (c : ScanContext) (g : Segment) : Bool :=
  g.malformed || g.pass != c.passesDone ||
    (decide (1 ≤ c.passesDone) && g.length != c.length) ||
    decide ((if c.passesDone = 0 then g.length else c.length).getD 0 < g.count)

/-- A start-0 segment in AWAIT_PASS (R93). -/
def ScanContext.beginPass (c : ScanContext) (p : Nat) (g : Segment) : ScanStep :=
  if c.refuses g then { context := c, discarded := 1 }
  else
    ({ c with length := if c.passesDone = 0 then g.length else c.length, pass := [] } :
      ScanContext).place p g.samples

/-- The pass in progress is discarded (R94). -/
def ScanContext.dropPass (c : ScanContext) : ScanContext :=
  { c with state := .awaitPass, pass := [], length := if c.passesDone = 0 then none else c.length }

/-- Whether a segment with another start continues the pass (R94). -/
def ScanContext.continues (c : ScanContext) (g : Segment) : Bool :=
  !g.malformed && g.pass == c.passesDone && g.start == c.pass.length &&
    decide (g.start + g.count ≤ c.length.getD 0)

/-- A segment taken by an open context (R93, R94). -/
def ScanContext.take (c : ScanContext) (p : Nat) (g : Segment) : ScanStep :=
  match c.state with
  | .inPass =>
    if g.start = 0 then
      let r := c.dropPass.beginPass p g
      { r with discarded := r.discarded + 1 }
    else if c.continues g then c.place p g.samples
    else { context := c.dropPass, discarded := 1 }
  | _ => if g.start = 0 then c.beginPass p g else { context := c }

/-- Whether a context is open for another identity (R92). -/
def ScanContext.otherIdentity (c : ScanContext) (tray : Nat) (stamp : Option Nat) : Bool :=
  c.state != .empty && (c.tray != some tray || c.stamp != stamp)

/-- The context once the identity check has been made (R92). -/
def ScanContext.identified (c : ScanContext) (tray : Nat) (stamp : Option Nat) : ScanContext :=
  if c.state = .empty || c.otherIdentity tray stamp then c.openFor tray stamp else c

/-! ### Peak extraction (R98 to R102) -/

/-- A run of qualifying positions with its peak (R99, R101). -/
structure Run where
  first : Nat
  last : Nat
  peak : Peak
deriving DecidableEq, Repr

/-- R98. -/
def qualifies (r : ClassRecord) (pos : Nat) (v : Int) : Bool :=
  decide (r.skip ≤ pos) && decide (r.threshold ≤ v.natAbs)

/-- A run one position longer: the earliest position of the greatest magnitude is the peak (R101). -/
def Run.extend (r : Run) (pos : Nat) (v : Int) : Run :=
  { r with last := pos,
           peak := if r.peak.amp.natAbs < v.natAbs then { pos := pos, amp := v } else r.peak }

/-- The runs of a profile from a position on, with the run in progress (R99). -/
def runsFrom (r : ClassRecord) : Nat → Option Run → List Int → List Run
  | _, cur, [] => cur.toList
  | pos, cur, v :: t =>
    if qualifies r pos v then
      match cur with
      | some run =>
        if (run.peak.amp < 0) = (v < 0) then runsFrom r (pos + 1) (some (run.extend pos v)) t
        else run :: runsFrom r (pos + 1) (some ⟨pos, pos, ⟨pos, v⟩⟩) t
      | none => runsFrom r (pos + 1) (some ⟨pos, pos, ⟨pos, v⟩⟩) t
    else cur.toList ++ runsFrom r (pos + 1) none t

/-- The runs the shadow accepts, given the last position of the last accepted run (R100). -/
def acceptRuns (shadow : Nat) : Option Nat → List Run → List Run
  | _, [] => []
  | none, r :: t => r :: acceptRuns shadow (some r.last) t
  | some l, r :: t =>
    if r.first - l ≤ shadow then acceptRuns shadow (some l) t
    else r :: acceptRuns shadow (some r.last) t

/-- Whether a peak ranks before another (R102). -/
def Peak.ranksBefore (q p : Peak) : Bool :=
  decide (p.amp.natAbs < q.amp.natAbs) || (q.amp.natAbs == p.amp.natAbs && decide (q.pos < p.pos))

/-- The peaks with fewer than four ranked before them, in position order (R102). -/
def keepStrongest (peaks : List Peak) : List Peak :=
  peaks.filter fun p => decide (peaks.countP (fun q => q.ranksBefore p) < 4)

/-- Scan evidence extracted from an averaged profile with a class record (R98 to R102). -/
def extractPeaks (r : ClassRecord) (profile : List Int) : ScanEvidence :=
  let peaks := (acceptRuns r.shadow none (runsFrom r 0 none profile)).map (·.peak)
  { peaks := keepStrongest peaks, total := min 255 peaks.length }

end Sys2Proof.Machine
end

