-- ==== Sys2Proof/Machine/Evidence.lean ====
section
/-! DEFINITION. The Evidence FIFO (R67 to R70), the work of the Evidence Collector on a frame (R71 to
R82, R91, R92) and the evidence write (R83 to R87). -/

namespace Sys2Proof.Machine

/-! ### The FIFO -/

/-- A stamped frame is offered to the FIFO (R68, R69). -/
def State.offerFrame (s : State) (f : StampedFrame) : State :=
  if s.fifo.length < Config.fifoFrames then
    { s with
      fifo := s.fifo ++ [f]
      sticky := if s.link.threshold ≤ s.fifo.length + 1 then { s.sticky with fifoNearFull := true }
                else s.sticky }
  else { s with sticky := { s.sticky with fifoOverflow := true } }.bump .fifoDropped

/-- The ticket the Tray Index holds for a tray (R4). -/
def State.ticketOnTray (s : State) (tray : Nat) : Option Nat := (s.trayEntry tray).map (·.ticket)

/-! ### Tag and wear frames (R73 to R75) -/

/-- The value a selector gives its slot (R73). -/
def selectRaw (sel : Option Nat) (r0 r1 r2 r3 : Nat) : Option Nat :=
  match sel with
  | some 0 => some r0
  | some 1 => some r1
  | some 2 => some r2
  | some 3 => some r3
  | _ => none

/-- The tag code table (R74). -/
def StationConfig.tagOf (c : StationConfig) : Option Nat → TagState
  | some 0 => c.code0
  | some 1 => c.code1
  | some 2 => c.code2
  | some 3 => c.code3
  | _ => .unread

/-- A TAG frame mapped to one tag reading (R74). -/
def mapTag (c : StationConfig) (r0 r1 r2 r3 : Nat) : TagReading :=
  { tag := c.tagOf (selectRaw c.sel0 r0 r1 r2 r3)
    sku := (selectRaw c.sel1 r0 r1 r2 r3).filter fun v => decide (v ≤ 63) }

/-- A WEAR frame mapped to a wear reading, or to none (R75). -/
def mapWear (c : StationConfig) (r0 r1 r2 r3 : Nat) : Option WearReading :=
  (selectRaw c.sel2 r0 r1 r2 r3).map fun v =>
    { index := min 255 v
      pilling := decide (0 < (selectRaw c.sel3 r0 r1 r2 r3).getD 0) }

/-! ### The settle filter (R76 to R81) -/

/-- A context opened for a frame (R77). -/
def SettleContext.openFor (tray : Nat) (stamp : Option Nat) : SettleContext :=
  { tray := tray, stamp := stamp, phase := .seeking, reference := none, count := 0, sum := 0,
    settledWeight := none, outCount := 0 }

/-- SEEKING with an empty run and out-count 0. -/
def SettleContext.unsettle (c : SettleContext) : SettleContext :=
  SettleContext.openFor c.tray c.stamp

/-- A run restarted with a sample (R79). -/
def SettleContext.startRun (c : SettleContext) (v : Nat) : SettleContext :=
  { c with reference := some v, count := 1, sum := v }

def gap (a b : Nat) : Nat := (a - b) + (b - a)

/-- The mean of a run, halves rounded up (R79). -/
def roundedMean (sum count : Nat) : Nat := (sum + count / 2) / count

/-- A flagged sample that acts (R78). -/
def SettleContext.flagged (k : StationConfig) (c : SettleContext) : SettleContext :=
  match c.phase with
  | .seeking => { c with reference := none, count := 0, sum := 0 }
  | .settled =>
    if k.unsettleCount ≤ c.outCount + 1 then c.unsettle else { c with outCount := c.outCount + 1 }

/-- A sample added to the run; at the settle count the phase becomes SETTLED (R79). -/
def SettleContext.addSample (k : StationConfig) (c : SettleContext) (v : Nat) : SettleContext :=
  let c := { c with count := c.count + 1, sum := c.sum + v }
  if k.settleCount ≤ c.count then
    { c with phase := .settled, settledWeight := some (roundedMean c.sum c.count), outCount := 0 }
  else c

/-- A clean sample (R79, R80). -/
def SettleContext.clean (k : StationConfig) (c : SettleContext) (v : Nat) : SettleContext :=
  match c.phase with
  | .seeking =>
    match c.reference with
    | none => c.startRun v
    | some r => if gap v r ≤ k.band then c.addSample k v else c.startRun v
  | .settled =>
    if gap v (c.settledWeight.getD 0) ≤ k.band then { c with outCount := 0 }
    else if k.unsettleCount ≤ c.outCount + 1 then c.unsettle.startRun v
    else { c with outCount := c.outCount + 1 }

/-- Whether the hold settings skip a sample (R78). -/
def skipsSample (k : StationConfig) (m : Sample) : Bool :=
  (m.motion && k.holdOnMotion) || (m.overload && k.holdOnOverload)

/-- One sample (R78): a negative value is taken as 0 g. -/
def SettleContext.sample (k : StationConfig) (c : SettleContext) (m : Sample) : SettleContext :=
  if m.motion || m.overload then (if skipsSample k m then c else c.flagged k)
  else c.clean k m.value.toNat

/-- The evidence a closed context yields (R81): none for one in SEEKING. -/
def SettleContext.closed (c : SettleContext) : Option Piece :=
  match c.phase with
  | .settled =>
    some { tray := c.tray, stamp := c.stamp, finding := .weight (c.settledWeight.getD 0) }
  | .seeking => none

/-- A context is closed (R81): WEIGH_UNSETTLED is counted for one in SEEKING. -/
def State.closeSettle (s : State) (c : SettleContext) : State :=
  match c.phase with
  | .settled => s
  | .seeking => s.bump .weighUnsettled

/-! ### The work on a frame -/

/-- A WEIGH frame (R77, R81, R82): the evidence of a closed context of another identity, then the
frame's own. -/
def takeWeigh (a : Nat) (tray : Nat) (stamp : Option Nat) (isEnd : Bool) (samples : List Sample)
    (s : State) : List Piece × State :=
  let k := (s.station a).config
  let before := (s.settleContext a).filter fun c => !(c.tray == tray && c.stamp == stamp)
  let start := match s.settleContext a with
    | some c => if c.tray == tray && c.stamp == stamp then c else .openFor tray stamp
    | none => .openFor tray stamp
  let c := samples.foldl (fun c m => c.sample k m) start
  let s := match before with
    | some old => s.closeSettle old
    | none => s
  let first := (before.bind SettleContext.closed).toList
  if isEnd then (first ++ c.closed.toList, (s.closeSettle c).setSettle a none)
  else (first, s.setSettle a (some c))

/-- The scan context bound to an address (R91). -/
def State.boundScan (s : State) (a : Nat) : Option (Bool × ScanContext) :=
  if s.scan0.binding = some a then some (false, s.scan0)
  else if s.scan1.binding = some a then some (true, s.scan1)
  else none

/-- A scan context is replaced; `second` names context 1. -/
def State.setScan (s : State) (second : Bool) (c : ScanContext) : State :=
  if second then { s with scan1 := c } else { s with scan0 := c }

/-- A SCAN frame (R91 to R96). -/
def takeScan (a : Nat) (tray : Nat) (stamp : Option Nat) (g : Segment) (s : State) :
    List Piece × State :=
  match s.boundScan a with
  | none => ([], s)
  | some (second, c) =>
    let s := if c.otherIdentity tray stamp then s.bump .scanIncomplete else s
    let r := (c.identified tray stamp).take (s.station a).config.passes g
    let s := (s.setScan second r.context).bumpBy .scanPassDiscarded r.discarded
    (r.profile.toList.map fun v => { tray := tray, stamp := stamp, finding := .profile v }, s)

/-- The work on a frame up to its access (R72): the evidence ready to be written, and the state. -/
def takeFrame (f : StampedFrame) (s : State) : List Piece × State :=
  let k := (s.station f.station).config
  match f.body with
  | .tag r0 r1 r2 r3 =>
    ([{ tray := f.tray, stamp := f.stamp, finding := .tag (mapTag k r0 r1 r2 r3) }], s)
  | .wear r0 r1 r2 r3 =>
    ((mapWear k r0 r1 r2 r3).toList.map fun w =>
      { tray := f.tray, stamp := f.stamp, finding := .wear w }, s)
  | .weigh isEnd samples => takeWeigh f.station f.tray f.stamp isEnd samples s
  | .scan g => takeScan f.station f.tray f.stamp g s

/-! ### The evidence write (R83 to R87) -/

/-- An item's record with a finding written (R84, R87). -/
def Item.withFinding (it : Item) (r : ClassRecord) : Finding → Item
  | .weight w => { it with weight := some w }
  | .tag t => { it with tag := some t }
  | .profile v => { it with scan := some (extractPeaks r v) }
  | .wear w => { it with wear := some w }

/-- One piece of evidence is written to an OPEN item and the completion test made (R84, R86), set aside
as late (R85), or discarded at the stamp check (R83). -/
def State.writePiece (s : State) (p : Piece) : State :=
  if p.stamp.isSome && p.stamp == s.ticketOnTray p.tray then
    match s.itemOnTray p.tray with
    | none => s.bump .noItemEvidence
    | some (i, it) =>
      if it.state = .opened then
        let it := it.withFinding (s.classRecord it.cls) p.finding
        if it.complete (s.classRecord it.cls).required then s.enqueue i it else s.setItem i it
      else (s.setItem i { it with late := true }).bump .lateEvidence
  else s.bump .noItemEvidence

/-- The evidence write access of a frame (R82): its one or two pieces in order. -/
def evidenceWrite (pieces : List Piece) (s : State) : State :=
  { pieces.foldl State.writePiece s with collector := .waiting }

end Sys2Proof.Machine
end

