-- ==== Sys2Proof/Machine/Frames.lean ====
section
/-! DEFINITION. The frames on the links (R193 to R199): the CRC, the numbers in frames, Station Link polls
and replies, and the request frame decoder. -/

namespace Sys2Proof.Machine

/-! ### Numbers in frames: most significant byte first -/

def byteOf (n : Nat) : Byte := BitVec.ofNat 8 n

/-- A number in `w` bytes, most significant first. -/
def bytesOf : Nat → Nat → List Byte
  | 0, _ => []
  | w + 1, n => bytesOf w (n / 256) ++ [byteOf n]

/-- The number bytes hold, most significant first. -/
def numberOf (bs : List Byte) : Nat := bs.foldl (fun acc b => acc * 256 + b.toNat) 0

/-- The byte at a place of a frame; a place beyond the frame reads 0. -/
def byteAt (bs : List Byte) (i : Nat) : Nat := ((bs[i]?).getD 0).toNat

/-- The two-byte number at a place of a frame. -/
def wordAt (bs : List Byte) (i : Nat) : Nat := byteAt bs i * 256 + byteAt bs (i + 1)

/-! ### The CRC (R193) -/

/-- One bit fed to the CRC register: the generator is x^16 + x^12 + x^5 + 1. -/
def crcShift (r : BitVec 16) : BitVec 16 :=
  if r.msb then (r <<< 1) ^^^ 0x1021#16 else r <<< 1

/-- One byte fed to the CRC register, most significant bit first. -/
def crcByte (r : BitVec 16) (b : Byte) : BitVec 16 :=
  let x := r ^^^ (b.zeroExtend 16 <<< 8)
  crcShift (crcShift (crcShift (crcShift (crcShift (crcShift (crcShift (crcShift x)))))))

/-- The CRC of bytes (R193): it starts at all ones, with no reflection and no inversion. -/
def crc (bs : List Byte) : BitVec 16 := bs.foldl crcByte 0xFFFF#16

/-- Bytes closed by their CRC. -/
def closeFrame (bs : List Byte) : List Byte := bs ++ bytesOf 2 (crc bs).toNat

/-- Whether a frame of at least two bytes ends in the CRC of the bytes before. -/
def crcHolds (frame : List Byte) : Bool :=
  let n := frame.length - 2
  decide (2 ≤ frame.length) && frame.drop n == bytesOf 2 (crc (frame.take n)).toNat

/-! ### Station Link frames (R194, R195) -/

/-- A poll's five bytes (R194). -/
def pollFrame (station : Nat) (kind : PollKind) (hold : Bool) : List Byte :=
  closeFrame [byteOf 5, byteOf station,
    byteOf ((match kind with | .evidence => 1 | .status => 2) + if hold then 128 else 0)]

/-- What a reply whose CRC passes carries, by its type (R194, R195). `unsound` is a reply that fails
check 3: a type not in the list, a length other than its type's, or a WEIGH sample count of 0 or 7. -/
inductive ReplyBody where
  | nothing
  | status (kind : Nat) (fault : Bool) (holdCapable : Bool) (selfCheck : Nat)
  | evidence (tray : Nat) (body : EvidenceBody)
  | unsound
deriving DecidableEq, Repr

structure Reply where
  address : Nat
  body : ReplyBody
deriving DecidableEq, Repr

/-- A signed byte. -/
def signedByte (b : Nat) : Int := if b < 128 then (b : Int) else (b : Int) - 256

/-- A signed two-byte number. -/
def signedWord (n : Nat) : Int := if n < 32768 then (n : Int) else (n : Int) - 65536

/-- The samples of a WEIGH frame (R194). -/
def readSamples (frame : List Byte) (n : Nat) : List Sample :=
  (List.range n).map fun i =>
    { value := signedWord (wordAt frame (6 + 3 * i))
      motion := (byteAt frame (8 + 3 * i)).testBit 0
      overload := (byteAt frame (8 + 3 * i)).testBit 1 }

def readWeigh (frame : List Byte) : ReplyBody :=
  let control := byteAt frame 5
  let n := control % 8
  if frame.length = 8 + 3 * n ∧ 1 ≤ n ∧ n ≤ 6 then
    .evidence (wordAt frame 3) (.weigh (control.testBit 7) (readSamples frame n))
  else .unsound

/-- A SCAN frame (R194): L is carried when the start is 0, samples when the count is 1 to 32. -/
def readScan (frame : List Byte) : ReplyBody :=
  let start := wordAt frame 6
  let count := byteAt frame 8
  let head := if start = 0 then 11 else 9
  let n := if 1 ≤ count ∧ count ≤ 32 then count else 0
  if frame.length = head + n + 2 then
    .evidence (wordAt frame 3)
      (.scan { pass := byteAt frame 5, start := start, count := count,
               length := if start = 0 then some (wordAt frame 9) else none,
               samples := (List.range n).map fun i => signedByte (byteAt frame (head + i)) })
  else .unsound

/-- A reply frame whose CRC passes, decoded by its reply type (R195). -/
def readReply (frame : List Byte) : Reply :=
  { address := byteAt frame 1
    body :=
      match byteAt frame 2 with
      | 0x10 => if frame.length = 5 then .nothing else .unsound
      | 0x11 => readWeigh frame
      | 0x12 =>
        if frame.length = 15 then
          .evidence (wordAt frame 3)
            (.tag (wordAt frame 5) (wordAt frame 7) (wordAt frame 9) (wordAt frame 11))
        else .unsound
      | 0x13 => readScan frame
      | 0x14 =>
        if frame.length = 15 then
          .evidence (wordAt frame 3)
            (.wear (wordAt frame 5) (wordAt frame 7) (wordAt frame 9) (wordAt frame 11))
        else .unsound
      | 0x20 =>
        if frame.length = 8 then
          .status (byteAt frame 3) ((byteAt frame 4).testBit 0) ((byteAt frame 4).testBit 1)
            (byteAt frame 5)
        else .unsound
      | _ => .unsound }

/-! ### Transactions (R165, R196) -/

/-- The kind byte of a write request. -/
def writeKindByte : Byte := 0xC1

/-- The kind byte of a read response. -/
def readKindByte : Byte := 0xC2

/-- A transaction by its kind byte (R165): a write request with the bytes after it, a read response in
which as many bytes are shifted out as the master sends filler bytes, or one that is ignored: another
kind byte, or a chip select raised before the first byte is complete. -/
inductive Transaction where
  | writeRequest (frame : List Byte)
  | readResponse (count : Nat)
  | ignored
deriving DecidableEq, Repr

/-- The transaction a master's bytes make (R165, R196). -/
def readTransaction : List Byte → Transaction
  | [] => .ignored
  | kind :: rest =>
    if kind = writeKindByte then .writeRequest rest
    else if kind = readKindByte then .readResponse rest.length
    else .ignored

/-! ### Request frames (R196, R197) -/

/-- The bytes after a list operand's fixed part: its length byte and, when the length lies within its
range, that many elements of `w` bytes; the whole must fit exactly. -/
def readList (lo hi w : Nat) (bs : List Byte) : Option (Nat × List Byte) :=
  match bs with
  | [] => none
  | c :: rest =>
    let n := c.toNat
    let carried := if inRange lo hi n then n else 0
    if rest.length = carried * w then some (n, rest) else none

/-- Elements of two bytes. -/
def readPairs : List Byte → List (Nat × Nat)
  | a :: b :: t => (a.toNat, b.toNat) :: readPairs t
  | _ => []

/-- The operand fields of widths `ws`, and the bytes that follow; none when the bytes end before. -/
def readFields : List Nat → List Byte → Option (List Nat × List Byte)
  | [], bs => some ([], bs)
  | w :: ws, bs =>
    if bs.length < w then none
    else
      match readFields ws (bs.drop w) with
      | none => none
      | some (ns, rest) => some (numberOf (bs.take w) :: ns, rest)

/-- The operand fields of a request whose operands have fixed widths; none when the length differs. -/
def readExactly (ws : List Nat) (bs : List Byte) : Option (List Nat) :=
  match readFields ws bs with
  | some (ns, []) => some ns
  | _ => none

/-- The widths of a class record's fixed fields, in the order of R35. -/
def classWidths : List Nat :=
  [2, 2, 1, 1, 2, 1, 1, 1, 1, 1, 1, 1, 2, 1, 1, 1, 2, 2, 2, 2, 2, 2, 1, 1, 1, 1, 1]

def readClassOperands (bs : List Byte) : Option (Nat × ClassOperands) :=
  match readFields (1 :: classWidths) bs with
  | some ([k, required, tolPermille, tolFloor, kw, wCap, grossFactor, skip, shadow, threshold, kDark,
      kLight, kx, sCap, uFree, ku, pPill, uCap, ptDet, ptAbs, limA, limB, limC, mapA, mapB, mapC,
      mapD, highBand], rest) =>
    match readList 0 4 1 rest with
    | some (n, zs) =>
      some (k, { required := required, tolPermille := tolPermille, tolFloor := tolFloor, kw := kw,
                 wCap := wCap, grossFactor := grossFactor, skip := skip, shadow := shadow,
                 threshold := threshold, kDark := kDark, kLight := kLight, kx := kx, sCap := sCap,
                 uFree := uFree, ku := ku, pPill := pPill, uCap := uCap, ptDet := ptDet,
                 ptAbs := ptAbs, limA := limA, limB := limB, limC := limC, mapA := mapA,
                 mapB := mapB, mapC := mapC, mapD := mapD, highBand := highBand,
                 prefs := { count := n, elems := zs.map (·.toNat) } })
    | none => none
  | _ => none

/-- The operands of STATION SET: the field map is a list operand of four selectors. -/
def readStationOperands (bs : List Byte) : Option (Nat × StationOperands) :=
  match readFields [1, 1, 1, 1, 1] bs with
  | some ([address, configured, kind, hold, n], rest) =>
    let carried := if n = 4 then 4 else 0
    if rest.length < carried then none
    else
      match readExactly [1, 1, 1, 1, 1, 1, 1, 1, 1, 1, 1, 1, 1] (rest.drop carried) with
      | some [c0, c1, c2, c3, band, settle, unsettle, motion, overload, passes, w, e, recovery] =>
        some (address,
          { configured := configured, kind := kind, holdAllowed := hold,
            fieldMap := { count := n, elems := (rest.take carried).map (·.toNat) },
            code0 := c0, code1 := c1, code2 := c2, code3 := c3, band := band,
            settleCount := settle, unsettleCount := unsettle, holdOnMotion := motion,
            holdOnOverload := overload, passes := passes, window := w, badLimit := e,
            recovery := recovery })
      | _ => none
  | _ => none

def readScheduleWrite (bs : List Byte) : Option Request :=
  match bs with
  | [] => none
  | first :: rest =>
    match readList 1 64 2 rest with
    | some (n, es) => some (.scheduleWrite first.toNat { count := n, elems := readPairs es })
    | none => none

/-- The request of a code from its operand bytes; none when their length is not the one the operands
require (R197). -/
def readOperands (code : Nat) (bs : List Byte) : Option Request :=
  match code with
  | 1 => match readExactly [2, 6] bs with | some [t, l] => some (.induct t l) | _ => none
  | 2 => match readExactly [2] bs with | some [t] => some (.destination t) | _ => none
  | 3 => match readExactly [2, 1] bs with | some [t, c] => some (.diverted t c) | _ => none
  | 4 => match readExactly [2, 1] bs with | some [t, c] => some (.divertFailed t c) | _ => none
  | 5 => match readExactly [2] bs with | some [t] => some (.trayCleared t) | _ => none
  | 6 => match readExactly [1] bs with | some [c] => some (.chuteClear c) | _ => none
  | 7 => match readExactly [] bs with | some [] => some .status | _ => none
  | 8 => match readExactly [] bs with | some [] => some .tableLimits | _ => none
  | 9 => match readExactly [1, 2] bs with | some [k, v] => some (.itemQuery k v) | _ => none
  | 10 => match readExactly [2] bs with | some [m] => some (.attentionMask m) | _ => none
  | 11 => match readExactly [1] bs with | some [m] => some (.modeSet m) | _ => none
  | 12 => match readExactly [] bs with | some [] => some .fullReset | _ => none
  | 13 => match readExactly [] bs with | some [] => some .lineRestart | _ => none
  | 14 => match readExactly [2] bs with | some [c] => some (.statusClear c) | _ => none
  | 15 => match readExactly [1, 1] bs with | some [k, l] => some (.arbiterSet k l) | _ => none
  | 16 => match readExactly [] bs with | some [] => some .holdBegin | _ => none
  | 17 => match readExactly [] bs with | some [] => some .holdEnd | _ => none
  | 18 =>
    match readExactly [1, 1, 1, 1, 1, 1, 1, 1] bs with
    | some [a, b, c, d, e, f, g, h] =>
      some (.lineSet { maxLaps := a, divertTries := b, fallbackClass := c, overflowZone := d,
                       reviewChute := e, refurbishChute := f, outletChute := g, recycleChute := h })
    | _ => none
  | 19 => (readStationOperands bs).map fun r => .stationSet r.1 r.2
  | 20 => (readClassOperands bs).map fun r => .classWrite r.1 r.2
  | 21 => match readExactly [1] bs with | some [k] => some (.classRead k) | _ => none
  | 22 => match readExactly [1] bs with | some [k] => some (.classClear k) | _ => none
  | 23 =>
    match readExactly [6, 1, 2, 1, 1, 1] bs with
    | some [l, c, n, b, g, e] =>
      some (.manifestPost { label := l, cls := c, nominal := n, band := b, hygiene := g,
                            expected := e })
    | _ => none
  | 24 => match readExactly [6] bs with | some [l] => some (.manifestWithdraw l) | _ => none
  | 25 => match readExactly [6] bs with | some [l] => some (.manifestRead l) | _ => none
  | 26 => match readExactly [1, 1, 1] bs with | some [z, c, k] => some (.zoneSet z c k) | _ => none
  | 27 =>
    match readExactly [2, 1, 1, 1, 1, 1] bs with
    | some [b, z, l, c, a, e] =>
      some (.slotSet b { zone := z, lane := l, capacity := c, affinity := a, enabled := e })
    | _ => none
  | 28 => match readExactly [2, 1, 1] bs with | some [b, n, k] => some (.slotAdjust b n k) | _ => none
  | 29 => match readExactly [2, 1] bs with | some [b, n] => some (.slotRelease b n) | _ => none
  | 30 => match readExactly [2] bs with | some [b] => some (.slotRead b) | _ => none
  | 31 => readScheduleWrite bs
  | 32 => match readExactly [2, 2, 1] bs with | some [p, t, n] => some (.linkSet p t n) | _ => none
  | 33 =>
    match readExactly [1, 1, 1, 1] bs with
    | some [b, l, m, r] =>
      some (.scheduleStart { base := b, length := l, startMode := m, rep := r })
    | _ => none
  | 34 =>
    match readExactly [1, 1, 1, 1] bs with
    | some [b, l, m, r] =>
      some (.scheduleStage { base := b, length := l, startMode := m, rep := r })
    | _ => none
  | 35 => match readExactly [] bs with | some [] => some .scheduleCancel | _ => none
  | 36 => match readExactly [1, 1] bs with | some [a, k] => some (.singlePoll a k) | _ => none
  | 37 => match readExactly [] bs with | some [] => some .collect | _ => none
  | 38 => match readExactly [] bs with | some [] => some .countersSnapshot | _ => none
  | 39 => match readExactly [] bs with | some [] => some .countersRead | _ => none
  | 40 => match readExactly [1, 1, 1] bs with | some [l, k, p] => some (.lampSet l k p) | _ => none
  | _ => none

/-- What a request frame gives a port (R166, R197): a request with its tag, or the response code and
the echoed request code and tag. -/
inductive FrameTaken where
  | request (tag : Nat) (request : Request)
  | refused (code : Code) (request tag : Nat)
deriving DecidableEq, Repr

/-- A request frame checked up to its length (R166 checks 1 and 2, R197). A byte not received is
echoed as 0. -/
def readRequestFrame (bytes : List Byte) : FrameTaken :=
  let code := byteAt bytes 2
  let tag := byteAt bytes 3
  let len := wordAt bytes 0
  let frame := bytes.take len
  if bytes.length < 2 ∨ len < 6 ∨ 600 < len ∨ bytes.length < len ∨ !crcHolds frame then
    .refused .frameError code tag
  else if code = 0 ∨ 40 < code then .refused .unknownRequest code tag
  else
    match readOperands code ((frame.take (len - 2)).drop 4) with
    | some r => .request tag r
    | none => .refused .frameError code tag

end Sys2Proof.Machine
end

