-- ==== Sys2Proof/Machine/Link.lean ====
section
/-! DEFINITION. The Station Link Controller (R45 to R66): the round controller, polls and replies,
station health, and the requests that act on it. -/

namespace Sys2Proof.Machine

/-! ### The round controller's fields -/

/-- A change of the round controller. -/
def State.withController (s : State) (f : RoundController → RoundController) : State :=
  { s with controller := f s.controller }

/-! ### Sending a poll (R53, R58, R65) -/

/-- The resolved hold of a station (R65). -/
def State.resolvedHold (s : State) (a : Nat) : Bool :=
  (s.station a).config.holdAllowed && (s.station a).run.holdCapable == some true

/-- The kind a poll is sent as: an EVIDENCE poll to a DOWN station is sent as STATUS (R53, R58). -/
def State.sentKind (s : State) (p : Poll) : PollKind :=
  if (s.station p.station).run.health = .down then .status else p.kind

/-- The HOLD flag of a poll as sent (R65). -/
def State.holdFlag (s : State) (p : Poll) : Bool :=
  s.sentKind p == .evidence && decide (s.link.threshold ≤ s.fifo.length) && s.resolvedHold p.station

/-- A poll is sent and the controller enters AWAIT_REPLY (R53). -/
def State.sendPoll (s : State) (p : Poll) (single : Bool) (ret : ReturnPoint) : State :=
  { s with
    linkTxd := pollFrame p.station (s.sentKind p) (s.holdFlag p)
    controller := { s.controller with
      state := .awaitReply
      inFlight := some { station := p.station, kind := s.sentKind p, hold := s.holdFlag p,
                         timeout := s.link.timeout, returnPoint := ret, single := single,
                         phase := .transmitting } } }

/-- The single-poll slot's poll is sent, which empties the slot (R58). -/
def State.sendSlot (s : State) (p : Poll) (ret : ReturnPoint) : State :=
  (s.withController fun c => { c with slot := none }).sendPoll p true ret

/-- A controller that has come to rest in IDLE or ROUND_WAIT sends the slotted poll at once (R55,
R57, R58). -/
def State.settleSlot (s : State) : State :=
  match s.controller.slot with
  | none => s
  | some p =>
    match s.controller.state with
    | .idle => s.sendSlot p .idle
    | .roundWait => s.sendSlot p .roundWait
    | _ => s

/-! ### Walking (R53) and round ends (R54) -/

/-- Entries read from position `pos`, `n` of them left: passed over, or the next poll sent. The flag says
that the last entry has been handled. -/
def State.walkEntries : Nat → Nat → State → Bool × State
  | 0, _, s => (true, s)
  | n + 1, pos, s =>
    match s.scheduleEntry pos with
    | none => State.walkEntries n (pos + 1) (s.bump .skippedPolls)
    | some p =>
      if (s.station p.station).config.configured then
        (false, (s.withController fun c => { c with walkPos := some (pos + 1) }).sendPoll p false .round)
      else State.walkEntries n (pos + 1) (s.bump .skippedPolls)

/-- The walk from the walk position: the next poll sent, or after the last entry the slotted poll. The
flag says that the round ends now. DESIGN CHOICE (log 27): once the last entry has been read the walk
position R51 holds is base + length, up to 256, until the round ends. -/
def State.walkOnce (s : State) : Bool × State :=
  match s.controller.active with
  | none => (false, s)
  | some a =>
    let pos := s.controller.walkPos.getD a.base
    let r := State.walkEntries (a.base + a.length - pos) pos
      (s.withController fun c => { c with state := .walking })
    if r.1 then
      match r.2.controller.slot with
      | some p =>
        (false, (r.2.withController fun c =>
          { c with walkPos := some (a.base + a.length) }).sendSlot p .round)
      | none => (true, r.2)
    else r

/-- A round end (R54). The flag says that a staged schedule is walked at once. -/
def State.endRound (s : State) : Bool × State :=
  let s := { s with sticky := { s.sticky with roundEnd := true } }
  match s.controller.staged with
  | some g =>
    let s := s.withController fun c =>
      { c with active := some { base := g.base, length := g.length, rep := g.rep }, staged := none }
    match g.mode with
    | .now =>
      (true, s.withController fun c =>
        { c with state := .walking, pendingStart := none, walkPos := some g.base })
    | .atTimer =>
      (false, s.withController fun c =>
        { c with state := .roundWait, pendingStart := some .atTimer, walkPos := none })
    | .empty =>
      (false, s.withController fun c =>
        { c with state := .roundWait, pendingStart := some .empty, walkPos := none })
  | none =>
    match s.controller.active with
    | some a =>
      if a.rep then
        (false, s.withController fun c =>
          { c with state := .roundWait, pendingStart := none, walkPos := none })
      else
        (false, s.withController fun c =>
          { c with state := .idle, active := none, pendingStart := none, walkPos := none })
    | none =>
      (false, s.withController fun c =>
        { c with state := .idle, pendingStart := none, walkPos := none })

/-- A walk and the round end it may come to; a schedule staged NOW is walked at once, and the round
that walk may end in turn finds nothing staged. -/
def State.walk (s : State) : State :=
  let a := s.walkOnce
  if !a.1 then a.2
  else
    let b := a.2.endRound
    if !b.1 then b.2
    else
      let c := b.2.walkOnce
      if c.1 then c.2.endRound.2 else c.2

/-- A round end, and the walk of a schedule staged NOW. -/
def State.finishRound (s : State) : State :=
  let b := s.endRound
  if b.1 then b.2.walk else b.2

/-- Walking begins at the active schedule's base (R52, R55). -/
def State.beginWalk (s : State) : State :=
  (s.withController fun c =>
    { c with state := .walking, pendingStart := none, walkPos := c.active.map (·.base) }).walk

/-- An expiry acting on ROUND_WAIT (R55). -/
def State.expireRoundWait (s : State) : State :=
  match s.controller.pendingStart with
  | some .empty => (s.withController fun c => { c with pendingStart := none }).finishRound
  | _ => s.beginWalk

/-! ### After a poll's outcome (R53, R55, R57, R58) -/

/-- The controller moves on from a poll in flight to its return point. -/
def State.moveOn (s : State) (f : InFlight) : State :=
  let s := s.withController fun c => { c with inFlight := none }
  match f.returnPoint with
  | .round =>
    if f.single then s.finishRound.settleSlot else s.walk.settleSlot
  | .idle | .idleAfterCancel => (s.withController fun c => { c with state := .idle }).settleSlot
  | .roundWait =>
    let s := s.withController fun c => { c with state := .roundWait }
    if s.controller.expiryDue then
      (s.withController fun c => { c with expiryDue := false }).expireRoundWait.settleSlot
    else s.settleSlot

/-! ### Health (R63, R64) -/

/-- The bad count of a history (R46). -/
def badCount (history : List Bool) : Nat := history.countP (!·)

/-- An outcome appended, the oldest leaving a history longer than W (R63). -/
def appendOutcome (w : Nat) (history : List Bool) (good : Bool) : List Bool :=
  let h := history ++ [good]
  h.drop (h.length - w)

/-- An outcome on the health record of a station (R63, R64). -/
def StationRun.outcome (k : StationConfig) (r : StationRun) (good : Bool) : StationRun :=
  match r.health with
  | .down =>
    if good then
      if k.recovery ≤ r.consecutiveGood + 1 then
        { r with health := .up, history := List.replicate k.window true, consecutiveGood := 0 }
      else { r with consecutiveGood := r.consecutiveGood + 1 }
    else { r with consecutiveGood := 0 }
  | h =>
    let history := appendOutcome k.window r.history good
    if k.badLimit ≤ badCount history then
      { r with health := .down, history := history, consecutiveGood := 0 }
    else
      { r with history := history, health := if h = .unknown && good then .up else h }

/-- A poll's outcome, good or bad, goes to the station's health record; a bad one counts BAD_REPLIES
(R61), and a station that becomes DOWN sets STATION_WENT_DOWN (R63). The outcome is an event of its own
(log 18). -/
def State.recordOutcome (s : State) (a : Nat) (good : Bool) : State :=
  let s := s.closeRaises
  let e := s.station a
  let r := e.run.outcome e.config good
  let s := if good then s else s.bump .badReplies
  let s := if r.health = .down && e.run.health != .down then
      { s with sticky := { s.sticky with stationWentDown := true } }
    else s
  s.setStation a { e with run := r }

/-- A bad outcome ends the poll in flight (R60, R61). -/
def State.badOutcome (s : State) (f : InFlight) : State := (s.recordOutcome f.station false).moveOn f

/-! ### Judging a reply (R61, R62, R66) -/

/-- The hold capability and self-check a STATUS reply reports (R62). -/
def State.reportedStatus (s : State) (a : Nat) (capable : Bool) (selfCheck : Nat) : State :=
  let e := s.station a
  s.setStation a { e with run := { e.run with holdCapable := some capable,
                                              selfCheck := some selfCheck } }

/-- The kind of an evidence body. -/
def EvidenceBody.kind : EvidenceBody → Kind
  | .weigh .. => .weigh
  | .tag .. => .tag
  | .scan .. => .scan
  | .wear .. => .wear

/-- A good evidence frame is stamped and offered to the FIFO (R66, R4). -/
def State.stampAndOffer (s : State) (a tray : Nat) (body : EvidenceBody) : State :=
  s.offerFrame { station := a, stamp := s.ticketOnTray tray, tray := tray, body := body }

/-- A received reply judged by the checks of R61 in order, before the controller moves on. -/
def State.judgeReply (s : State) (f : InFlight) (frame : List Byte) : State :=
  let r := readReply frame
  let kind := (s.station f.station).config.kind
  if !crcHolds frame then s.recordOutcome f.station false
  else if r.address ≠ f.station then s.recordOutcome f.station false
  else
    match f.kind, r.body with
    | .evidence, .nothing => s.recordOutcome f.station true
    | .evidence, .evidence tray body =>
      if body.kind ≠ kind then (s.recordOutcome f.station false).bump .kindMismatch
      else if Config.trays ≤ tray then s.recordOutcome f.station false
      else (s.recordOutcome f.station true).stampAndOffer f.station tray body
    | .status, .status k fault capable selfCheck =>
      if k ≠ kindCode kind then (s.recordOutcome f.station false).bump .kindMismatch
      else (s.reportedStatus f.station capable selfCheck).recordOutcome f.station (!fault)
    | _, _ => s.recordOutcome f.station false

/-- A reply's first byte, which is its length (R60, R193). -/
def State.firstByte (s : State) (f : InFlight) (len : Byte) : State :=
  if len.toNat < 5 ∨ 45 < len.toNat then s.badOutcome f
  else s.withController fun c => { c with inFlight := some { f with phase := .receiving len } }

/-- A frame as received in full: the bytes that its first byte's length counts; with fewer bytes the
frame ended early, which is a CRC error (R60, R61). -/
def State.takeReply (s : State) (f : InFlight) (len : Byte) (frame : List Byte) : State :=
  let whole := len :: frame.drop 1
  if whole.length < len.toNat then s.badOutcome f
  else (s.judgeReply f (whole.take len.toNat)).moveOn f

/-! ### Requests (R47 to R58) -/

/-- The answer of LINK SET (R49). -/
def State.linkResults (s : State) : Results := .link s.link s.controller

/-- LINK SET (R49). -/
def workLinkSet (period timeout threshold : Nat) (s : State) : Answer × State :=
  match readLinkSettings period timeout threshold with
  | none => ({ code := .range, results := s.linkResults }, s)
  | some l =>
    let s' := { s with link := l }
    ({ code := .ok, results := s'.linkResults }, s')

/-- Consecutive entries written from an index on. -/
def State.writeSchedule : Nat → List (Option Poll) → State → State
  | _, [], s => s
  | i, e :: t, s => State.writeSchedule (i + 1) t (s.setScheduleEntry i e)

/-- SCHEDULE WRITE (R50). -/
def workScheduleWrite (first : Nat) (es : ListOperand (Nat × Nat)) (s : State) : Answer × State :=
  if inRange 1 64 es.count && decide (first + es.count ≤ 256) then
    match es.elems.mapM readScheduleEntry with
    | some polls => ({ code := .ok }, State.writeSchedule first polls s)
    | none => ({ code := .range }, s)
  else ({ code := .range }, s)

/-- A schedule made active with a start mode (R52). -/
def State.startSchedule (s : State) (g : StagedSchedule) : State :=
  let s := s.withController fun c =>
    { c with active := some { base := g.base, length := g.length, rep := g.rep } }
  match g.mode with
  | .now => s.beginWalk.settleSlot
  | .atTimer =>
    s.withController fun c => { c with state := .roundWait, pendingStart := some .atTimer }
  | .empty => s.withController fun c => { c with state := .roundWait, pendingStart := some .empty }

/-- SCHEDULE START (R52); its check 1 is the port's mode check. -/
def workScheduleStart (o : ScheduleOperands) (s : State) : Answer × State :=
  match readSchedule o with
  | none => ({ code := .range }, s)
  | some g =>
    if s.controller.state ≠ .idle then ({ code := .pending }, s)
    else ({ code := .ok }, s.startSchedule g)

/-- SCHEDULE STAGE (R56). -/
def workScheduleStage (o : ScheduleOperands) (s : State) : Answer × State :=
  match readSchedule o with
  | none => ({ code := .range }, s)
  | some g =>
    if s.controller.active.isNone then ({ code := .idle }, s)
    else if s.controller.staged.isSome then ({ code := .pending }, s)
    else ({ code := .ok }, s.withController fun c => { c with staged := some g })

/-- SCHEDULE CANCEL (R57). -/
def workScheduleCancel (s : State) : Answer × State :=
  let s := s.withController fun c =>
    { c with active := none, staged := none, pendingStart := none, walkPos := none,
             expiryDue := false }
  let s := match s.controller.state with
    | .awaitReply => s.withController fun c =>
        { c with inFlight := c.inFlight.map fun f => { f with returnPoint := .idleAfterCancel } }
    | _ => (s.withController fun c => { c with state := .idle }).settleSlot
  ({ code := .ok }, s)

/-- SINGLE POLL (R58); its check 1 is the port's mode check. -/
def workSinglePoll (a kind : Nat) (s : State) : Answer × State :=
  match readPollKind kind with
  | none => ({ code := .range }, s)
  | some k =>
    if 15 < a then ({ code := .range }, s)
    else if !(s.station a).config.configured then ({ code := .notFound }, s)
    else if s.controller.slot.isSome then ({ code := .pending }, s)
    else
      ({ code := .ok },
       (s.withController fun c => { c with slot := some { station := a, kind := k } }).settleSlot)

/-- Whether an entry is configured as SCAN. -/
def Station.isScan (e : Station) : Bool := e.config.configured && e.config.kind == .scan

/-- How many entries at other addresses are configured as SCAN (R47, check 5). -/
def State.otherScans (s : State) (a : Nat) : Nat :=
  (List.range Config.stationEntries).countP fun i => i != a && (s.station i).isScan

/-- The contexts of a station after its entry has changed (R48). -/
def State.rebindContexts (s : State) (a : Nat) (after : Station) : State :=
  let s :=
    if after.config.configured && after.config.kind == .weigh then s.setSettle a none else s
  match s.boundScan a with
  | some (second, c) =>
    if after.isScan then s.setScan second c.emptied else s.setScan second .atReset
  | none =>
    if after.isScan then
      let free : ScanContext := { ScanContext.atReset with binding := some a }
      if s.scan0.binding.isNone then s.setScan false free
      else if s.scan1.binding.isNone then s.setScan true free else s
    else s

/-- The entry is replaced: its configuration as given, its run-time part as after reset (R46, R48). -/
def State.replaceStation (s : State) (a : Nat) (k : StationConfig) : State :=
  let after : Station := { config := k, run := .atReset }
  (s.setStation a after).rebindContexts a after

/-- STATION SET (R47, R48). -/
def workStationSet (a : Nat) (o : StationOperands) (s : State) : Answer × State :=
  if 15 < a then ({ code := .range }, s)
  else if s.mode ≠ .configure then ({ code := .mode, results := .station (s.station a) }, s)
  else
    match readYesNo o.configured with
    | none => ({ code := .range, results := .station (s.station a) }, s)
    | some false =>
      ({ code := .ok, results := .station .atReset }, s.replaceStation a .atReset)
    | some true =>
      match readStationConfig o with
      | none => ({ code := .range, results := .station (s.station a) }, s)
      | some k =>
        if k.kind = .scan ∧ 2 ≤ s.otherScans a then
          ({ code := .limit, results := .station (s.station a) }, s)
        else
          ({ code := .ok, results := .station { config := k, run := .atReset } },
           s.replaceStation a k)

/-! ### Mode changes and resets (R59) -/

/-- The controller IDLE with nothing active, staged, pending or slotted, and any poll in flight
abandoned; the timer as given. -/
def RoundController.stopped (timer : Option Nat) : RoundController :=
  { RoundController.atReset with roundTimer := timer }

end Sys2Proof.Machine
end

