-- ==== Sys2Proof/Machine/Responses.lean ====
section
/-! DEFINITION. The response frames (R197 to R199): the bytes MISO carries for a held response. -/

namespace Sys2Proof.Machine

/-- One byte. -/
def b1 (n : Nat) : List Byte := bytesOf 1 n

/-- Two bytes. -/
def b2 (n : Nat) : List Byte := bytesOf 2 n

/-- A yes-or-no result. -/
def bYes (b : Bool) : List Byte := b1 (yesNoCode b)

/-- An optional result of one byte, absent as the field filled with ones (R198). -/
def b1opt (o : Option Nat) : List Byte := b1 (o.getD 255)

/-- An optional result of two bytes, absent as the field filled with ones (R198). -/
def b2opt (o : Option Nat) : List Byte := b2 (o.getD 65535)

/-- A list result: its length and its elements (R198). -/
def bList (bs : List Byte) : List Byte := b1 bs.length ++ bs

/-- A signed amplitude byte. -/
def bSigned (x : Int) : Byte := BitVec.ofInt 8 x

/-- A set of present marks: bit i for the i-th. -/
def bitsOf (marks : List Bool) : Nat := marks.foldr (fun b acc => acc * 2 + if b then 1 else 0) 0

/-- A field of the item and report records: absent is sent as 0 (R199). -/
def orZero (o : Option Nat) : Nat := o.getD 0

def destCode : DestAnswer → Nat
  | .route => 0
  | .recirculate => 1
  | .pass => 2
  | .untracked => 3

def postCode : PostOutcome → Nat
  | .replaced => 0
  | .inserted => 1

def healthCode : Health → Nat
  | .unknown => 0
  | .up => 1
  | .down => 2

def controllerCode : ControllerState → Nat
  | .idle => 0
  | .walking => 1
  | .awaitReply => 2
  | .roundWait => 3

def pendingCode : PendingStart → Nat
  | .atTimer => 0
  | .empty => 1

/-- The four peaks of an item record, unused peaks 0 (R199). -/
def peakBytes (peaks : List Peak) : List Byte :=
  ((peaks.flatMap fun (p : Peak) => b2 p.pos ++ [bSigned p.amp]) ++ List.replicate 12 0).take 12

/-- The 50-byte item record (R199). -/
def itemBytes (index : Nat) (it : Item) : List Byte :=
  b1 index ++ b1 (itemStateCode it.state)
    ++ b2 (bitsOf [it.label.isSome, it.nominal.isSome, it.band.isSome, it.weight.isSome,
        it.tag.isSome, it.scan.isSome, it.wear.isSome, it.score.isSome, it.disposition.isSome,
        it.bin.isSome, it.chute.isSome, it.actualChute.isSome])
    ++ b1 (bitsOf [it.noManifest, it.excessUnit, it.late, it.hygiene])
    ++ b2 it.ticket ++ b2 it.tray ++ bytesOf 6 (orZero it.label)
    ++ b1 it.cls ++ b2 (orZero it.nominal) ++ b1 (orZero it.band)
    ++ b2 (orZero it.weight)
    ++ b1 (orZero (it.tag.map fun t => tagStateCode t.tag))
    ++ b1 (orZero (it.tag.map fun t => t.sku.getD 255))
    ++ b1 (orZero (it.scan.map fun e => e.peaks.length))
    ++ peakBytes ((it.scan.map (·.peaks)).getD [])
    ++ b1 (orZero (it.scan.map (·.total)))
    ++ b1 (orZero (it.wear.map (·.index)))
    ++ b1 (orZero (it.wear.map fun w => if w.pilling then 1 else 0))
    ++ b1 it.laps ++ b1 it.attempts
    ++ b2 (orZero it.score) ++ b1 (orZero (it.grade.map gradeCode))
    ++ b1 (orZero (it.disposition.map dispositionCode)) ++ b1 (reasonCode it.reason)
    ++ b2 (orZero it.bin) ++ b1 (orZero it.chute) ++ b1 (orZero it.actualChute)

/-- The 27-byte report record (R199). -/
def reportBytes (r : Report) : List Byte :=
  b1 (bitsOf [r.label.isSome, r.grade.isSome, r.weight.isSome, r.peakCount.isSome, r.bin.isSome,
      r.actualChute.isSome])
    ++ b1 (bitsOf [r.late, r.shadow, r.excessUnit, r.noManifest])
    ++ b2 r.ticket ++ b2 r.tray ++ bytesOf 6 (orZero r.label)
    ++ b1 r.cls ++ b1 (dispositionCode r.disposition) ++ b1 (reasonCode r.reason)
    ++ b1 (orZero (r.grade.map gradeCode)) ++ b2 (orZero r.score)
    ++ b2 (orZero r.weight) ++ b1 (orZero r.peakCount)
    ++ b2 (orZero r.bin) ++ b1 r.chute ++ b1 (orZero r.actualChute)
    ++ b1 r.laps ++ b1 r.attempts

/-- A class record in the order of R35. DEDUCED (log 30): its fields always hold a value, so TolFloor, Kw,
Ufree and Ppill are one byte each, although 0 to 255 uses every value of a byte (R198). -/
def classRecordBytes (r : ClassRecord) : List Byte :=
  b2 r.required.toNat ++ b2 r.tolPermille ++ b1 r.tolFloor ++ b1 r.kw ++ b2 r.wCap
    ++ b1 r.grossFactor ++ b1 r.skip ++ b1 r.shadow ++ b1 r.threshold ++ b1 r.kDark ++ b1 r.kLight
    ++ b1 r.kx ++ b2 r.sCap ++ b1 r.uFree ++ b1 r.ku ++ b1 r.pPill ++ b2 r.uCap ++ b2 r.ptDet
    ++ b2 r.ptAbs ++ b2 r.limA ++ b2 r.limB ++ b2 r.limC ++ b1 (dispositionCode r.mapA)
    ++ b1 (dispositionCode r.mapB) ++ b1 (dispositionCode r.mapC) ++ b1 (dispositionCode r.mapD)
    ++ b1 r.highBand ++ bList (r.prefs.map byteOf)

/-- A Station Table entry: its configuration in the order of R45, its run-time part in that of R46. The SCAN
passes is sent as its number (log 16), and the self-check, which can be none, one byte wider (R198,
log 30). -/
def stationBytes (e : Station) : List Byte :=
  bYes e.config.configured ++ b1 (kindCode e.config.kind) ++ bYes e.config.holdAllowed
    ++ bList ([e.config.sel0, e.config.sel1, e.config.sel2, e.config.sel3].map
        fun o => byteOf (o.getD 255))
    ++ b1 (tagStateCode e.config.code0) ++ b1 (tagStateCode e.config.code1)
    ++ b1 (tagStateCode e.config.code2) ++ b1 (tagStateCode e.config.code3)
    ++ b1 e.config.band ++ b1 e.config.settleCount ++ b1 e.config.unsettleCount
    ++ bYes e.config.holdOnMotion ++ bYes e.config.holdOnOverload ++ b1 e.config.passes
    ++ b1 e.config.window ++ b1 e.config.badLimit ++ b1 e.config.recovery
    ++ b1 (healthCode e.run.health)
    ++ bList (e.run.history.map fun good => byteOf (if good then 0 else 1))
    ++ b1 (e.run.history.countP (!·)) ++ b1 e.run.consecutiveGood
    ++ b1 (match e.run.holdCapable with
        | some b => yesNoCode b
        | none => 2)
    ++ b2opt e.run.selfCheck

/-- The link settings (R49) and the round controller's state in the order R49 names it. -/
def linkBytes (l : LinkSettings) (c : RoundController) : List Byte :=
  b2 l.period ++ b2 l.timeout ++ b1 l.threshold
    ++ b1 (controllerCode c.state)
    ++ b2opt (c.active.map (·.base)) ++ b1opt (c.active.map (·.length))
    ++ b1opt (c.active.map fun a => yesNoCode a.rep)
    ++ b2opt (c.staged.map (·.base)) ++ b1opt (c.staged.map (·.length))
    ++ b1opt (c.staged.map fun g => startModeCode g.mode)
    ++ b1opt (c.staged.map fun g => yesNoCode g.rep)
    ++ b1opt (c.pendingStart.map pendingCode)
    ++ bYes c.slot.isSome
    ++ b1opt (c.slot.map (·.station)) ++ b1opt (c.slot.map fun p => pollKindCode p.kind)
    ++ b2opt c.walkPos

/-- The result bytes of an answer (R198, R199). Which fields R198 sends one byte wider is DEDUCED (log 30). -/
def resultBytes : Results → List Byte
  | .none => []
  | .inducted i t => b1 i ++ b2 t
  | .destination a c => b1 (destCode a) ++ b1 c
  | .reopened n => b1 n
  | .item i it => itemBytes i it
  | .statusWord m c => b1 (modeCode m) ++ b2 c.toNat
  | .mask m c => b2 m.toNat ++ b2 c.toNat
  | .limits live manifests classes bins reports frames =>
    b2 Config.itemEntries ++ b2 live ++ b2 Config.manifestEntries ++ b2 manifests
      ++ b2 Config.classEntries ++ b2 classes ++ b2 Config.binEntries ++ b2 bins
      ++ b2 Config.reportRecords ++ b2 reports ++ b2 Config.fifoFrames ++ b2 frames
  | .mode m live => b1 (modeCode m) ++ b2 live
  | .arbiter k limit left p =>
    b1 (strategyCode k) ++ b1 limit ++ bYes left.isSome ++ b1opt left ++ b1 (clientCode p)
  | .milliseconds n => b1 n
  | .line l =>
    b1 l.maxLaps ++ b1 l.divertTries ++ b1 l.fallbackClass ++ b1opt l.overflowZone
      ++ b1 l.reviewChute ++ b1 l.refurbishChute ++ b1 l.outletChute ++ b1 l.recycleChute
  | .station e => stationBytes e
  | .classRecord valid r => bYes valid ++ classRecordBytes r
  | .posted o n => (o.map fun k => b1 (postCode k)).getD [] ++ b2 n
  | .withdrawn expected received n => b1 expected ++ b1 received ++ b2 n
  | .manifest label m =>
    bytesOf 6 label ++ b1 m.cls ++ b2 m.nominal ++ b1 m.band ++ bYes m.hygiene ++ b1 m.expected
      ++ b1 m.received
  | .zone z n => b1 z.chute ++ b1 (zoneStateCode z.state) ++ b2 n
  | .slot amount b room z =>
    (amount.map b1).getD [] ++ b1 b.zone ++ b1 (laneCode b.lane) ++ b1 b.capacity ++ b1 b.committed
      ++ b1 b.reserved ++ b1opt b.affinity ++ b1opt b.cls ++ bYes b.enabled ++ b1 room
      ++ b1 (zoneStateCode z.state) ++ b1 z.chute
  | .link l c => linkBytes l c
  | .report urgent r u n f w =>
    b1 (if urgent then 0 else 1) ++ reportBytes r ++ b1 u ++ b1 n ++ b1 f ++ b2 w
  | .queueLengths u n f w => b1 u ++ b1 n ++ b1 f ++ b2 w
  | .counters v => v.toList.flatMap b2
  | .lamps v active =>
    (v.toList.flatMap fun l => b1 (lampSourceCode l.source) ++ b1 (lampPatternCode l.pattern))
      ++ active.toList.flatMap bYes

/-- A response frame (R197), with the OVERRUN mark the port holds as the frame is shifted out (R168). -/
def responseFrame (r : Response) (overrun : Bool) : List Byte :=
  let results := resultBytes r.results
  closeFrame (b2 (results.length + 8) ++ b1 (codeNumber r.code) ++ b1 r.request ++ b1 r.tag
    ++ b1 (bitsOf [overrun, r.held]) ++ results)

/-- The NOT_READY answer (R167, R197). -/
def notReadyFrame : List Byte := closeFrame (b2 8 ++ b1 24 ++ b1 0 ++ b1 0 ++ b1 0)

/-- `count` bytes shifted out: the frame, then 00 (R196). -/
def shiftOut (frame : List Byte) (count : Nat) : List Byte :=
  (frame ++ List.replicate count 0).take count

end Sys2Proof.Machine
end

