-- ==== Sys2Proof/Machine/Modes.lean ====
section
/-! DEFINITION. The Line Mode Controller (R186 to R192): MODE SET and the three resets. -/

namespace Sys2Proof.Machine

/-- The effect of a mode change on the round controller, its timer and the link (R59, R188). -/
def State.changeMode (s : State) (m : Mode) : State :=
  let s' := { s with mode := m }
  match s.mode, m with
  | .configure, .configure => s'
  | .configure, _ => s'.withController fun c => { c with roundTimer := some s.link.period }
  | _, .configure => { s' with controller := .stopped none }
  | _, _ => s'

/-- MODE SET (R187, R188). DESIGN CHOICE (log 29): the live items alone decide ITEMS_LIVE, also where the
Grade Computer still holds the copy of an item cleared from its tray, and it is left as it is. -/
def workModeSet (mode : Nat) (s : State) : Answer × State :=
  match readMode mode with
  | none => ({ code := .range, results := .mode s.mode s.liveItems }, s)
  | some m =>
    if s.liveItems ≠ 0 then ({ code := .itemsLive, results := .mode s.mode s.liveItems }, s)
    else if s.mode = .configure ∧ m ≠ .configure ∧ s.line.reviewChute = 0 then
      ({ code := .noReviewChute, results := .mode s.mode s.liveItems }, s)
    else ({ code := .ok, results := .mode m s.liveItems }, s.changeMode m)

/-- Every block's values after the RESET pin or FULL RESET, but for what a reset does not reach: what
the links last carried, the blink phase, the pin, and the model's own fields. -/
def State.resetBlocks (s : State) : State :=
  { State.reset with
    resetN := s.resetN
    linePort := { PortEngine.atReset with miso := s.linePort.miso }
    sorterPort := { PortEngine.atReset with miso := s.sorterPort.miso }
    blinkLit := s.blinkLit
    linkTxd := s.linkTxd
    freeReads := s.freeReads
    pending := s.pending }

/-- What a FULL RESET leaves of the response a port held: the frame a read in progress was shifting out,
for the rest of which MISO carries 00 (R172). A read already cut by an earlier reset stays cut. -/
def PortEngine.cutByReset (e : PortEngine) : Option (List Byte) :=
  match e.phase with
  | .responseReady r => some (responseFrame r e.overrun)
  | .idle => e.discarded
  | .executing .. => none

/-- FULL RESET (R191): the Line Port keeps its overrun mark, the Sorter Port's response is discarded
(R172). -/
def fullResetBlocks (s : State) : State :=
  let s' := s.resetBlocks
  { s' with
    linePort := { s'.linePort with overrun := s.linePort.overrun }
    sorterPort := { s'.sorterPort with discarded := s.sorterPort.cutByReset } }

/-- RESET_N goes low (R190). The blink phase starts afresh at the release. -/
def resetPinLow (s : State) : State :=
  { s.resetBlocks with resetN := false, blinkLit := State.reset.blinkLit }

/-- RESET_N rises (R190): the blink phase starts (R183). -/
def resetPinHigh (s : State) : State :=
  if s.resetN then s else { s with resetN := true, blinkLit := State.reset.blinkLit }

/-- A scan context after LINE RESTART (R90). -/
def State.emptyScans (s : State) : State :=
  { s with scan0 := s.scan0.emptied, scan1 := s.scan1.emptied }

/-- The arbiter after LINE RESTART (R164). -/
def Arbiter.afterRestart (a : Arbiter) : Arbiter :=
  { a with holder := none, chain := false, waiting := .empty, hold := none }

/-- A Sorter Port request not yet granted is withdrawn and answered RESTARTED (R172). -/
def State.restartSorter (s : State) : State :=
  match s.sorterPort.phase with
  | .executing tag r => s.respond .sorter tag (requestCode r) { code := .restarted }
  | _ => s

/-- LINE RESTART (R192), but for the Line Port's answer. -/
def lineRestartBlocks (s0 : State) : State :=
  let s : State := (s0.bumpBy .reportsLost s0.waitList.length).emptyScans
  let s' : State := { s with
    items := []
    trayIndex := []
    gradeQueue := []
    waitList := []
    bins := tupdate Bin.atReset Bin.afterRestart Config.binEntries s.bins
    arbiter := s.arbiter.afterRestart
    stations := tupdate Station.atReset (fun e => { e with run := .atReset }) Config.stationEntries
      s.stations
    controller := .stopped (if s.mode = .configure then none else some s.link.period)
    fifo := []
    collector := .waiting
    settle := []
    grader := .idle }
  s'.restartSorter

end Sys2Proof.Machine
end

