-- ==== Sys2Proof/Machine/Reports.lean ====
section
/-! DEFINITION. The Report Unit's requests (R176, R179 to R184), STATUS and ATTENTION MASK (R170,
R171). -/

namespace Sys2Proof.Machine

/-- STATUS (R170). -/
def workStatus (s : State) : Answer × State := ({ code := .ok, results := s.statusWord }, s)

/-- The answer of ATTENTION MASK (R171). -/
def State.maskResults (s : State) (p : Port) : Results := .mask (s.port p).mask s.conditions

/-- ATTENTION MASK (R171) on the mask of the port it arrives on. -/
def workAttentionMask (p : Port) (mask : Nat) (s : State) : Answer × State :=
  match readMask mask with
  | none => ({ code := .range, results := s.maskResults p }, s)
  | some none => ({ code := .ok, results := s.maskResults p }, s)
  | some (some m) =>
    let s' := s.setPort p { s.port p with mask := m }
    ({ code := .ok, results := s'.maskResults p }, s')

/-- STATUS CLEAR (R179). -/
def workStatusClear (conditions : Nat) (s : State) : Answer × State :=
  if namesOnlySticky conditions then
    let s' := { s with sticky := s.sticky.clearNamed conditions }
    ({ code := .ok, results := s'.statusWord }, s')
  else ({ code := .range }, s)

/-- The raises that a snapshot taken now does not hold yet: for each counter, a free number of those of the
event in progress, each of which falls before or after it on its own (R181, log 18). -/
@[irreducible] def State.lateRaises (s : State) : Vector Nat 24 :=
  Vector.ofFn fun i => min s.counters.recent[i] (Config.raisesAfterSnapshot s.freeReads i)

/-- What a snapshot taken now holds (R181). -/
@[irreducible] def State.snapshotValues (s : State) : Vector Nat 24 :=
  Vector.ofFn fun i =>
    min Config.counterMax (s.counters.base[i] + (s.counters.recent[i] - s.lateRaises[i]))

/-- COUNTERS SNAPSHOT (R181): the counters are copied and set to 0; a raise taken after the copy counts
from 0. -/
def workCountersSnapshot (s : State) : Answer × State :=
  ({ code := .ok, results := .counters s.snapshotValues },
   { s with
     snapshot := s.snapshotValues
     counters := { Counters.zero with recent := s.lateRaises }
     freeReads := s.freeReads + 1 })

/-- COUNTERS READ (R182). -/
def workCountersRead (s : State) : Answer × State :=
  ({ code := .ok, results := .counters s.snapshot }, s)

/-- LAMP SET (R184). -/
def workLampSet (lamp source pattern : Nat) (s : State) : Answer × State :=
  if h : lamp < 4 then
    match readLampSource source, readLampPattern pattern with
    | some src, some pat =>
      let s' := { s with lamps := s.lamps.set lamp { source := src, pattern := pat } h }
      ({ code := .ok, results := s'.lampResults }, s')
    | _, _ => ({ code := .range, results := s.lampResults }, s)
  else ({ code := .range, results := s.lampResults }, s)

/-- COLLECT (R176): the oldest urgent report, or else the oldest routine report, and the freed record to
the oldest RETIRING item. -/
def workCollect (s : State) : Answer × State :=
  match s.urgent, s.routine with
  | r :: rest, _ =>
    let s' := { s with urgent := rest }.serveWaitList
    ({ code := .ok,
       results := .report true r s'.urgent.length s'.routine.length s'.freeRecords
         s'.waitList.length }, s')
  | [], r :: rest =>
    let s' := { s with routine := rest }.serveWaitList
    ({ code := .ok,
       results := .report false r s'.urgent.length s'.routine.length s'.freeRecords
         s'.waitList.length }, s')
  | [], [] =>
    ({ code := .empty,
       results := .queueLengths s.urgent.length s.routine.length s.freeRecords s.waitList.length },
     s)

end Sys2Proof.Machine
end

