-- ==== Sys2Proof/Machine/Requests.lean ====
section
/-! DEFINITION. The request frame a master sends for a request (R196): the encoder that goes with
`readRequestFrame`, written from the same table of operand widths. -/

namespace Sys2Proof.Machine

/-- The fixed fields of a class record as operand bytes, in the order of R35. -/
def classBytes (o : ClassOperands) : List Byte :=
  bytesOf 2 o.required ++ bytesOf 2 o.tolPermille ++ bytesOf 1 o.tolFloor ++ bytesOf 1 o.kw
    ++ bytesOf 2 o.wCap ++ bytesOf 1 o.grossFactor ++ bytesOf 1 o.skip ++ bytesOf 1 o.shadow
    ++ bytesOf 1 o.threshold ++ bytesOf 1 o.kDark ++ bytesOf 1 o.kLight ++ bytesOf 1 o.kx
    ++ bytesOf 2 o.sCap ++ bytesOf 1 o.uFree ++ bytesOf 1 o.ku ++ bytesOf 1 o.pPill
    ++ bytesOf 2 o.uCap ++ bytesOf 2 o.ptDet ++ bytesOf 2 o.ptAbs ++ bytesOf 2 o.limA
    ++ bytesOf 2 o.limB ++ bytesOf 2 o.limC ++ bytesOf 1 o.mapA ++ bytesOf 1 o.mapB
    ++ bytesOf 1 o.mapC ++ bytesOf 1 o.mapD ++ bytesOf 1 o.highBand

/-- The operand bytes of a request, in the order its rule names the operands (R196). -/
def operandBytes : Request → List Byte
  | .induct t l => bytesOf 2 t ++ bytesOf 6 l
  | .destination t => bytesOf 2 t
  | .diverted t c => bytesOf 2 t ++ bytesOf 1 c
  | .divertFailed t c => bytesOf 2 t ++ bytesOf 1 c
  | .trayCleared t => bytesOf 2 t
  | .chuteClear c => bytesOf 1 c
  | .status => []
  | .tableLimits => []
  | .itemQuery k v => bytesOf 1 k ++ bytesOf 2 v
  | .attentionMask m => bytesOf 2 m
  | .modeSet m => bytesOf 1 m
  | .fullReset => []
  | .lineRestart => []
  | .statusClear c => bytesOf 2 c
  | .arbiterSet k l => bytesOf 1 k ++ bytesOf 1 l
  | .holdBegin => []
  | .holdEnd => []
  | .lineSet o =>
    bytesOf 1 o.maxLaps ++ bytesOf 1 o.divertTries ++ bytesOf 1 o.fallbackClass
      ++ bytesOf 1 o.overflowZone ++ bytesOf 1 o.reviewChute ++ bytesOf 1 o.refurbishChute
      ++ bytesOf 1 o.outletChute ++ bytesOf 1 o.recycleChute
  | .stationSet a o =>
    bytesOf 1 a ++ bytesOf 1 o.configured ++ bytesOf 1 o.kind ++ bytesOf 1 o.holdAllowed
      ++ bytesOf 1 o.fieldMap.count ++ o.fieldMap.elems.map byteOf
      ++ bytesOf 1 o.code0 ++ bytesOf 1 o.code1 ++ bytesOf 1 o.code2 ++ bytesOf 1 o.code3
      ++ bytesOf 1 o.band ++ bytesOf 1 o.settleCount ++ bytesOf 1 o.unsettleCount
      ++ bytesOf 1 o.holdOnMotion ++ bytesOf 1 o.holdOnOverload ++ bytesOf 1 o.passes
      ++ bytesOf 1 o.window ++ bytesOf 1 o.badLimit ++ bytesOf 1 o.recovery
  | .classWrite k o =>
    bytesOf 1 k ++ classBytes o ++ bytesOf 1 o.prefs.count ++ o.prefs.elems.map byteOf
  | .classRead k => bytesOf 1 k
  | .classClear k => bytesOf 1 k
  | .manifestPost o =>
    bytesOf 6 o.label ++ bytesOf 1 o.cls ++ bytesOf 2 o.nominal ++ bytesOf 1 o.band
      ++ bytesOf 1 o.hygiene ++ bytesOf 1 o.expected
  | .manifestWithdraw l => bytesOf 6 l
  | .manifestRead l => bytesOf 6 l
  | .zoneSet z c k => bytesOf 1 z ++ bytesOf 1 c ++ bytesOf 1 k
  | .slotSet b o =>
    bytesOf 2 b ++ bytesOf 1 o.zone ++ bytesOf 1 o.lane ++ bytesOf 1 o.capacity
      ++ bytesOf 1 o.affinity ++ bytesOf 1 o.enabled
  | .slotAdjust b n k => bytesOf 2 b ++ bytesOf 1 n ++ bytesOf 1 k
  | .slotRelease b n => bytesOf 2 b ++ bytesOf 1 n
  | .slotRead b => bytesOf 2 b
  | .scheduleWrite first es =>
    bytesOf 1 first ++ bytesOf 1 es.count
      ++ es.elems.flatMap (fun e => [byteOf e.1, byteOf e.2])
  | .linkSet p t n => bytesOf 2 p ++ bytesOf 2 t ++ bytesOf 1 n
  | .scheduleStart o | .scheduleStage o =>
    bytesOf 1 o.base ++ bytesOf 1 o.length ++ bytesOf 1 o.startMode ++ bytesOf 1 o.rep
  | .scheduleCancel => []
  | .singlePoll a k => bytesOf 1 a ++ bytesOf 1 k
  | .collect => []
  | .countersSnapshot => []
  | .countersRead => []
  | .lampSet l k p => bytesOf 1 l ++ bytesOf 1 k ++ bytesOf 1 p

/-- The request frame (R196): length, request code, tag, operands, CRC. -/
def requestFrame (tag : Nat) (r : Request) : List Byte :=
  let ops := operandBytes r
  closeFrame (bytesOf 2 (ops.length + 6) ++ [byteOf (requestCode r), byteOf tag] ++ ops)

/-- The transaction in which a master writes a request (R196): the kind byte, then the frame. -/
def requestTransaction (tag : Nat) (r : Request) : List Byte := writeKindByte :: requestFrame tag r

end Sys2Proof.Machine
end

