-- ==== Sys2Proof/Machine/Ports.lean ====
section
/-! DEFINITION. The port engines and the store's accesses (R150 to R152, R165 to R173): a request frame
taken and checked, its access posted or its work done, and the access of each client. -/

namespace Sys2Proof.Machine

/-- The request frame a request command brings: the well-formed frame, or the bytes received in its
place (R166). -/
def frameTaken (h : Header) (r : Request) : FrameTaken :=
  match h.received with
  | none => .request h.tag r
  | some bytes => readRequestFrame bytes

/-- The requests of the Sorter Port (R169). -/
def sorterItem : Request → Bool
  | .induct .. | .destination .. | .diverted .. | .divertFailed .. | .trayCleared ..
  | .chuteClear .. => true
  | _ => false

/-- The requests permitted on both ports (R169). -/
def bothPorts : Request → Bool
  | .status | .tableLimits | .itemQuery .. | .attentionMask .. => true
  | _ => false

/-- The permission table (R169). -/
def permitted (r : Request) : Port → Bool
  | .line => !sorterItem r
  | .sorter => sorterItem r || bothPorts r

/-- The requests whose work takes one access (R151). -/
def takesAccess : Request → Bool
  | .induct .. | .destination .. | .diverted .. | .divertFailed .. | .trayCleared .. | .chuteClear ..
  | .itemQuery .. | .tableLimits | .manifestPost .. | .manifestWithdraw .. | .manifestRead ..
  | .classWrite .. | .classRead .. | .classClear .. | .lineSet .. | .zoneSet .. | .slotSet ..
  | .slotAdjust .. | .slotRelease .. | .slotRead .. | .collect | .modeSet .. | .arbiterSet ..
  | .holdBegin => true
  | _ => false

/-- The work of a request, checks 1 to 4 passed. FULL RESET and LINE RESTART are `resetRequest`. -/
def workOf (p : Port) (r : Request) (s : State) : Answer × State :=
  match r with
  | .induct tray label => workInduct tray label s
  | .destination tray => workDestination tray s
  | .diverted tray chute => workDiverted tray chute s
  | .divertFailed tray cause => workDivertFailed tray cause s
  | .trayCleared tray => workTrayCleared tray s
  | .chuteClear chute => workChuteClear chute s
  | .status => workStatus s
  | .tableLimits => workTableLimits s
  | .itemQuery selector value => workItemQuery selector value s
  | .attentionMask mask => workAttentionMask p mask s
  | .modeSet mode => workModeSet mode s
  | .fullReset => ({ code := .ok }, fullResetBlocks s)
  | .lineRestart => ({ code := .ok }, lineRestartBlocks s)
  | .statusClear conditions => workStatusClear conditions s
  | .arbiterSet strategy limit => workArbiterSet strategy limit s
  | .holdBegin => workHoldBegin s
  | .holdEnd => workHoldEnd s
  | .lineSet o => workLineSet o s
  | .stationSet a o => workStationSet a o s
  | .classWrite k o => workClassWrite k o s
  | .classRead k => workClassRead k s
  | .classClear k => workClassClear k s
  | .manifestPost o => workManifestPost o s
  | .manifestWithdraw label => workManifestWithdraw label s
  | .manifestRead label => workManifestRead label s
  | .zoneSet z chute zstate => workZoneSet z chute zstate s
  | .slotSet b o => workSlotSet b o s
  | .slotAdjust b n k => workSlotAdjust b n k s
  | .slotRelease b n => workSlotRelease b n s
  | .slotRead b => workSlotRead b s
  | .scheduleWrite first es => workScheduleWrite first es s
  | .linkSet p t n => workLinkSet p t n s
  | .scheduleStart o => workScheduleStart o s
  | .scheduleStage o => workScheduleStage o s
  | .scheduleCancel => workScheduleCancel s
  | .singlePoll a k => workSinglePoll a k s
  | .collect => workCollect s
  | .countersSnapshot => workCountersSnapshot s
  | .countersRead => workCountersRead s
  | .lampSet l k q => workLampSet l k q s

/-- Check 4 and the work of a request, which completes it (R166). -/
def perform (p : Port) (tag : Nat) (r : Request) (s : State) : State :=
  if refusedInMode s.mode r then s.respond p tag (requestCode r) { code := .mode }
  else
    let a := workOf p r s
    a.2.respond p tag (requestCode r) a.1

/-- The access of a port engine: the work of the request it is executing (R151). -/
def servePort (p : Port) (s : State) : State :=
  match (s.port p).phase with
  | .executing tag r => perform p tag r s
  | _ => s

/-- One client's access, taken whole (R150, R151). -/
def runAccess (c : Client) (s : State) : State :=
  match c with
  | .lpe => servePort .line s
  | .spe => servePort .sorter s
  | .ec =>
    match s.collector with
    | .awaitStore pieces => evidenceWrite pieces s
    | .waiting => s
  | .gc =>
    match s.grader with
    | .fetchWait => gradingFetch s
    | .writeWait copy result => gradingWriteBack copy result s
    | _ => s

/-- A client posts its request: granted at once, or waiting (R152). -/
def postClient (c : Client) (m : Moment) (s : State) : State :=
  if s.arbiter.grantsAtOnce c m then runAccess c (s.markGranted c) else s.postWaiting c

/-- The client that works for a port. -/
def clientOf : Port → Client
  | .line => .lpe
  | .sorter => .spe

/-- A request is in hand: the engine is EXECUTING (R165). -/
def State.executing (s : State) (p : Port) (tag : Nat) (r : Request) : State :=
  s.setPort p { s.port p with phase := .executing tag r }

/-- The state a request without an access finds: for a COUNTERS SNAPSHOT its moment says whether the event
taken last has ended (R181, log 18). -/
def State.atMoment (s : State) : Request → Moment → State
  | .countersSnapshot, .storeFree => s.closeRaises
  | _, _ => s

/-- A well-formed request taken in IDLE: checks 3 and 4 and its work or its posting (R151, R156, R166).
FULL RESET and LINE RESTART are taken between accesses: a chain in progress runs to its end first
(R161). A COUNTERS SNAPSHOT taken while no event is in progress finds every raise made (R181, log 18). -/
def takeRequest (p : Port) (m : Moment) (tag : Nat) (r : Request) (s : State) : State :=
  if !permitted r p then s.respond p tag (requestCode r) { code := .notPermitted }
  else if takesAccess r then
    if p = .sorter ∧ s.arbiter.hold.isSome then
      let a := answerUnderHold r s
      a.2.respond p tag (requestCode r) a.1
    else postClient (clientOf p) m (s.executing p tag r)
  else if (r = .fullReset ∨ r = .lineRestart) ∧ s.arbiter.holder.isSome then s.executing p tag r
  else perform p tag r (s.atMoment r m)

/-- A request frame on a port (R165): taken in IDLE, an overrun otherwise. -/
def takeFrameOnPort (p : Port) (m : Moment) (f : FrameTaken) (s : State) : State :=
  match (s.port p).phase with
  | .idle =>
    match f with
    | .request tag r => takeRequest p m tag r s
    | .refused code rq tag => s.respond p tag rq { code := code }
  | _ => s.overrun p

/-- A write-request transaction (R165): ignored while RESET_N is low. -/
def writeRequest (p : Port) (m : Moment) (f : FrameTaken) (s : State) : State :=
  if !s.resetN then s else (takeFrameOnPort p m f s).written p

/-- A request command: its frame arrives on its port. -/
def request (h : Header) (r : Request) (s : State) : Host.Outcome State Fault Refusal :=
  .next (writeRequest h.port h.moment (frameTaken h r) s)

/-- What MISO carries in a read of `count` bytes (R167). -/
def readBytes (e : PortEngine) (count : Nat) : List Byte :=
  match e.phase with
  | .responseReady r => shiftOut (responseFrame r e.overrun) count
  | _ => shiftOut notReadyFrame count

/-- Whether a read of `count` bytes delivers the response held (R167). -/
def delivers (e : PortEngine) (count : Nat) : Bool :=
  match e.phase with
  | .responseReady r => decide ((responseFrame r e.overrun).length ≤ count)
  | _ => false

/-- What MISO carries in a read of `count` bytes during which, after `shifted` bytes, a FULL RESET
discarded the response being shifted out: its first bytes, then 00 (R172). -/
def cutBytes (frame : List Byte) (shifted count : Nat) : List Byte :=
  shiftOut (frame.take shifted) count

/-- A read-response transaction (R167, R168). `cut` says after how many bytes a FULL RESET discarded the
response being shifted out; such a read delivers nothing (R172). -/
def readPort (p : Port) (count : Nat) (cut : Option Nat) (s : State) : State :=
  let e := s.port p
  let e' :=
    match e.phase, e.discarded, cut with
    | .idle, some frame, some shifted => { e with miso := cutBytes frame shifted count }
    | _, _, _ =>
      let e := { e with miso := readBytes e count }
      if delivers (s.port p) count then { e with phase := .idle, overrun := false } else e
  (s.setPort p { e' with discarded := none }).closeRaises

/-- A reset request that waited for a chain to end acts (R161, R172). -/
def State.afterChain (s : State) : State :=
  match s.linePort.phase with
  | .executing tag r =>
    if r = .fullReset ∨ r = .lineRestart then perform .line tag r s else s
  | _ => s

/-- What happens while RESET_N is high; while it is low the part does nothing (R190). -/
def whenRunning (s : State) (f : State → State) : Host.Outcome State Fault Refusal :=
  .next (if s.resetN then f s else s)

/-! ### The commands of the ports -/

/-- WRITE_REQUEST_OVERRUN (R165, R168, R196): a transaction given by the bytes on MOSI, its kind byte
first. -/
def execWriteRequestOverrun (p : Port) (m : Moment) (mosi : List Byte) (s : State) :
    Host.Outcome State Fault Refusal :=
  match readTransaction mosi with
  | .writeRequest frame => .next (writeRequest p m (readRequestFrame frame) s)
  | .readResponse count => whenRunning s (readPort p count none)
  | .ignored => .next s

/-- READ_RESPONSE (R167). -/
def execReadResponse (p : Port) (r : Reading) (s : State) : Host.Outcome State Fault Refusal :=
  whenRunning s (readPort p r.count r.cut)

/-- INDUCT (R6). -/
def execInduct (h : Header) (tray label : Nat) (s : State) : Host.Outcome State Fault Refusal :=
  request h (.induct tray label) s

/-- DESTINATION (R9). -/
def execDestination (h : Header) (tray : Nat) (s : State) : Host.Outcome State Fault Refusal :=
  request h (.destination tray) s

/-- DIVERTED (R17). -/
def execDiverted (h : Header) (tray chute : Nat) (s : State) : Host.Outcome State Fault Refusal :=
  request h (.diverted tray chute) s

/-- DIVERT FAILED (R19). -/
def execDivertFailed (h : Header) (tray cause : Nat) (s : State) :
    Host.Outcome State Fault Refusal :=
  request h (.divertFailed tray cause) s

/-- TRAY CLEARED (R20). -/
def execTrayCleared (h : Header) (tray : Nat) (s : State) : Host.Outcome State Fault Refusal :=
  request h (.trayCleared tray) s

/-- CHUTE CLEAR (R21). -/
def execChuteClear (h : Header) (chute : Nat) (s : State) : Host.Outcome State Fault Refusal :=
  request h (.chuteClear chute) s

/-- ITEM QUERY (R22). -/
def execItemQuery (h : Header) (selector value : Nat) (s : State) :
    Host.Outcome State Fault Refusal :=
  request h (.itemQuery selector value) s

/-- STATUS (R170). -/
def execStatus (h : Header) (s : State) : Host.Outcome State Fault Refusal := request h .status s

/-- TABLE LIMITS (R162). -/
def execTableLimits (h : Header) (s : State) : Host.Outcome State Fault Refusal :=
  request h .tableLimits s

/-- ATTENTION MASK (R171). -/
def execAttentionMask (h : Header) (mask : Nat) (s : State) : Host.Outcome State Fault Refusal :=
  request h (.attentionMask mask) s

/-- MODE SET (R187). -/
def execModeSet (h : Header) (mode : Nat) (s : State) : Host.Outcome State Fault Refusal :=
  request h (.modeSet mode) s

/-- FULL RESET (R191). -/
def execFullReset (h : Header) (s : State) : Host.Outcome State Fault Refusal :=
  request h .fullReset s

/-- LINE RESTART (R192). -/
def execLineRestart (h : Header) (s : State) : Host.Outcome State Fault Refusal :=
  request h .lineRestart s

/-- STATUS CLEAR (R179). -/
def execStatusClear (h : Header) (conditions : Nat) (s : State) : Host.Outcome State Fault Refusal :=
  request h (.statusClear conditions) s

/-- ARBITER SET (R153). -/
def execArbiterSet (h : Header) (strategy limit : Nat) (s : State) :
    Host.Outcome State Fault Refusal :=
  request h (.arbiterSet strategy limit) s

/-- HOLD BEGIN (R154). -/
def execHoldBegin (h : Header) (s : State) : Host.Outcome State Fault Refusal :=
  request h .holdBegin s

/-- HOLD END (R159). -/
def execHoldEnd (h : Header) (s : State) : Host.Outcome State Fault Refusal := request h .holdEnd s

/-- LINE SET (R43). -/
def execLineSet (h : Header) (o : LineOperands) (s : State) : Host.Outcome State Fault Refusal :=
  request h (.lineSet o) s

/-- STATION SET (R47). -/
def execStationSet (h : Header) (a : Nat) (o : StationOperands) (s : State) :
    Host.Outcome State Fault Refusal :=
  request h (.stationSet a o) s

/-- CLASS WRITE (R37). -/
def execClassWrite (h : Header) (k : Nat) (o : ClassOperands) (s : State) :
    Host.Outcome State Fault Refusal :=
  request h (.classWrite k o) s

/-- CLASS READ (R40). -/
def execClassRead (h : Header) (k : Nat) (s : State) : Host.Outcome State Fault Refusal :=
  request h (.classRead k) s

/-- CLASS CLEAR (R39). -/
def execClassClear (h : Header) (k : Nat) (s : State) : Host.Outcome State Fault Refusal :=
  request h (.classClear k) s

/-- MANIFEST POST (R29). -/
def execManifestPost (h : Header) (o : ManifestOperands) (s : State) :
    Host.Outcome State Fault Refusal :=
  request h (.manifestPost o) s

/-- MANIFEST WITHDRAW (R30). -/
def execManifestWithdraw (h : Header) (label : Nat) (s : State) : Host.Outcome State Fault Refusal :=
  request h (.manifestWithdraw label) s

/-- MANIFEST READ (R31). -/
def execManifestRead (h : Header) (label : Nat) (s : State) : Host.Outcome State Fault Refusal :=
  request h (.manifestRead label) s

/-- ZONE SET (R128). -/
def execZoneSet (h : Header) (z chute zstate : Nat) (s : State) : Host.Outcome State Fault Refusal :=
  request h (.zoneSet z chute zstate) s

/-- SLOT SET (R143, R144). -/
def execSlotSet (h : Header) (b : Nat) (o : SlotOperands) (s : State) :
    Host.Outcome State Fault Refusal :=
  request h (.slotSet b o) s

/-- SLOT ADJUST (R145). -/
def execSlotAdjust (h : Header) (b n k : Nat) (s : State) : Host.Outcome State Fault Refusal :=
  request h (.slotAdjust b n k) s

/-- SLOT RELEASE (R146). -/
def execSlotRelease (h : Header) (b n : Nat) (s : State) : Host.Outcome State Fault Refusal :=
  request h (.slotRelease b n) s

/-- SLOT READ (R147). -/
def execSlotRead (h : Header) (b : Nat) (s : State) : Host.Outcome State Fault Refusal :=
  request h (.slotRead b) s

/-- SCHEDULE WRITE (R50). -/
def execScheduleWrite (h : Header) (first : Nat) (es : ListOperand (Nat × Nat)) (s : State) :
    Host.Outcome State Fault Refusal :=
  request h (.scheduleWrite first es) s

/-- LINK SET (R49). -/
def execLinkSet (h : Header) (period timeout threshold : Nat) (s : State) :
    Host.Outcome State Fault Refusal :=
  request h (.linkSet period timeout threshold) s

/-- SCHEDULE START (R52). -/
def execScheduleStart (h : Header) (o : ScheduleOperands) (s : State) :
    Host.Outcome State Fault Refusal :=
  request h (.scheduleStart o) s

/-- SCHEDULE STAGE (R56). -/
def execScheduleStage (h : Header) (o : ScheduleOperands) (s : State) :
    Host.Outcome State Fault Refusal :=
  request h (.scheduleStage o) s

/-- SCHEDULE CANCEL (R57). -/
def execScheduleCancel (h : Header) (s : State) : Host.Outcome State Fault Refusal :=
  request h .scheduleCancel s

/-- SINGLE POLL (R58). -/
def execSinglePoll (h : Header) (a kind : Nat) (s : State) : Host.Outcome State Fault Refusal :=
  request h (.singlePoll a kind) s

/-- COLLECT (R176). -/
def execCollect (h : Header) (s : State) : Host.Outcome State Fault Refusal := request h .collect s

/-- COUNTERS SNAPSHOT (R181). -/
def execCountersSnapshot (h : Header) (s : State) : Host.Outcome State Fault Refusal :=
  request h .countersSnapshot s

/-- COUNTERS READ (R182). -/
def execCountersRead (h : Header) (s : State) : Host.Outcome State Fault Refusal :=
  request h .countersRead s

/-- LAMP SET (R184). -/
def execLampSet (h : Header) (lamp source pattern : Nat) (s : State) :
    Host.Outcome State Fault Refusal :=
  request h (.lampSet lamp source pattern) s

end Sys2Proof.Machine
end

