-- ==== Sys2Proof/Machine/Events.lean ====
section
/-! DEFINITION. The events: the arbiter's grant, the ends of the internal blocks' work, the timers, the
Station Link and the reset pin. An event the state gives no room for (a timer that is stopped, a
collector with no frame) changes nothing. -/

namespace Sys2Proof.Machine

/-- The arbiter makes a grant and the granted client's access is taken whole (R152). -/
def grantStore (s : State) : State :=
  if s.arbiter.holder.isSome then s
  else
    match s.arbiter.choice with
    | some c => runAccess c (s.markGranted c)
    | none => s

/-- STORE_ACCESS_GRANT (R152). -/
def execStoreAccessGrant (s : State) : Host.Outcome State Fault Refusal := whenRunning s grantStore

/-- The end of a computation (R109): under a chain the write-back follows at once and the store becomes
free (R123); otherwise the write-back request is posted. -/
def endComputation (m : Moment) (s : State) : State :=
  match s.grader with
  | .computing copy =>
    if s.arbiter.chain then
      let s := gradingWriteBack copy (computeResult copy) s.closeRaises
      { s with arbiter := { s.arbiter with holder := none, chain := false } }.afterChain
    else postClient .gc m { s with grader := .writeWait copy (computeResult copy) }
  | _ => s

/-- COMPUTATION_DONE (R109). -/
def execComputationDone (m : Moment) (s : State) : Host.Outcome State Fault Refusal :=
  whenRunning s (endComputation m)

/-- The collector takes the head frame (R71) and does its work; with evidence to write it asks for an
access. -/
def collectFrame (m : Moment) (s : State) : State :=
  match s.collector, s.fifo with
  | .waiting, f :: rest =>
    let r := takeFrame f { s.closeRaises with fifo := rest }
    if r.1.isEmpty then r.2 else postClient .ec m { r.2 with collector := .awaitStore r.1 }
  | _, _ => s

/-- EVIDENCE_FRAME_TAKEN (R71). -/
def execEvidenceFrameTaken (m : Moment) (s : State) : Host.Outcome State Fault Refusal :=
  whenRunning s (collectFrame m)

/-- An expiry acting on the controller by its state (R55). -/
def State.expireRound (s : State) : State :=
  match s.controller.state with
  | .idle | .walking => s
  | .awaitReply =>
    match s.controller.inFlight with
    | some f =>
      if f.returnPoint = .roundWait then s.withController fun c => { c with expiryDue := true }
      else s
    | none => s
  | .roundWait => s.closeRaises.expireRoundWait.settleSlot

/-- The round timer expires and restarts with the round period in force (R49, R51). -/
def expireTimer (s : State) : State :=
  match s.controller.roundTimer with
  | none => s
  | some _ => (s.withController fun c => { c with roundTimer := some s.link.period }).expireRound

/-- ROUND_TIMER_EXPIRY (R55). -/
def execRoundTimerExpiry (s : State) : Host.Outcome State Fault Refusal := whenRunning s expireTimer

/-- A change of the poll in flight. -/
def State.onPoll (s : State) (f : InFlight → State) : State :=
  match s.controller.inFlight with
  | some p => f p
  | none => s

/-- The line is released and the reply timer starts (R60). -/
def startReplyTimer (s : State) : State :=
  s.onPoll fun p =>
    match p.phase with
    | .transmitting => s.withController fun c => { c with inFlight := some { p with phase := .awaitingFirst } }
    | _ => s

/-- POLL_TRANSMITTED (R60). -/
def execPollTransmitted (s : State) : Host.Outcome State Fault Refusal :=
  whenRunning s startReplyTimer

/-- The first byte of a reply arrives while the reply timer runs (R60, R193). -/
def takeFirstByte (len : Byte) (s : State) : State :=
  s.onPoll fun p =>
    match p.phase with
    | .awaitingFirst => s.firstByte p len
    | _ => s

/-- REPLY_FIRST_BYTE (R60, R193). -/
def execReplyFirstByte (len : Byte) (s : State) : Host.Outcome State Fault Refusal :=
  whenRunning s (takeFirstByte len)

/-- A complete reply frame has arrived (R60, R61). A reply whose first byte has not been commanded on
its own brings it here. -/
def takeWholeReply (frame : List Byte) (s : State) : State :=
  s.onPoll fun p =>
    match p.phase with
    | .receiving len => s.takeReply p len frame
    | .awaitingFirst =>
      match frame with
      | [] => s
      | len :: _ =>
        if len.toNat < 5 ∨ 45 < len.toNat then s.badOutcome p else s.takeReply p len frame
    | .transmitting => s

/-- REPLY_RECEIVED (R61). -/
def execReplyReceived (frame : List Byte) (s : State) : Host.Outcome State Fault Refusal :=
  whenRunning s (takeWholeReply frame)

/-- The reply timer expires before any byte has arrived (R60). -/
def replyTimesOut (s : State) : State :=
  s.onPoll fun p =>
    match p.phase with
    | .awaitingFirst => s.badOutcome p
    | _ => s

/-- REPLY_TIMEOUT (R60). -/
def execReplyTimeout (s : State) : Host.Outcome State Fault Refusal := whenRunning s replyTimesOut

/-- The line has been idle for 20 µs in the middle of a frame: a CRC error (R60). -/
def replyBreaksOff (s : State) : State :=
  s.onPoll fun p =>
    match p.phase with
    | .receiving _ => s.badOutcome p
    | _ => s

/-- FRAME_IDLE_GAP (R60). -/
def execFrameIdleGap (s : State) : Host.Outcome State Fault Refusal := whenRunning s replyBreaksOff

/-- STRAY_REPLY_BYTES (R60): the bytes are discarded; they record no outcome and move no counter. -/
def execStrayReplyBytes (_bytes : List Byte) (s : State) : Host.Outcome State Fault Refusal := .next s

/-- HOLD_EXPIRY (R160). -/
def execHoldExpiry (s : State) : Host.Outcome State Fault Refusal := whenRunning s holdExpires

/-- RESET_ASSERT (R190). -/
def execResetAssert (s : State) : Host.Outcome State Fault Refusal := .next (resetPinLow s)

/-- RESET_RELEASE (R190). -/
def execResetRelease (s : State) : Host.Outcome State Fault Refusal := .next (resetPinHigh s)

/-- BLINK_PHASE_TOGGLE (R183). -/
def execBlinkPhaseToggle (s : State) : Host.Outcome State Fault Refusal :=
  whenRunning s fun s => { s with blinkLit := !s.blinkLit }

end Sys2Proof.Machine
end

