-- ==== Sys2Proof/Machine/Dispatch.lean ====
section
/-! DEFINITION. The meaning of a command: one arm for each constructor of `Instr`. -/

namespace Sys2Proof.Machine

/-- The effect of a command on everything but the queue of waiting commands. -/
def exec (i : Instr) (s : State) : Host.Outcome State Fault Refusal :=
  match i with
  | .writeRequestOverrun port moment mosi => Sys2Proof.Machine.execWriteRequestOverrun port moment mosi s
  | .readResponse port reading => Sys2Proof.Machine.execReadResponse port reading s
  | .induct h tray label => Sys2Proof.Machine.execInduct h tray label s
  | .destination h tray => Sys2Proof.Machine.execDestination h tray s
  | .diverted h tray chute => Sys2Proof.Machine.execDiverted h tray chute s
  | .divertFailed h tray cause => Sys2Proof.Machine.execDivertFailed h tray cause s
  | .trayCleared h tray => Sys2Proof.Machine.execTrayCleared h tray s
  | .chuteClear h chute => Sys2Proof.Machine.execChuteClear h chute s
  | .itemQuery h selector value => Sys2Proof.Machine.execItemQuery h selector value s
  | .status h => Sys2Proof.Machine.execStatus h s
  | .tableLimits h => Sys2Proof.Machine.execTableLimits h s
  | .attentionMask h mask => Sys2Proof.Machine.execAttentionMask h mask s
  | .modeSet h mode => Sys2Proof.Machine.execModeSet h mode s
  | .fullReset h => Sys2Proof.Machine.execFullReset h s
  | .lineRestart h => Sys2Proof.Machine.execLineRestart h s
  | .statusClear h conditions => Sys2Proof.Machine.execStatusClear h conditions s
  | .arbiterSet h strategy holdLimit => Sys2Proof.Machine.execArbiterSet h strategy holdLimit s
  | .holdBegin h => Sys2Proof.Machine.execHoldBegin h s
  | .holdEnd h => Sys2Proof.Machine.execHoldEnd h s
  | .lineSet h settings => Sys2Proof.Machine.execLineSet h settings s
  | .stationSet h address entry => Sys2Proof.Machine.execStationSet h address entry s
  | .classWrite h cls record => Sys2Proof.Machine.execClassWrite h cls record s
  | .classRead h cls => Sys2Proof.Machine.execClassRead h cls s
  | .classClear h cls => Sys2Proof.Machine.execClassClear h cls s
  | .manifestPost h entry => Sys2Proof.Machine.execManifestPost h entry s
  | .manifestWithdraw h label => Sys2Proof.Machine.execManifestWithdraw h label s
  | .manifestRead h label => Sys2Proof.Machine.execManifestRead h label s
  | .zoneSet h zone chute zstate => Sys2Proof.Machine.execZoneSet h zone chute zstate s
  | .slotSet h bin slot => Sys2Proof.Machine.execSlotSet h bin slot s
  | .slotAdjust h bin counted cls => Sys2Proof.Machine.execSlotAdjust h bin counted cls s
  | .slotRelease h bin n => Sys2Proof.Machine.execSlotRelease h bin n s
  | .slotRead h bin => Sys2Proof.Machine.execSlotRead h bin s
  | .scheduleWrite h first entries => Sys2Proof.Machine.execScheduleWrite h first entries s
  | .linkSet h period timeout threshold => Sys2Proof.Machine.execLinkSet h period timeout threshold s
  | .scheduleStart h schedule => Sys2Proof.Machine.execScheduleStart h schedule s
  | .scheduleStage h schedule => Sys2Proof.Machine.execScheduleStage h schedule s
  | .scheduleCancel h => Sys2Proof.Machine.execScheduleCancel h s
  | .singlePoll h station kind => Sys2Proof.Machine.execSinglePoll h station kind s
  | .collect h => Sys2Proof.Machine.execCollect h s
  | .countersSnapshot h => Sys2Proof.Machine.execCountersSnapshot h s
  | .countersRead h => Sys2Proof.Machine.execCountersRead h s
  | .lampSet h lamp source pattern => Sys2Proof.Machine.execLampSet h lamp source pattern s
  | .storeAccessGrant => Sys2Proof.Machine.execStoreAccessGrant s
  | .computationDone moment => Sys2Proof.Machine.execComputationDone moment s
  | .evidenceFrameTaken moment => Sys2Proof.Machine.execEvidenceFrameTaken moment s
  | .roundTimerExpiry => Sys2Proof.Machine.execRoundTimerExpiry s
  | .pollTransmitted => Sys2Proof.Machine.execPollTransmitted s
  | .replyReceived frame => Sys2Proof.Machine.execReplyReceived frame s
  | .replyTimeout => Sys2Proof.Machine.execReplyTimeout s
  | .frameIdleGap => Sys2Proof.Machine.execFrameIdleGap s
  | .strayReplyBytes bytes => Sys2Proof.Machine.execStrayReplyBytes bytes s
  | .holdExpiry => Sys2Proof.Machine.execHoldExpiry s
  | .resetAssert => Sys2Proof.Machine.execResetAssert s
  | .resetRelease => Sys2Proof.Machine.execResetRelease s
  | .blinkPhaseToggle => Sys2Proof.Machine.execBlinkPhaseToggle s
  | .replyFirstByte length => Sys2Proof.Machine.execReplyFirstByte length s

end Sys2Proof.Machine
end

