-- ==== Sys2Proof/WellFormed.lean ====
section
/-! DEFINITION. The well-formed commands: every operand fits the width its frame field has (R196), and a
list operand carries as many elements as its length byte asks for. An operand out of the range its
rule gives is still well formed: the owner refuses it RANGE. -/

namespace Sys2Proof

/-- A one-byte operand. -/
def fits1 (n : Nat) : Bool := decide (n < 256)

/-- A two-byte operand. -/
def fits2 (n : Nat) : Bool := decide (n < 65536)

/-- A label operand, of six bytes. -/
def fits6 (n : Nat) : Bool := decide (n < 2 ^ 48)

/-- A list operand whose length byte carries elements when it lies in `lo` to `hi` (R196). -/
def ListOperand.wf {α : Type} (lo hi : Nat) (elem : α → Bool) (l : ListOperand α) : Bool :=
  fits1 l.count && decide (l.elems.length = if lo ≤ l.count ∧ l.count ≤ hi then l.count else 0)
    && l.elems.all elem

def ClassOperands.wf (o : ClassOperands) : Bool :=
  fits2 o.required && fits2 o.tolPermille && fits1 o.tolFloor && fits1 o.kw && fits2 o.wCap
    && fits1 o.grossFactor && fits1 o.skip && fits1 o.shadow && fits1 o.threshold && fits1 o.kDark
    && fits1 o.kLight && fits1 o.kx && fits2 o.sCap && fits1 o.uFree && fits1 o.ku && fits1 o.pPill
    && fits2 o.uCap && fits2 o.ptDet && fits2 o.ptAbs && fits2 o.limA && fits2 o.limB
    && fits2 o.limC && fits1 o.mapA && fits1 o.mapB && fits1 o.mapC && fits1 o.mapD
    && fits1 o.highBand && o.prefs.wf 0 4 fits1

def StationOperands.wf (o : StationOperands) : Bool :=
  fits1 o.configured && fits1 o.kind && fits1 o.holdAllowed && o.fieldMap.wf 4 4 fits1
    && fits1 o.code0 && fits1 o.code1 && fits1 o.code2 && fits1 o.code3 && fits1 o.band
    && fits1 o.settleCount && fits1 o.unsettleCount && fits1 o.holdOnMotion && fits1 o.holdOnOverload
    && fits1 o.passes && fits1 o.window && fits1 o.badLimit && fits1 o.recovery

def LineOperands.wf (o : LineOperands) : Bool :=
  fits1 o.maxLaps && fits1 o.divertTries && fits1 o.fallbackClass && fits1 o.overflowZone
    && fits1 o.reviewChute && fits1 o.refurbishChute && fits1 o.outletChute && fits1 o.recycleChute

def ManifestOperands.wf (o : ManifestOperands) : Bool :=
  fits6 o.label && fits1 o.cls && fits2 o.nominal && fits1 o.band && fits1 o.hygiene
    && fits1 o.expected

def SlotOperands.wf (o : SlotOperands) : Bool :=
  fits1 o.zone && fits1 o.lane && fits1 o.capacity && fits1 o.affinity && fits1 o.enabled

def ScheduleOperands.wf (o : ScheduleOperands) : Bool :=
  fits1 o.base && fits1 o.length && fits1 o.startMode && fits1 o.rep

/-- A request whose operands fit their fields. -/
def Request.wf : Request → Bool
  | .induct t l => fits2 t && fits6 l
  | .destination t => fits2 t
  | .diverted t c => fits2 t && fits1 c
  | .divertFailed t c => fits2 t && fits1 c
  | .trayCleared t => fits2 t
  | .chuteClear c => fits1 c
  | .status => true
  | .tableLimits => true
  | .itemQuery k v => fits1 k && fits2 v
  | .attentionMask m => fits2 m
  | .modeSet m => fits1 m
  | .fullReset => true
  | .lineRestart => true
  | .statusClear c => fits2 c
  | .arbiterSet k l => fits1 k && fits1 l
  | .holdBegin => true
  | .holdEnd => true
  | .lineSet o => o.wf
  | .stationSet a o => fits1 a && o.wf
  | .classWrite k o => fits1 k && o.wf
  | .classRead k => fits1 k
  | .classClear k => fits1 k
  | .manifestPost o => o.wf
  | .manifestWithdraw l => fits6 l
  | .manifestRead l => fits6 l
  | .zoneSet z c k => fits1 z && fits1 c && fits1 k
  | .slotSet b o => fits2 b && o.wf
  | .slotAdjust b n k => fits2 b && fits1 n && fits1 k
  | .slotRelease b n => fits2 b && fits1 n
  | .slotRead b => fits2 b
  | .scheduleWrite first es => fits1 first && es.wf 1 64 (fun e => fits1 e.1 && fits1 e.2)
  | .linkSet p t n => fits2 p && fits2 t && fits1 n
  | .scheduleStart o => o.wf
  | .scheduleStage o => o.wf
  | .scheduleCancel => true
  | .singlePoll a k => fits1 a && fits1 k
  | .collect => true
  | .countersSnapshot => true
  | .countersRead => true
  | .lampSet l k p => fits1 l && fits1 k && fits1 p

/-- The header and the request of a request command; none for an event or a raw transaction. -/
def Instr.request? : Instr → Option (Header × Request)
  | .writeRequestOverrun .. => none
  | .readResponse .. => none
  | .induct h t l => some (h, .induct t l)
  | .destination h t => some (h, .destination t)
  | .diverted h t c => some (h, .diverted t c)
  | .divertFailed h t c => some (h, .divertFailed t c)
  | .trayCleared h t => some (h, .trayCleared t)
  | .chuteClear h c => some (h, .chuteClear c)
  | .itemQuery h k v => some (h, .itemQuery k v)
  | .status h => some (h, .status)
  | .tableLimits h => some (h, .tableLimits)
  | .attentionMask h m => some (h, .attentionMask m)
  | .modeSet h m => some (h, .modeSet m)
  | .fullReset h => some (h, .fullReset)
  | .lineRestart h => some (h, .lineRestart)
  | .statusClear h c => some (h, .statusClear c)
  | .arbiterSet h k l => some (h, .arbiterSet k l)
  | .holdBegin h => some (h, .holdBegin)
  | .holdEnd h => some (h, .holdEnd)
  | .lineSet h o => some (h, .lineSet o)
  | .stationSet h a o => some (h, .stationSet a o)
  | .classWrite h k o => some (h, .classWrite k o)
  | .classRead h k => some (h, .classRead k)
  | .classClear h k => some (h, .classClear k)
  | .manifestPost h o => some (h, .manifestPost o)
  | .manifestWithdraw h l => some (h, .manifestWithdraw l)
  | .manifestRead h l => some (h, .manifestRead l)
  | .zoneSet h z c k => some (h, .zoneSet z c k)
  | .slotSet h b o => some (h, .slotSet b o)
  | .slotAdjust h b n k => some (h, .slotAdjust b n k)
  | .slotRelease h b n => some (h, .slotRelease b n)
  | .slotRead h b => some (h, .slotRead b)
  | .scheduleWrite h f es => some (h, .scheduleWrite f es)
  | .linkSet h p t n => some (h, .linkSet p t n)
  | .scheduleStart h o => some (h, .scheduleStart o)
  | .scheduleStage h o => some (h, .scheduleStage o)
  | .scheduleCancel h => some (h, .scheduleCancel)
  | .singlePoll h a k => some (h, .singlePoll a k)
  | .collect h => some (h, .collect)
  | .countersSnapshot h => some (h, .countersSnapshot)
  | .countersRead h => some (h, .countersRead)
  | .lampSet h l k p => some (h, .lampSet l k p)
  | .storeAccessGrant => none
  | .computationDone _ => none
  | .evidenceFrameTaken _ => none
  | .roundTimerExpiry => none
  | .pollTransmitted => none
  | .replyReceived _ => none
  | .replyTimeout => none
  | .frameIdleGap => none
  | .strayReplyBytes _ => none
  | .holdExpiry => none
  | .resetAssert => none
  | .resetRelease => none
  | .blinkPhaseToggle => none
  | .replyFirstByte _ => none

/-- A well-formed command. -/
def Instr.wf (i : Instr) : Bool :=
  match i.request? with
  | some (h, r) => fits1 h.tag && r.wf
  | none => true

end Sys2Proof
end

