-- ==== Sys2Proof/Safety.lean ====
section
/-! DEFINITION. What a safe run keeps: the laws the spec's rules say the part obeys, each a property of
one state, and the words the statements use for an answered request. -/

namespace Sys2Proof.Machine

/-! ### The laws -/

/-- An active item (R1, terms): OPEN, QUEUED, GRADING, DECIDED or ROUTED. -/
def Item.active (it : Item) : Bool :=
  match it.state with
  | .free | .retiring => false
  | _ => true

/-- The law of the report pool (R175) and of the wait list (R23): at most 128 records are queued, and the
wait list is non-empty only while no record is free. -/
def State.PoolLaw (s : State) : Prop :=
  s.urgent.length + s.routine.length ≤ Config.reportRecords ∧
    (s.waitList ≠ [] → s.urgent.length + s.routine.length = Config.reportRecords)

/-- The law of the Tray Index (R3): it maps each active item's tray to that item and its ticket, and
every other tray to nothing. -/
def State.TrayLaw (s : State) : Prop :=
  (∀ tray e, s.trayEntry tray = some e →
    (s.item e.index).active = true ∧ (s.item e.index).tray = tray ∧
      (s.item e.index).ticket = e.ticket) ∧
  (∀ i, (s.item i).active = true →
    s.trayEntry (s.item i).tray = some { index := i, ticket := (s.item i).ticket })

/-- The law of the Grade Queue (R105): exactly the items in state QUEUED, each once. -/
def State.QueueLaw (s : State) : Prop :=
  s.gradeQueue.Nodup ∧ ∀ i, i ∈ s.gradeQueue ↔ (s.item i).state = .queued

/-- The law of the retire wait list (R23): exactly the items in state RETIRING, each once. -/
def State.RetiringLaw (s : State) : Prop :=
  s.waitList.Nodup ∧ ∀ i, i ∈ s.waitList ↔ (s.item i).state = .retiring

/-- The law of the entries (R1): there are 256 of them, and a bin is named only by an item that has been
decided. -/
def State.EntryLaw (s : State) : Prop :=
  (∀ i, Config.itemEntries ≤ i → s.item i = Item.empty) ∧
  (∀ i, (s.item i).bin.isSome = true →
    (s.item i).state = .decided ∨ (s.item i).state = .routed ∨ (s.item i).state = .retiring)

/-- The laws of the items together. -/
def State.ItemLaws (s : State) : Prop :=
  s.TrayLaw ∧ s.QueueLaw ∧ s.RetiringLaw ∧ s.EntryLaw

/-- The law of the Bin Map (R131): committed + reserved never exceeds capacity. -/
def State.BinLaw (s : State) : Prop :=
  ∀ b, (s.bin b).committed + (s.bin b).reserved ≤ (s.bin b).capacity

/-- The law of the round controller (R51): a staged schedule, and a pending start, exist only while a
schedule is active. -/
def RoundController.ScheduleLaw (c : RoundController) : Prop :=
  (c.staged.isSome = true → c.active.isSome = true) ∧
    (c.pendingStart.isSome = true → c.active.isSome = true)

/-- Where the round controller stands between steps (R51, R53, R58, R59): a poll is in flight exactly in
AWAIT_REPLY, the single-poll slot is full only then, a walk never rests, ROUND_WAIT and a poll of a
round or from ROUND_WAIT have a schedule, IDLE has none; in CONFIGURE the controller is IDLE, and the
timer is stopped exactly then. -/
def State.ControllerLaw (s : State) : Prop :=
  s.controller.ScheduleLaw ∧
  (s.controller.inFlight.isSome = true ↔ s.controller.state = .awaitReply) ∧
  (s.controller.slot.isSome = true → s.controller.state = .awaitReply) ∧
  s.controller.state ≠ .walking ∧
  (s.controller.state = .roundWait → s.controller.active.isSome = true) ∧
  (s.controller.state = .idle → s.controller.active = none) ∧
  (∀ f, s.controller.inFlight = some f →
    ((f.returnPoint = .round ∨ f.returnPoint = .roundWait) ↔
      s.controller.active.isSome = true)) ∧
  (s.mode = .configure → s.controller.state = .idle) ∧
  (s.controller.roundTimer = none ↔ s.mode = .configure)

/-- The limits of the counted quantities (R2, R67, R180): the FIFO holds at most 32 frames, every counter,
as it stands and without the raises of the event taken last, and every snapshot value is at most 65535, and
the next ticket is 1 to 65535. -/
def State.LimitLaw (s : State) : Prop :=
  s.fifo.length ≤ Config.fifoFrames ∧
  (∀ c : Fin 24, s.counters.live c ≤ Config.counterMax ∧ s.counters.base[c] ≤ Config.counterMax ∧
    s.snapshot[c] ≤ Config.counterMax) ∧
  1 ≤ s.nextTicket ∧ s.nextTicket ≤ Config.lastTicket

/-- The canonical form of every table: numbers strictly rising, and no entry equal to what an unlisted
number holds. -/
def State.TablesCanonical (s : State) : Prop :=
  tcanonical Item.empty s.items ∧ tcanonical Bin.atReset s.bins ∧
  tcanonical Zone.atReset s.zones ∧ tcanonical Station.atReset s.stations ∧
  tsorted s.trayIndex ∧ tsorted s.manifests ∧ tsorted s.classes ∧ tsorted s.schedule ∧
  tsorted s.settle

/-- Whether a port is executing a request. -/
def PortEngine.executing (e : PortEngine) : Bool :=
  match e.phase with
  | .executing .. => true
  | _ => false

/-- Whether the Grade Computer has an access request posted (R106). -/
def Grader.waits : Grader → Bool
  | .fetchWait | .writeWait .. => true
  | _ => false

/-- Whether the collector is in AWAIT_STORE (R71). -/
def Collector.waits : Collector → Bool
  | .awaitStore _ => true
  | .waiting => false

/-- How the clients stand to the arbiter between steps (R106, R150, R152, R156, R161): the store is held
exactly in a chain, by the Grade Computer while it computes; each client whose state waits for a grant
is in the waiting set and no other is; a port executes a request that takes an access, or the Line Port a
reset that waits for a chain to end; an idle Grade Computer finds the queue empty; during a hold no chain
runs and no Sorter Port request waits. -/
def State.ClientLaw (s : State) : Prop :=
  (s.arbiter.chain = true ↔ s.arbiter.holder = some .gc) ∧
  (s.arbiter.holder = none ∨ s.arbiter.holder = some .gc) ∧
  (s.arbiter.chain = true → ∃ c, s.grader = .computing c) ∧
  (s.arbiter.waiting.gc = s.grader.waits) ∧
  (s.arbiter.waiting.ec = s.collector.waits) ∧
  (s.arbiter.waiting.spe = s.sorterPort.executing) ∧
  (s.arbiter.waiting.lpe = true ↔
    ∃ tag r, s.linePort.phase = .executing tag r ∧ takesAccess r = true) ∧
  (∀ tag r, s.linePort.phase = .executing tag r →
    takesAccess r = true ∨ (s.arbiter.chain = true ∧ (r = .fullReset ∨ r = .lineRestart))) ∧
  (∀ tag r, s.sorterPort.phase = .executing tag r → takesAccess r = true) ∧
  (s.grader = .idle → s.gradeQueue = []) ∧
  (s.arbiter.hold.isSome = true → s.arbiter.chain = false ∧ s.arbiter.waiting.spe = false)

/-- How many items hold a reservation in a bin (R138). -/
def State.holders (s : State) (b : Nat) : Nat :=
  (List.range Config.itemEntries).countP fun i => s.reservation (s.item i) == some b

/-- The law of the reservations (R138): each bin's reserved count is the number of items whose
reservation names that bin. -/
def State.ReservationLaw (s : State) : Prop :=
  ∀ b, b < Config.binEntries → (s.bin b).reserved = s.holders b

/-! ### Words of the statements -/

/-- Item `i` is the active item on a tray (R3). -/
def State.carries (s : State) (tray i : Nat) : Prop :=
  (s.item i).active = true ∧ (s.item i).tray = tray

/-- The first poll entry of a schedule that a walk from its base sends (R53): entry `i`, those before it
being SKIP or naming a station that is not configured. -/
def State.firstPoll (s : State) (base length i : Nat) (p : Poll) : Prop :=
  i < length ∧ s.scheduleEntry (base + i) = some p ∧
    (s.station p.station).config.configured = true ∧
    ∀ j q, j < i → s.scheduleEntry (base + j) = some q →
      (s.station q.station).config.configured = false

/-! ### Requests taken and answered -/

/-- A request command is taken on port `p` with tag `tag`, and its work is done in its own step: RESET_N
is high, the port is IDLE, the frame is one of request `r` (R165, R197), `r` is permitted there and not
refused in the mode (R169), an access it needs is granted at once (R152, R155), and a reset finds no
chain in progress (R161). -/
def Taken (h : Header) (p : Port) (tag : Nat) (r : Request) (s : State) : Prop :=
  h.port = p ∧ frameTaken h r = .request tag r ∧ s.resetN = true ∧ (s.port p).phase = .idle ∧
  permitted r p = true ∧ refusedInMode s.mode r = false ∧
  (takesAccess r = true →
    s.arbiter.grantsAtOnce (clientOf p) h.moment = true ∧
      (p = .sorter → s.arbiter.hold = none)) ∧
  (r = .fullReset ∨ r = .lineRestart → s.arbiter.holder = none)

/-- The state in which the work of a request taken is done: an access has been granted (R151). -/
def State.atWork (s : State) (h : Header) (tag : Nat) (r : Request) : State :=
  if takesAccess r then (s.executing h.port tag r).markGranted (clientOf h.port)
  else s.atMoment r h.moment

/-- The state once the request has been answered: the port holds the response, an access leaves the
rotation pointer naming the port's client, out of the waiting set (R152, R165), and the transaction that
brought the request is over: MISO carried 00 (R196), and on the Line Port the raises made so far lie
before any later snapshot (R181, log 18). -/
def State.answered (s : State) (p : Port) (tag : Nat) (r : Request) (a : Answer) : State :=
  ((if takesAccess r then s.granted (clientOf p) else s).respond p tag (requestCode r) a).written p

/-! ### Resets, and round ends -/

/-- What LINE RESTART leaves of `s` in `u`, but for the Line Port's answer (R192): what is in flight is
dropped, the configuration is kept, and a Sorter Port request in hand is answered RESTARTED. -/
def State.RestartedAs (s u : State) : Prop :=
  u.items = [] ∧ u.trayIndex = [] ∧ u.gradeQueue = [] ∧ u.waitList = [] ∧ u.fifo = [] ∧
  u.collector = .waiting ∧ u.settle = [] ∧ u.grader = .idle ∧
  u.scan0 = { ScanContext.atReset with binding := s.scan0.binding } ∧
  u.scan1 = { ScanContext.atReset with binding := s.scan1.binding } ∧
  (∀ b, b < 1024 → u.bin b =
    { s.bin b with
      reserved := 0
      cls := if (s.bin b).committed = 0 ∧ (s.bin b).affinity = none then none
             else (s.bin b).cls }) ∧
  (∀ a, a < 16 → u.station a =
    { config := (s.station a).config,
      run := { health := .unknown, history := [], consecutiveGood := 0, holdCapable := none,
               selfCheck := none } }) ∧
  u.counter .reportsLost = min 65535 (s.counter .reportsLost + s.waitList.length) ∧
  (∀ d, d ≠ .reportsLost → u.counter d = s.counter d) ∧
  u.arbiter = { s.arbiter with
    holder := none, chain := false, hold := none
    waiting := { lpe := false, spe := false, ec := false, gc := false } } ∧
  u.controller = { RoundController.atReset with
    roundTimer := if s.mode = .configure then none else some s.link.period } ∧
  u.sorterPort = { s.sorterPort with
    phase := match s.sorterPort.phase with
      | .executing tag' r => .responseReady { code := .restarted, request := requestCode r,
                                              tag := tag', held := false, results := .none }
      | ph => ph } ∧
  u = { s with
    items := u.items, trayIndex := u.trayIndex, gradeQueue := u.gradeQueue
    waitList := u.waitList, fifo := u.fifo, collector := u.collector, settle := u.settle
    grader := u.grader, scan0 := u.scan0, scan1 := u.scan1, bins := u.bins
    stations := u.stations, counters := u.counters, arbiter := u.arbiter
    controller := u.controller, sorterPort := u.sorterPort }

/-- A poll as the controller holds it right after sending it (R53, R60). -/
def State.sent (s : State) (p : Poll) (single : Bool) (ret : ReturnPoint) : InFlight :=
  { station := p.station, kind := s.sentKind p, hold := s.holdFlag p, timeout := s.link.timeout,
    returnPoint := ret, single := single, phase := .transmitting }

/-- A round of `s` ends in `u` once `n` more entries have been passed over (R53, R54): ROUND_END is set. A
schedule staged AT_TIMER or EMPTY waits in ROUND_WAIT, a repeating schedule too, and with neither the
controller is IDLE; the slotted poll is sent from there at once (R55, R58). A schedule staged NOW is walked
at once: its first poll is sent, or the slotted poll after its last entry, or its round ends in turn. -/
def State.EndsRound (s u : State) (n : Nat) : Prop :=
  u.sticky = { s.sticky with roundEnd := true } ∧
  (∀ d, d ≠ .skippedPolls → u.counter d = s.counter d) ∧
  u = { s with
    controller := u.controller, sticky := u.sticky, linkTxd := u.linkTxd, counters := u.counters } ∧
  (∀ rest : RoundController,
    ((∃ a, s.controller.staged = none ∧ s.controller.active = some a ∧
        rest =
          { s.controller with
            state := if a.rep = true then .roundWait else .idle
            active := if a.rep = true then some a else none
            pendingStart := none, walkPos := none, inFlight := none }) ∨
      (∃ g, s.controller.staged = some g ∧ g.mode ≠ .now ∧
        rest =
          { s.controller with
            state := .roundWait
            active := some { base := g.base, length := g.length, rep := g.rep }
            pendingStart := some (if g.mode = .atTimer then PendingStart.atTimer else .empty)
            staged := none, walkPos := none, inFlight := none })) →
    u.counter .skippedPolls = min 65535 (s.counter .skippedPolls + n) ∧
    (s.controller.slot = none → u.controller = rest ∧ u.linkTxd = s.linkTxd) ∧
    (∀ q, s.controller.slot = some q →
      u.controller =
        { rest with
          state := .awaitReply, slot := none
          inFlight := some (s.sent q true
            (if rest.state = .idle then ReturnPoint.idle else .roundWait)) } ∧
      u.linkTxd = pollFrame q.station (s.sentKind q) (s.holdFlag q))) ∧
  (∀ (g : StagedSchedule) (walking : RoundController),
    s.controller.staged = some g → g.mode = .now →
    walking =
      { s.controller with
        state := .awaitReply, staged := none, pendingStart := none
        active := some { base := g.base, length := g.length, rep := g.rep } } →
    (∀ i p, s.firstPoll g.base g.length i p →
      u.counter .skippedPolls = min 65535 (s.counter .skippedPolls + (n + i)) ∧
      u.controller =
        { walking with
          walkPos := some (g.base + i + 1), inFlight := some (s.sent p false .round) } ∧
      u.linkTxd = pollFrame p.station (s.sentKind p) (s.holdFlag p)) ∧
    ((¬ ∃ i p, s.firstPoll g.base g.length i p) →
      u.counter .skippedPolls = min 65535 (s.counter .skippedPolls + (n + g.length)) ∧
      (∀ q, s.controller.slot = some q →
        u.controller =
          { walking with
            slot := none, walkPos := some (g.base + g.length)
            inFlight := some (s.sent q true .round) } ∧
        u.linkTxd = pollFrame q.station (s.sentKind q) (s.holdFlag q)) ∧
      (s.controller.slot = none →
        u.controller =
          { walking with
            state := if g.rep = true then .roundWait else .idle
            active := if g.rep = true then walking.active else none
            walkPos := none, inFlight := none } ∧
        u.linkTxd = s.linkTxd)))

end Sys2Proof.Machine
end

