-- ==== Sys2Proof/Certificates/Slice0/Obligations.lean ====
section
/-! DEFINITION. The statements for the provers. `Taken h p tag r s` says that a request command is taken
and done in its own step, and `u.answered p tag r a` is the state `u` with answer `a` held at port `p`;
both stand in Sys2Proof/Safety.lean. `s.closeRaises` is `s` with the event taken last ended, so that a
snapshot no longer divides its raises (R181); every counter has its value in both
(CountersSnapshotAndRead), and which commands end an event is the model's choice (log 18). A record update
on the state says, beside what changes, that every other field is unchanged. -/

section
open Sys2Proof Sys2Proof.Machine

/-! ### The queue, and every command -/

/-- One step takes the command at the front of the queue and runs it with the queue's rest; on an empty
queue the part idles, which is the model's choice (log 1). -/
def Obligations.StepRunsFrontCommand : Prop :=
  (∀ (c : Instr) (rest : List Instr) (s : State), s.pending = c :: rest →
    step s = exec c { s with pending := rest }) ∧
  (∀ s : State, s.pending = [] → step s = .next s)

/-- No command stops the part (R126: no arithmetic fault; R166: a request turned away is answered), and
none touches the queue of waiting commands. -/
def Obligations.ExecAnswersNextAndKeepsQueue : Prop :=
  ∀ (c : Instr) (s : State), ∃ t, exec c s = .next t ∧ t.pending = s.pending

/-! ### Port frames -/

/-- Decoding the request frame encoded from a well-formed request gives the tag and the request back,
for all forty requests (R196, R197).
A write-request transaction given by its bytes, the kind byte C1 and then the request frame, acts as the
request command of that frame does (R165, R196). That raw bytes are a command beside the request commands
is the model's choice (log 10). -/
def Obligations.RequestFrameRoundTrip : Prop :=
  (∀ (tag : Nat) (r : Request), tag < 256 → r.wf = true →
    readRequestFrame (requestFrame tag r) = .request tag r) ∧
  (∀ (c : Instr) (h : Header) (r : Request) (s : State), c.request? = some (h, r) →
    h.received = none → h.tag < 256 → r.wf = true →
    exec (.writeRequestOverrun h.port h.moment (0xC1 :: requestFrame h.tag r)) s = exec c s)

/-- A response frame's form (R197): its first two bytes count all its bytes, then stand the response
code, the request code and the tag echoed, and the flag byte with bit 0 OVERRUN and bit 1 HELD; the
results follow byte 5; and its CRC holds. -/
def Obligations.ResponseFrameForm : Prop :=
  ∀ (r : Response) (overrun : Bool), r.request < 256 → r.tag < 256 →
    (resultBytes r.results).length + 8 < 65536 →
    wordAt (responseFrame r overrun) 0 = (responseFrame r overrun).length ∧
    (responseFrame r overrun).length = (resultBytes r.results).length + 8 ∧
    byteAt (responseFrame r overrun) 2 = codeNumber r.code ∧
    byteAt (responseFrame r overrun) 3 = r.request ∧
    byteAt (responseFrame r overrun) 4 = r.tag ∧
    (byteAt (responseFrame r overrun) 5).testBit 0 = overrun ∧
    (byteAt (responseFrame r overrun) 5).testBit 1 = r.held ∧
    ((responseFrame r overrun).drop 6).take (resultBytes r.results).length = resultBytes r.results ∧
    crcHolds (responseFrame r overrun) = true

/-! ### Requests on a port -/

/-- A request frame's checks (R166 checks 1 and 2, R197): a frame with a length field below 6 or above
600, cut short, or with a CRC fault is a FRAME_ERROR, and its code and tag are echoed as received; a
request code of 0 or above 40 is an UNKNOWN_REQUEST whatever its length; a known code whose operands
do not have its length is a FRAME_ERROR; bytes after a complete frame are ignored.
A request frame refused by its frame checks, in a request command or as the raw bytes of a write-request
transaction, is answered by the port alone: MISO carried 00 while it was written (R196), and nothing else
changes (R166 checks 1 and 2). That raw bytes are a command of their own, and that a request command may
carry bytes received in the place of its own frame, is the model's choice (log 10); that the transaction
is the end of the raises a later snapshot may divide is log 18. -/
def Obligations.FaultyFramesAnswered : Prop :=
  ((∀ bytes : List Byte,
    (bytes.length < 2 ∨ wordAt bytes 0 < 6 ∨ 600 < wordAt bytes 0 ∨
      bytes.length < wordAt bytes 0 ∨ crcHolds (bytes.take (wordAt bytes 0)) = false) →
    readRequestFrame bytes = .refused .frameError (byteAt bytes 2) (byteAt bytes 3)) ∧
  (∀ bytes : List Byte, 6 ≤ wordAt bytes 0 → wordAt bytes 0 ≤ 600 →
    wordAt bytes 0 ≤ bytes.length → crcHolds (bytes.take (wordAt bytes 0)) = true →
    (byteAt bytes 2 = 0 ∨ 40 < byteAt bytes 2) →
    readRequestFrame bytes = .refused .unknownRequest (byteAt bytes 2) (byteAt bytes 3)) ∧
  (∀ bytes : List Byte, 6 ≤ wordAt bytes 0 → wordAt bytes 0 ≤ 600 →
    wordAt bytes 0 ≤ bytes.length → crcHolds (bytes.take (wordAt bytes 0)) = true →
    1 ≤ byteAt bytes 2 → byteAt bytes 2 ≤ 40 →
    readOperands (byteAt bytes 2) (((bytes.take (wordAt bytes 0)).take (wordAt bytes 0 - 2)).drop 4)
      = none →
    readRequestFrame bytes = .refused .frameError (byteAt bytes 2) (byteAt bytes 3)) ∧
  (∀ bytes extra : List Byte, 6 ≤ wordAt bytes 0 → wordAt bytes 0 ≤ bytes.length →
    readRequestFrame (bytes ++ extra) = readRequestFrame bytes)) ∧
  ((∀ (c : Instr) (h : Header) (r : Request) (code : Code) (rq tag : Nat) (s : State),
    c.request? = some (h, r) → frameTaken h r = .refused code rq tag → s.resetN = true →
    (s.port h.port).phase = .idle →
    exec c s = .next ((s.respond h.port tag rq { code := code }).written h.port)) ∧
  (∀ (p : Port) (m : Moment) (bytes : List Byte) (code : Code) (rq tag : Nat) (s : State),
    readRequestFrame bytes = .refused code rq tag → s.resetN = true → (s.port p).phase = .idle →
    exec (.writeRequestOverrun p m (0xC1 :: bytes)) s =
      .next ((s.respond p tag rq { code := code }).written p)))

/-- The permission table (R169): the Line Port takes every request but the six sorter item requests, the
Sorter Port takes those six and STATUS, TABLE LIMITS, ITEM QUERY and ATTENTION MASK, which are the codes
1 to 10 (R196); a request not permitted is answered NOT_PERMITTED in every mode and changes nothing. -/
def Obligations.PermissionTable : Prop :=
  (∀ r : Request, (permitted r .line = true ↔ 7 ≤ requestCode r) ∧
    (permitted r .sorter = true ↔ requestCode r ≤ 10)) ∧
  (∀ (c : Instr) (h : Header) (r q : Request) (tag : Nat) (s : State),
    c.request? = some (h, r) → frameTaken h r = .request tag q → s.resetN = true →
    (s.port h.port).phase = .idle → permitted q h.port = false →
    exec c s =
      .next ((s.respond h.port tag (requestCode q) { code := .notPermitted }).written h.port))

/-- The mode check (R166 check 4, R169): the sorter item requests and the requests of the round
controller are refused MODE in CONFIGURE, whether the request takes no access, is taken under a store
hold, or is granted its access; nothing else changes but what the grant itself does. That a grant closes
the raises a snapshot divides is the model's choice (log 18). -/
def Obligations.ModeCheck : Prop :=
  (∀ (m : Mode) (r : Request), refusedInMode m r = true ↔
    m = .configure ∧
      (requestCode r ≤ 6 ∨ (33 ≤ requestCode r ∧ requestCode r ≤ 36))) ∧
  (∀ (c : Instr) (h : Header) (r q : Request) (tag : Nat) (s : State),
    c.request? = some (h, r) → frameTaken h r = .request tag q → s.resetN = true →
    (s.port h.port).phase = .idle → permitted q h.port = true → refusedInMode s.mode q = true →
    (takesAccess q = false ∨ (h.port = .sorter ∧ s.arbiter.hold.isSome = true) →
      exec c s = .next ((s.respond h.port tag (requestCode q) { code := .mode }).written h.port)) ∧
    (takesAccess q = true → ¬ (h.port = .sorter ∧ s.arbiter.hold.isSome = true) →
      s.arbiter.grantsAtOnce (clientOf h.port) h.moment = true →
      exec c s = .next (s.closeRaises.answered h.port tag q { code := .mode })))

/-- A request frame on a port that is not IDLE is discarded whole (R168), whatever command brings it:
PORT_OVERRUNS is counted, the overrun mark is set, MISO carried 00 while it was written (R196), and nothing
else changes. That raw bytes are a command of their own is the model's choice (log 10). -/
def Obligations.OverrunDiscarded : Prop :=
  ∀ (c : Instr) (p : Port) (s : State),
    ((∃ h r, c.request? = some (h, r) ∧ h.port = p) ∨
      (∃ m bytes, c = .writeRequestOverrun p m (0xC1 :: bytes))) →
    s.resetN = true → (s.port p).phase ≠ .idle →
    ∃ t, exec c s = .next t ∧ t.port p = { s.port p with overrun := true, miso := [] } ∧
      (∀ q, q ≠ p → t.port q = s.port q) ∧
      t.counter .portOverruns = min 65535 (s.counter .portOverruns + 1) ∧
      (∀ d, d ≠ .portOverruns → t.counter d = s.counter d) ∧
      t = { s with linePort := t.linePort, sorterPort := t.sorterPort, counters := t.counters }

/-- A read-response transaction (R167, R168): the held response is shifted out with the OVERRUN mark, and
00 after it; shifted out whole it is delivered, so the port becomes IDLE and the mark is cleared; cut
short it stays held; with no response held NOT_READY is shifted out. Nothing else changes.
A read in which a FULL RESET has discarded the response after some bytes carries 00 for the rest and
delivers nothing (R172).
A transaction whose kind byte is C2 is a read response; one with a kind byte other than C1 and C2, or with
no whole byte, is ignored (R165, R196). That such a transaction is a command of its own is the model's
choice (log 10), as is how a read cut by a FULL RESET is commanded (log 19), and that a read closes the
raises a later snapshot may divide (log 18). -/
def Obligations.ReadResponse : Prop :=
  (∀ (p : Port) (count : Nat) (cut : Option Nat) (s : State), s.resetN = true →
    (∀ r, (s.port p).phase = .responseReady r →
      (responseFrame r (s.port p).overrun).length ≤ count →
      exec (.readResponse p { count := count, cut := cut }) s = .next ((s.setPort p
        { phase := .idle, overrun := false, mask := (s.port p).mask, discarded := none,
          miso := responseFrame r (s.port p).overrun ++
            List.replicate (count - (responseFrame r (s.port p).overrun).length) 0 }).closeRaises)) ∧
    (∀ r, (s.port p).phase = .responseReady r →
      count < (responseFrame r (s.port p).overrun).length →
      exec (.readResponse p { count := count, cut := cut }) s = .next ((s.setPort p
        { s.port p with
          miso := (responseFrame r (s.port p).overrun).take count
          discarded := none }).closeRaises)) ∧
    ((∀ r, (s.port p).phase ≠ .responseReady r) →
      ((s.port p).phase ≠ .idle ∨ cut = none ∨ (s.port p).discarded = none) →
      exec (.readResponse p { count := count, cut := cut }) s = .next ((s.setPort p
        { s.port p with
          miso := (notReadyFrame ++ List.replicate count 0).take count
          discarded := none }).closeRaises)) ∧
    (∀ frame shifted, (s.port p).phase = .idle → (s.port p).discarded = some frame →
      cut = some shifted →
      exec (.readResponse p { count := count, cut := cut }) s = .next ((s.setPort p
        { s.port p with
          miso := (frame.take shifted ++ List.replicate count 0).take count
          discarded := none }).closeRaises))) ∧
  (∀ (p : Port) (m : Moment) (filler : List Byte) (s : State),
    exec (.writeRequestOverrun p m (0xC2 :: filler)) s =
      exec (.readResponse p { count := filler.length, cut := none }) s) ∧
  (∀ (p : Port) (m : Moment) (mosi : List Byte) (s : State),
    (mosi = [] ∨ ∃ k rest, mosi = k :: rest ∧ k ≠ 0xC1 ∧ k ≠ 0xC2) →
    exec (.writeRequestOverrun p m mosi) s = .next s)

/-! ### The arbiter -/

/-- A request that takes an access and is not granted at once waits (R150, R152): the port is EXECUTING,
its client is in the waiting set, MISO carried 00 (R196), the raises made so far lie before any later
snapshot where the port is the Line Port (log 18), and nothing else changes.
A grant to a port engine (R152, R166): its client leaves the waiting set, the pointer names it, and
the request waiting at the port is refused MODE or has its work done and answered. -/
def Obligations.RequestWaitsAndGrantServes : Prop :=
  (∀ (c : Instr) (h : Header) (r q : Request) (tag : Nat) (s : State),
    c.request? = some (h, r) → frameTaken h r = .request tag q → s.resetN = true →
    (s.port h.port).phase = .idle → permitted q h.port = true → takesAccess q = true →
    ¬ (h.port = .sorter ∧ s.arbiter.hold.isSome = true) →
    s.arbiter.grantsAtOnce (clientOf h.port) h.moment = false →
    ∃ t, exec c s = .next t ∧
      t.port h.port = { s.port h.port with phase := .executing tag q, miso := [] } ∧
      (∀ p, p ≠ h.port → t.port p = s.port p) ∧
      t.arbiter.waiting.has (clientOf h.port) = true ∧
      (∀ k, k ≠ clientOf h.port → t.arbiter.waiting.has k = s.arbiter.waiting.has k) ∧
      t = { s with
        linePort := t.linePort, sorterPort := t.sorterPort
        counters := (s.foldRaises h.port).counters
        arbiter := { s.arbiter with waiting := t.arbiter.waiting } }) ∧
  (∀ (p : Port) (tag : Nat) (q : Request) (s : State), s.resetN = true →
    s.arbiter.holder = none → s.arbiter.choice = some (clientOf p) →
    (s.port p).phase = .executing tag q →
    (refusedInMode s.mode q = true →
      exec .storeAccessGrant s =
        .next ((s.markGranted (clientOf p)).respond p tag (requestCode q) { code := .mode })) ∧
    (refusedInMode s.mode q = false →
      exec .storeAccessGrant s =
        .next ((workOf p q (s.markGranted (clientOf p))).2.respond p tag (requestCode q)
          (workOf p q (s.markGranted (clientOf p))).1)))

/-- The grant order (R152, R155): under SORTER_FIRST and CHAINED the first waiting of SPE, GC, EC, LPE;
under ROTATE the first waiting on the ring LPE, SPE, EC, GC after the pointer; during a hold the Line
Port Engine alone. A grant leaves the pointer naming the client, where the clients stand to the
arbiter as every run leaves them (ClientLaw, which ClientLawKept states: no reset waits for a grant). With
the store held, or no client to grant, the event changes nothing, which is the model's choice (log 9). -/
def Obligations.GrantOrder : Prop :=
  (∀ a : Arbiter, a.hold = none → a.strategy ≠ .rotate →
    a.choice = [Client.spe, .gc, .ec, .lpe].find? a.waiting.has) ∧
  (∀ a : Arbiter, a.hold = none → a.strategy = .rotate →
    a.choice = (match a.pointer with
      | .lpe => [Client.spe, .ec, .gc, .lpe]
      | .spe => [Client.ec, .gc, .lpe, .spe]
      | .ec => [Client.gc, .lpe, .spe, .ec]
      | .gc => [Client.lpe, .spe, .ec, .gc]).find? a.waiting.has) ∧
  (∀ a : Arbiter, a.hold.isSome = true →
    a.choice = if a.waiting.lpe = true then some .lpe else none) ∧
  (∀ (s : State) (c : Client), s.resetN = true → s.arbiter.holder = none →
    s.arbiter.choice = some c → s.ClientLaw →
    ∃ t, exec .storeAccessGrant s = .next t ∧ t.arbiter.pointer = c) ∧
  (∀ s : State, s.resetN = true → (s.arbiter.holder ≠ none ∨ s.arbiter.choice = none) →
    exec .storeAccessGrant s = .next s)

/-- Under ROTATE a posted request is granted within four grants, whatever the other clients post
(R152): four successive grants, each leaving the pointer at the client granted, with the client waiting
at each, name that client. -/
def Obligations.RotateGrantsWithinFour : Prop :=
  ∀ (w : Nat → WaitingSet) (p : Nat → Client) (c : Client),
    (∀ k, k < 4 → (w k).has c = true) →
    (∀ k, k < 4 → (w k).rotate (p k) = some (p (k + 1))) →
    ∃ k, k < 4 ∧ p (k + 1) = c

/-- A Sorter Port request during a store hold (R156): a DESTINATION is answered RECIRCULATE flagged HELD
and counted in HELD_ANSWERS, its tray unchecked; every other request that takes an access is refused
HELD; nothing else changes. -/
def Obligations.SorterRequestsDuringHold : Prop :=
  ∀ (c : Instr) (h : Header) (r q : Request) (tag : Nat) (s : State),
    c.request? = some (h, r) → h.port = .sorter → frameTaken h r = .request tag q →
    s.resetN = true → s.sorterPort.phase = .idle → permitted q .sorter = true →
    takesAccess q = true → refusedInMode s.mode q = false → s.arbiter.hold.isSome = true →
    (requestCode q = 2 →
      ∃ u : State, exec c s = .next ((u.respond .sorter tag 2
          { code := .ok, results := .destination .recirculate 0, held := true }).written .sorter) ∧
        u.counter .heldAnswers = min 65535 (s.counter .heldAnswers + 1) ∧
        (∀ d, d ≠ .heldAnswers → u.counter d = s.counter d) ∧
        u = { s with counters := u.counters }) ∧
    (requestCode q ≠ 2 →
      exec c s =
        .next ((s.respond .sorter tag (requestCode q) { code := .held }).written .sorter))

/-- HOLD BEGIN (R154, R157): it opens the hold with the limit in force; refused HELD while one is open;
and a Sorter Port request waiting as the hold opens is withdrawn and answered as during a hold. -/
def Obligations.HoldBegin : Prop :=
  (∀ (h : Header) (tag : Nat) (s : State), Taken h .line tag .holdBegin s →
    (s.arbiter.hold = none → s.sorterPort.executing = false →
      exec (.holdBegin h) s = .next
        ({ s with arbiter := { s.arbiter with hold := some s.arbiter.holdLimit } }.answered .line tag
          .holdBegin { code := .ok, results := .milliseconds s.arbiter.holdLimit })) ∧
    (s.arbiter.hold.isSome = true →
      exec (.holdBegin h) s = .next (s.answered .line tag .holdBegin { code := .held }))) ∧
  (∀ (tag tag' : Nat) (q : Request) (s : State), s.resetN = true → s.arbiter.holder = none →
    s.arbiter.hold = none → s.arbiter.choice = some .lpe →
    s.linePort.phase = .executing tag .holdBegin → s.sorterPort.phase = .executing tag' q →
    refusedInMode s.mode q = false →
    ∃ t, exec .storeAccessGrant s = .next t ∧ t.arbiter.hold = some s.arbiter.holdLimit ∧
      t.arbiter.waiting.spe = false ∧ t.items = s.items ∧
      t.sorterPort.phase = .responseReady
        (if requestCode q = 2 then
          { code := .ok, request := 2, tag := tag', held := true,
            results := .destination .recirculate 0 }
        else { code := .held, request := requestCode q, tag := tag', held := false,
               results := .none }))

/-- The end of a hold (R159, R160): HOLD END ends it and answers a time of at most its limit, without
HOLD_EXPIRED, or is refused NOT_HELD; the hold timer's expiry ends it with HOLD_EXPIRED set, and does
nothing when no hold is open, which is the model's choice (log 9). The time answered is a free value of the
model (log 5). -/
def Obligations.HoldEnds : Prop :=
  (∀ (h : Header) (tag limit : Nat) (s : State), Taken h .line tag .holdEnd s →
    s.arbiter.hold = some limit →
    ∃ (ms : Nat) (u : State), ms ≤ limit ∧
      exec (.holdEnd h) s = .next
        (u.answered .line tag .holdEnd { code := .ok, results := .milliseconds ms }) ∧
      u = { s with arbiter := { s.arbiter with hold := none }, freeReads := u.freeReads }) ∧
  (∀ (h : Header) (tag : Nat) (s : State), Taken h .line tag .holdEnd s → s.arbiter.hold = none →
    exec (.holdEnd h) s = .next (s.answered .line tag .holdEnd { code := .notHeld })) ∧
  (∀ s : State, s.resetN = true → s.arbiter.hold.isSome = true →
    exec .holdExpiry s = .next
      { s with arbiter := { s.arbiter with hold := none },
               sticky := { s.sticky with holdExpired := true } }) ∧
  (∀ s : State, s.resetN = true → s.arbiter.hold = none → exec .holdExpiry s = .next s)

/-- ARBITER SET (R153): a strategy above 2 or a hold limit outside 1 to 250 is refused RANGE and changes
nothing; otherwise both fields are replaced, an open hold keeping its timer. Every answer carries the
strategy, the hold limit, the time left of an open hold, which is free up to its limit (log 5), and the
pointer, which names the Line Port Engine. -/
def Obligations.ArbiterSet : Prop :=
  ∀ (h : Header) (tag limit : Nat) (k : Strategy) (n : Nat) (s : State),
    Taken h .line tag (.arbiterSet n limit) s →
    ∃ (left : Option Nat) (u : State), (left.isSome = s.arbiter.hold.isSome) ∧
      (∀ l m, s.arbiter.hold = some l → left = some m → m ≤ l) ∧
      (n = strategyCode k → 1 ≤ limit → limit ≤ 250 →
        exec (.arbiterSet h n limit) s = .next (u.answered .line tag (.arbiterSet n limit)
          { code := .ok, results := .arbiter k limit left .lpe }) ∧
        u = { s with arbiter := { s.arbiter with strategy := k, holdLimit := limit },
                     freeReads := u.freeReads }) ∧
      ((3 ≤ n ∨ limit = 0 ∨ 250 < limit) →
        exec (.arbiterSet h n limit) s = .next (u.answered .line tag (.arbiterSet n limit)
          { code := .range,
            results := .arbiter s.arbiter.strategy s.arbiter.holdLimit left .lpe }) ∧
        u = { s with freeReads := u.freeReads })

/-! ### Status, counters, lamps -/

/-- STATUS answers the mode and the conditions on either port and changes nothing (R170, R178).
The eleven conditions of the status word (R171, R178), each present exactly while its cause holds or
since it was set: bit i of the set is the i-th condition, an order of the bits that is the model's choice
(log 15). -/
def Obligations.StatusWord : Prop :=
  (∀ (h : Header) (p : Port) (tag : Nat) (s : State), Taken h p tag .status s →
    exec (.status h) s = .next (s.answered p tag .status
      { code := .ok, results := .statusWord s.mode s.conditions })) ∧
  (∀ s : State,
    (s.conditions.getLsbD 0 = true ↔ ∃ a, a < 16 ∧ (s.station a).config.configured = true ∧
      (s.station a).run.health = .down) ∧
    (s.conditions.getLsbD 1 = true ↔ s.urgent ≠ [] ∨ s.routine ≠ []) ∧
    (s.conditions.getLsbD 2 = true ↔ 128 ≤ s.urgent.length + s.routine.length) ∧
    (s.conditions.getLsbD 3 = true ↔ ∃ z, z < 32 ∧ (s.zone z).state = .blocked) ∧
    (s.conditions.getLsbD 4 = true ↔ s.arbiter.hold.isSome = true) ∧
    (s.conditions.getLsbD 5 = true ↔ s.controller.state ≠ .idle) ∧
    s.conditions.getLsbD 6 = s.sticky.fifoNearFull ∧
    s.conditions.getLsbD 7 = s.sticky.fifoOverflow ∧
    s.conditions.getLsbD 8 = s.sticky.roundEnd ∧
    s.conditions.getLsbD 9 = s.sticky.holdExpired ∧
    s.conditions.getLsbD 10 = s.sticky.stationWentDown)

/-- STATUS CLEAR (R179): a set that names anything but the five sticky conditions, which are bits 6 to 10,
is refused RANGE and clears nothing; otherwise each named one is cleared, the others are kept, and the
answer is the status word after the clear. The order of the bits, here and in the masks below, is the
model's choice (log 15).
ATTENTION MASK (R171) replaces the mask of the port it arrives on, keeps it for KEEP, and refuses a
mask that names anything but the eleven conditions; every answer carries the port's mask and the
conditions present. The port's attention output is asserted exactly while a condition of its mask is
present. -/
def Obligations.StatusClearAndAttentionMask : Prop :=
  (∀ (h : Header) (tag set : Nat) (s : State), Taken h .line tag (.statusClear set) s →
    ((set % 64 ≠ 0 ∨ 2048 ≤ set) → exec (.statusClear h set) s =
      .next (s.answered .line tag (.statusClear set) { code := .range })) ∧
    (set % 64 = 0 → set < 2048 →
      ∃ u : State, exec (.statusClear h set) s = .next (u.answered .line tag (.statusClear set)
          { code := .ok, results := .statusWord u.mode u.conditions }) ∧
        u.sticky.fifoNearFull = (s.sticky.fifoNearFull && !set.testBit 6) ∧
        u.sticky.fifoOverflow = (s.sticky.fifoOverflow && !set.testBit 7) ∧
        u.sticky.roundEnd = (s.sticky.roundEnd && !set.testBit 8) ∧
        u.sticky.holdExpired = (s.sticky.holdExpired && !set.testBit 9) ∧
        u.sticky.stationWentDown = (s.sticky.stationWentDown && !set.testBit 10) ∧
        u = { s with sticky := u.sticky })) ∧
  ((∀ (h : Header) (p : Port) (tag m : Nat) (s : State), Taken h p tag (.attentionMask m) s →
    (m < 2048 → exec (.attentionMask h m) s =
      .next ((s.setPort p { s.port p with mask := BitVec.ofNat 11 m }).answered p tag
        (.attentionMask m)
        { code := .ok, results := .mask (BitVec.ofNat 11 m) s.conditions })) ∧
    (m = 65535 → exec (.attentionMask h m) s = .next (s.answered p tag (.attentionMask m)
        { code := .ok, results := .mask (s.port p).mask s.conditions })) ∧
    (2048 ≤ m → m ≠ 65535 → exec (.attentionMask h m) s =
      .next (s.answered p tag (.attentionMask m)
        { code := .range, results := .mask (s.port p).mask s.conditions }))) ∧
  (∀ (s : State) (p : Port), s.attention p = true ↔
    ∃ i, i < 11 ∧ (s.port p).mask.getLsbD i = true ∧ s.conditions.getLsbD i = true))

/-- COUNTERS SNAPSHOT copies the 24 live counters into the snapshot, sets them to 0 and answers the new
snapshot (R181). Taken while no event is in progress it holds every raise, and every live counter is 0.
Taken inside an event, each raise of that event falls before it, into the snapshot, or after it, into the
counter from 0, each on its own. COUNTERS READ answers the snapshot and changes nothing (R182).
Only the raises of the event taken last can so be divided: a read on either port, a Line Port transaction and
a grant close the raises made before, and a poll outcome and an overrun begin with no raise but their own. No
closing moves a counter. Which raises of the event fall after is a free value; that the moment of the
request says whether the event is in progress, and which commands end an event, is the model's choice
(log 18). -/
def Obligations.CountersSnapshotAndRead : Prop :=
  (∀ (h : Header) (tag : Nat) (s : State), Taken h .line tag .countersSnapshot s →
    ∃ (late : Fin 24 → Nat) (u : State),
      exec (.countersSnapshot h) s = .next (u.answered .line tag .countersSnapshot
        { code := .ok, results := .counters u.snapshot }) ∧
      (h.moment = .storeFree → ∀ d, late d = 0) ∧
      (∀ d, late d ≤ s.counters.recent[d] ∧
        u.snapshot[d] = min 65535 (s.counters.base[d] + (s.counters.recent[d] - late d)) ∧
        u.counters.base[d] = 0 ∧ u.counters.recent[d] = late d) ∧
      u = { s with snapshot := u.snapshot, counters := u.counters, freeReads := u.freeReads }) ∧
  (∀ (h : Header) (tag : Nat) (s : State), Taken h .line tag .countersRead s →
    exec (.countersRead h) s = .next
      (s.answered .line tag .countersRead { code := .ok, results := .counters s.snapshot })) ∧
  (∀ (s : State) (d : Counter), s.counter d =
    min 65535 (s.counters.base[d.index] + s.counters.recent[d.index])) ∧
  (∀ s : State, (∀ d, s.closeRaises.counter d = s.counter d) ∧
    (∀ d : Fin 24, s.closeRaises.counters.recent[d] = 0) ∧
    s.closeRaises = { s with counters := s.closeRaises.counters }) ∧
  (∀ (p : Port) (r : Reading) (s t : State), s.resetN = true → exec (.readResponse p r) s = .next t →
    ∀ d : Fin 24, t.counters.recent[d] = 0) ∧
  (∀ (c : Instr) (h : Header) (r : Request) (s t : State), c.request? = some (h, r) →
    s.resetN = true → h.port = .line → exec c s = .next t →
    ∀ d : Fin 24, t.counters.recent[d] = 0) ∧
  (∀ (c : Client) (s : State), (s.markGranted c).counters = s.closeRaises.counters) ∧
  (∀ (a : Nat) (good : Bool) (d : Fin 24) (s : State),
    (s.recordOutcome a good).counters.recent[d] =
      if good = false ∧ d = Counter.badReplies.index then 1 else 0) ∧
  (∀ (c : Instr) (h : Header) (r : Request) (s t : State), c.request? = some (h, r) →
    s.resetN = true → h.port = .sorter → s.sorterPort.phase ≠ .idle → exec c s = .next t →
    ∀ d : Fin 24, t.counters.recent[d] = if d = Counter.portOverruns.index then 1 else 0)

/-- LAMP SET (R184): a lamp above 3, a source not in the list or a pattern other than STEADY or BLINK is
refused RANGE and changes nothing; otherwise that lamp's setting is replaced and the others are kept.
Every answer carries the four settings after the request and whether each lamp is active.
The lamp outputs (R183): dark while RESET_N is low; otherwise an active STEADY lamp is lit, and an
active BLINK lamp is lit with the common phase, which BLINK_PHASE_TOGGLE turns over. -/
def Obligations.Lamps : Prop :=
  (∀ (h : Header) (tag lamp source pattern : Nat) (s : State),
    Taken h .line tag (.lampSet lamp source pattern) s →
    ((4 ≤ lamp ∨ 10 ≤ source ∨ 2 ≤ pattern) →
      exec (.lampSet h lamp source pattern) s =
        .next (s.answered .line tag (.lampSet lamp source pattern)
          { code := .range, results := .lamps s.lamps (s.lamps.map (s.sourceActive ·.source)) })) ∧
    (∀ (i : Fin 4) (src : LampSource) (pat : LampPattern), lamp = i → source = lampSourceCode src →
      pattern = lampPatternCode pat →
      ∃ u : State, exec (.lampSet h lamp source pattern) s =
          .next (u.answered .line tag (.lampSet lamp source pattern)
            { code := .ok,
              results := .lamps u.lamps (u.lamps.map (u.sourceActive ·.source)) }) ∧
        u.lamps[i] = { source := src, pattern := pat } ∧
        (∀ j : Fin 4, j ≠ i → u.lamps[j] = s.lamps[j]) ∧ u = { s with lamps := u.lamps })) ∧
  ((∀ (s : State) (l : Lamp), s.lampLit l = true ↔
    s.resetN = true ∧ s.sourceActive l.source = true ∧
      (l.pattern = .blink → s.blinkLit = true)) ∧
  (∀ s : State, s.sourceActive .off = false ∧ s.sourceActive .on = true ∧
    (s.sourceActive .runMode = true ↔ s.mode = .run) ∧
    (s.sourceActive .shadowMode = true ↔ s.mode = .shadow) ∧
    s.sourceActive .anyStationDown = s.conditions.getLsbD 0 ∧
    s.sourceActive .reportWaiting = s.conditions.getLsbD 1 ∧
    s.sourceActive .poolEmpty = s.conditions.getLsbD 2 ∧
    s.sourceActive .zoneBlocked = s.conditions.getLsbD 3 ∧
    s.sourceActive .holdActive = s.conditions.getLsbD 4 ∧
    s.sourceActive .fifoNearFull = s.conditions.getLsbD 6) ∧
  (∀ s : State, s.resetN = true →
    exec .blinkPhaseToggle s = .next { s with blinkLit := !s.blinkLit }))

/-- TABLE LIMITS (R162): on either port it answers the occupancies of the six collections and changes
nothing; live items are the entries not FREE, valid classes the valid records, enabled bins the bins
enabled, free records the records in neither queue. That the access closes the raises a snapshot divides is
the model's choice (log 18). -/
def Obligations.TableLimits : Prop :=
  ∀ (h : Header) (p : Port) (tag : Nat) (s : State), Taken h p tag .tableLimits s →
    exec (.tableLimits h) s = .next (s.closeRaises.answered p tag .tableLimits
      { code := .ok,
        results := .limits
          ((List.range 256).countP fun i => decide ((s.item i).state ≠ .free))
          s.manifests.length
          ((List.range 64).countP fun k => s.classValid k)
          ((List.range 1024).countP fun b => (s.bin b).enabled)
          (128 - (s.urgent.length + s.routine.length)) s.fifo.length })

/-- COLLECT (R176, R24): the head of the urgent queue, or else of the routine queue, leaves its queue and
is answered; the freed record goes to the item at the head of the wait list, whose report joins the queue
of its reason and which becomes FREE; with both queues empty it is refused EMPTY. Every answer carries
the four lengths after it.
A report's fields (R174), each copied from the item as it stands, with chute 0 when it never received one
and the SHADOW flag by the line mode at the build. -/
def Obligations.Collect : Prop :=
  (∀ (mode : Mode) (it : Item) (r : Report), r = Report.ofItem mode it →
    r.ticket = it.ticket ∧ r.tray = it.tray ∧ r.label = it.label ∧ r.cls = it.cls ∧
    (∀ d, it.disposition = some d → r.disposition = d) ∧ r.reason = it.reason ∧
    r.grade = it.grade ∧ r.score = it.score ∧ r.weight = it.weight ∧
    (it.scan = none → r.peakCount = none) ∧
    (∀ e, it.scan = some e → r.peakCount = some e.total) ∧ r.bin = it.bin ∧
    (it.chute = none → r.chute = 0) ∧ (∀ c, it.chute = some c → r.chute = c) ∧
    r.actualChute = it.actualChute ∧ r.laps = it.laps ∧ r.attempts = it.attempts ∧
    r.late = it.late ∧ (r.shadow = true ↔ mode = .shadow) ∧ r.excessUnit = it.excessUnit ∧
    r.noManifest = it.noManifest) ∧
  ∀ (h : Header) (tag : Nat) (s : State), Taken h .line tag .collect s →
    (s.urgent = [] → s.routine = [] →
      exec (.collect h) s = .next (s.answered .line tag .collect
        { code := .empty, results := .queueLengths 0 0 128 s.waitList.length })) ∧
    (∀ (r : Report) (isUrgent : Bool) (u₀ r₀ : List Report),
      ((isUrgent = true ∧ s.urgent = r :: u₀ ∧ s.routine = r₀) ∨
        (isUrgent = false ∧ s.urgent = [] ∧ u₀ = [] ∧ s.routine = r :: r₀)) →
      ∃ u : State, exec (.collect h) s = .next (u.answered .line tag .collect
          { code := .ok,
            results := .report isUrgent r u.urgent.length u.routine.length
              (128 - (u.urgent.length + u.routine.length)) u.waitList.length }) ∧
        (s.waitList = [] → u = { s with urgent := u₀, routine := r₀ }) ∧
        (∀ i rest, s.waitList = i :: rest →
          u.waitList = rest ∧
          u.urgent = (if (s.item i).reason = .none then u₀
            else u₀ ++ [Report.ofItem s.mode (s.item i)]) ∧
          u.routine = (if (s.item i).reason = .none then r₀ ++ [Report.ofItem s.mode (s.item i)]
            else r₀) ∧
          u.item i = Item.empty ∧ (∀ j, j ≠ i → u.item j = s.item j) ∧
          u = { s with urgent := u.urgent, routine := u.routine, waitList := u.waitList,
                       items := u.items }))

/-! ### Modes and resets -/

/-- MODE SET (R187, R188): the checks in their order (RANGE, ITEMS_LIVE, NO_REVIEW_CHUTE), and the mode
change with its effect on the round controller; every answer carries the mode after the request and the
number of live items. That a MODE SET on an empty line is answered OK, and changes nothing in the Grade
Computer, also where that still holds the copy of an item cleared from its tray, is the model's choice
(log 29). -/
def Obligations.ModeSet : Prop :=
  ∀ (h : Header) (tag n : Nat) (s : State), Taken h .line tag (.modeSet n) s →
    (3 ≤ n → exec (.modeSet h n) s = .next (s.answered .line tag (.modeSet n)
      { code := .range, results := .mode s.mode s.liveItems })) ∧
    (∀ m : Mode, n = modeCode m →
      (s.liveItems ≠ 0 → exec (.modeSet h n) s = .next (s.answered .line tag (.modeSet n)
        { code := .itemsLive, results := .mode s.mode s.liveItems })) ∧
      (s.liveItems = 0 → s.mode = .configure → m ≠ .configure → s.line.reviewChute = 0 →
        exec (.modeSet h n) s = .next (s.answered .line tag (.modeSet n)
          { code := .noReviewChute, results := .mode s.mode 0 })) ∧
      (s.liveItems = 0 → ¬ (s.mode = .configure ∧ m ≠ .configure ∧ s.line.reviewChute = 0) →
        exec (.modeSet h n) s = .next
          ({ s with
              mode := m
              controller :=
                if s.mode = Mode.configure ∧ m ≠ Mode.configure then
                  { s.controller with roundTimer := some s.link.period }
                else if s.mode ≠ Mode.configure ∧ m = Mode.configure then RoundController.atReset
                else s.controller }.answered .line tag (.modeSet n)
            { code := .ok, results := .mode m 0 })))

/-- The mode changes only on an empty line (R186, R187): whatever command changes it leaves no item
live. -/
def Obligations.ModeChangesOnEmptyLine : Prop :=
  ∀ (c : Instr) (s t : State), exec c s = .next t → t.mode ≠ s.mode → t.liveItems = 0

/-- The values after reset (R27, R34, R41, R42, R45, R46, R49, R50, R59, R70, R76, R88, R90, R125, R149,
R164, R172, R177, R179, R182, R185, R186): CONFIGURE; every table, queue and context empty; the next
ticket 1; lamp 0 RUN_MODE; and the settings of each owner. The blink phase that starts lit, the bytes
last carried on the links, and the count of free readings are the model's choices (logs 3 and 6), as are
the class and the hygiene flag of a FREE entry (log 2). -/
def Obligations.ResetValues : Prop :=
  State.reset.mode = .configure ∧ State.reset.nextTicket = 1 ∧
  (∀ i, State.reset.item i = Item.empty) ∧ (∀ t, State.reset.trayEntry t = none) ∧
  (∀ l, State.reset.manifest l = none) ∧
  (∀ k, State.reset.classValid k = false ∧ State.reset.classRecord k = ClassRecord.cleared) ∧
  (∀ b, State.reset.bin b = { zone := 0, lane := .new, capacity := 0, committed := 0, reserved := 0,
                              affinity := none, cls := none, enabled := false }) ∧
  (∀ z, State.reset.zone z = { chute := 0, state := .closed }) ∧
  (∀ a, (State.reset.station a).config.configured = false ∧
    (State.reset.station a).run = { health := .unknown, history := [], consecutiveGood := 0,
                                    holdCapable := none, selfCheck := none }) ∧
  (∀ a, State.reset.settleContext a = none) ∧ (∀ i, State.reset.scheduleEntry i = none) ∧
  State.reset.line = { maxLaps := 3, divertTries := 3, fallbackClass := 0, overflowZone := none,
                       reviewChute := 0, refurbishChute := 0, outletChute := 0, recycleChute := 0 } ∧
  State.reset.link = { period := 100, timeout := 200, threshold := 24 } ∧
  State.reset.gradeQueue = [] ∧ State.reset.grader = .idle ∧ State.reset.urgent = [] ∧
  State.reset.routine = [] ∧ State.reset.waitList = [] ∧ State.reset.fifo = [] ∧
  State.reset.collector = .waiting ∧
  State.reset.arbiter = { strategy := .sorterFirst, holder := none, chain := false,
                          waiting := { lpe := false, spe := false, ec := false, gc := false },
                          pointer := .gc, hold := none, holdLimit := 20 } ∧
  State.reset.controller = { state := .idle, active := none, staged := none, pendingStart := none,
                             walkPos := none, slot := none, inFlight := none, expiryDue := false,
                             roundTimer := none } ∧
  State.reset.scan0.state = .empty ∧ State.reset.scan0.binding = none ∧
  State.reset.scan1.state = .empty ∧ State.reset.scan1.binding = none ∧
  (∀ p, (State.reset.port p).phase = .idle ∧ (State.reset.port p).overrun = false ∧
    (State.reset.port p).mask = 0 ∧ (State.reset.port p).discarded = none) ∧
  State.reset.sticky = { fifoNearFull := false, fifoOverflow := false, roundEnd := false,
                         holdExpired := false, stationWentDown := false } ∧
  (∀ c, State.reset.counter c = 0) ∧ (∀ i : Fin 24, State.reset.snapshot[i] = 0) ∧
  State.reset.lamps[0] = { source := .runMode, pattern := .steady } ∧
  State.reset.lamps[1] = { source := .off, pattern := .steady } ∧
  State.reset.lamps[2] = { source := .off, pattern := .steady } ∧
  State.reset.lamps[3] = { source := .off, pattern := .steady } ∧ State.reset.pending = []

/-- FULL RESET (R172, R191): every block takes its value after reset; the Line Port holds OK to it and
keeps its overrun mark, the Sorter Port is IDLE and the response it held is discarded, which a read in
progress shows (R172, log 19); the blink phase goes on. That the bytes last carried on the links, the count
of free readings and the queue of commands are kept is the model's choice (log 6). -/
def Obligations.FullReset : Prop :=
  ∀ (h : Header) (tag : Nat) (s : State), Taken h .line tag .fullReset s →
    exec (.fullReset h) s = .next
      { State.reset with
        linePort := { phase := .responseReady { code := .ok, request := 12, tag := tag,
                                                held := false, results := .none }
                      overrun := s.linePort.overrun, mask := 0, miso := [], discarded := none }
        sorterPort := { phase := .idle, overrun := false, mask := 0, miso := s.sorterPort.miso
                        discarded := match s.sorterPort.phase with
                          | .responseReady r => some (responseFrame r s.sorterPort.overrun)
                          | .idle => s.sorterPort.discarded
                          | .executing .. => none }
        blinkLit := s.blinkLit, linkTxd := s.linkTxd, freeReads := s.freeReads
        pending := s.pending }

/-- LINE RESTART (R192): what is in flight is dropped and the configuration is kept. Items, Tray Index,
Grade Queue, FIFO, contexts and wait list are emptied, REPORTS_LOST is raised by the items dropped from
the wait list, reserved counts become 0, health returns to UNKNOWN, the hold ends, the round controller
is IDLE and the timer restarts outside CONFIGURE; a Sorter Port request in hand is answered RESTARTED
(RestartedAs, Sys2Proof/Safety.lean). -/
def Obligations.LineRestart : Prop :=
  ∀ (h : Header) (tag : Nat) (s : State), Taken h .line tag .lineRestart s →
    ∃ u : State, exec (.lineRestart h) s = .next
        (u.answered .line tag .lineRestart { code := .ok }) ∧ s.RestartedAs u

/-- A reset commanded while a CHAINED chain runs is kept in hand (R161): the port is EXECUTING and
nothing else changes; when the computation ends the chain's write-back is made and the store becomes
free, and the reset acts on the state that leaves, so that after LINE RESTART the counters the write-back
raised stand. That a reset in hand is an EXECUTING Line Port, and acts in the COMPUTATION_DONE that ends the
chain, is the model's reading (log 11). The model's choices: FULL RESET keeps the bytes last carried on the
links, the count of free readings and the queue of commands (log 6), and the frame of the response it
discards (log 19); the transaction, and the write-back, close the raises a snapshot divides (log 18). -/
def Obligations.ResetWaitsForChain : Prop :=
  (∀ (c : Instr) (h : Header) (r : Request) (tag : Nat) (s : State), c.request? = some (h, r) →
    h.port = .line → frameTaken h r = .request tag r → (r = .fullReset ∨ r = .lineRestart) →
    s.resetN = true → s.linePort.phase = .idle → s.arbiter.holder.isSome = true →
    exec c s = .next
      { s with
        linePort := { s.linePort with phase := .executing tag r, miso := [] }
        counters := (s.foldRaises .line).counters }) ∧
  (∀ (m : Moment) (copy : GradeCopy) (tag : Nat) (w v s : State), s.resetN = true →
    s.grader = .computing copy → s.arbiter.chain = true →
    w = gradingWriteBack copy (computeResult copy) s.closeRaises →
    v = { w with arbiter := { w.arbiter with holder := none, chain := false } } →
    (s.linePort.phase = .executing tag .lineRestart →
      ∃ u : State, exec (.computationDone m) s =
          .next (u.respond .line tag 13 { code := .ok }) ∧ v.RestartedAs u) ∧
    (s.linePort.phase = .executing tag .fullReset →
      exec (.computationDone m) s = .next
        { State.reset with
          linePort := { phase := .responseReady { code := .ok, request := 12, tag := tag,
                                                  held := false, results := .none }
                        overrun := v.linePort.overrun, mask := 0, miso := v.linePort.miso
                        discarded := none }
          sorterPort := { phase := .idle, overrun := false, mask := 0, miso := v.sorterPort.miso
                          discarded := match v.sorterPort.phase with
                            | .responseReady r => some (responseFrame r v.sorterPort.overrun)
                            | .idle => v.sorterPort.discarded
                            | .executing .. => none }
          blinkLit := v.blinkLit, linkTxd := v.linkTxd, freeReads := v.freeReads
          pending := v.pending }))

/-- The RESET_N pin (R190): while it goes low every block takes its value after reset and both ports are
IDLE with no response; when it rises the part starts and the blink phase starts afresh (lit: log 3); a
rise while it is high changes nothing. READY and the Station Link transmitter are off while it is low.
That the bytes last carried on the links, the count of free readings and the queue of commands are kept is
the model's choice (log 6), and that the pin acts at once, also in a chain, is its reading (log 11).
While RESET_N is low the part does nothing (R165, R190): every command but the two edges of the pin
leaves the state as it is. -/
def Obligations.ResetPin : Prop :=
  ((∀ s : State, exec .resetAssert s = .next
    { State.reset with
      resetN := false
      linePort := { phase := .idle, overrun := false, mask := 0, miso := s.linePort.miso
                    discarded := none }
      sorterPort := { phase := .idle, overrun := false, mask := 0, miso := s.sorterPort.miso
                      discarded := none }
      linkTxd := s.linkTxd, freeReads := s.freeReads, pending := s.pending }) ∧
  (∀ s : State, s.resetN = false →
    exec .resetRelease s = .next { s with resetN := true, blinkLit := true }) ∧
  (∀ s : State, s.resetN = true → exec .resetRelease s = .next s) ∧
  (∀ s : State, s.resetN = false → (∀ p, s.ready p = false) ∧ s.transmitterEnabled = false)) ∧
  (∀ (c : Instr) (s : State), s.resetN = false → c ≠ .resetAssert → c ≠ .resetRelease →
    exec c s = .next s)

/-! ### Manifests, classes, line settings -/

/-- MANIFEST POST (R29): RANGE, IN_USE, replacement with received 0, FULL, insertion, each answer with
the occupancy after the request. That the hygiene operand is 0 for yes is the model's reading (log 4). -/
def Obligations.ManifestPost : Prop :=
  ∀ (h : Header) (tag : Nat) (o : ManifestOperands) (s : State),
    Taken h .line tag (.manifestPost o) s →
    ((o.label = 0 ∨ 2 ^ 48 ≤ o.label ∨ 63 < o.cls ∨ o.nominal = 0 ∨ 20000 < o.nominal ∨ 7 < o.band ∨
        1 < o.hygiene ∨ o.expected = 0 ∨ 15 < o.expected) →
      exec (.manifestPost h o) s = .next (s.answered .line tag (.manifestPost o)
        { code := .range, results := .posted none s.manifests.length })) ∧
    (1 ≤ o.label → o.label < 2 ^ 48 → o.cls ≤ 63 → 1 ≤ o.nominal → o.nominal ≤ 20000 → o.band ≤ 7 →
      o.hygiene ≤ 1 → 1 ≤ o.expected → o.expected ≤ 15 →
      (∀ old, s.manifest o.label = some old → 1 ≤ old.received →
        exec (.manifestPost h o) s = .next (s.answered .line tag (.manifestPost o)
          { code := .inUse, results := .posted none s.manifests.length })) ∧
      (s.manifest o.label = none → 4096 ≤ s.manifests.length →
        exec (.manifestPost h o) s = .next (s.answered .line tag (.manifestPost o)
          { code := .full, results := .posted none s.manifests.length })) ∧
      ((∀ old, s.manifest o.label = some old → old.received = 0) →
        (s.manifest o.label = none → s.manifests.length < 4096) →
        ∃ u : State, exec (.manifestPost h o) s = .next (u.answered .line tag (.manifestPost o)
            { code := .ok,
              results := .posted
                (some (if (s.manifest o.label).isSome then .replaced else .inserted))
                u.manifests.length }) ∧
          u.manifest o.label = some
            { cls := o.cls, nominal := o.nominal, band := o.band, hygiene := decide (o.hygiene = 0),
              expected := o.expected, received := 0 } ∧
          (∀ l, l ≠ o.label → u.manifest l = s.manifest l) ∧
          (tsorted s.manifests → u.manifests.length =
            s.manifests.length + if (s.manifest o.label).isSome then 0 else 1) ∧
          u = { s with manifests := u.manifests }))

/-- MANIFEST WITHDRAW and MANIFEST READ (R30, R31): label 0 is refused RANGE, a label with no entry
NOT_FOUND; a withdrawal removes the entry whatever it has received and answers its counts and the
occupancy; a read answers the entry and changes nothing. -/
def Obligations.ManifestWithdrawAndRead : Prop :=
  (∀ (h : Header) (tag label : Nat) (s : State), Taken h .line tag (.manifestWithdraw label) s →
    (label = 0 → exec (.manifestWithdraw h label) s =
      .next (s.answered .line tag (.manifestWithdraw label) { code := .range })) ∧
    (label ≠ 0 → s.manifest label = none → exec (.manifestWithdraw h label) s =
      .next (s.answered .line tag (.manifestWithdraw label) { code := .notFound })) ∧
    (∀ m, label ≠ 0 → s.manifest label = some m →
      ∃ u : State, exec (.manifestWithdraw h label) s =
          .next (u.answered .line tag (.manifestWithdraw label)
            { code := .ok, results := .withdrawn m.expected m.received u.manifests.length }) ∧
        u.manifest label = none ∧ (∀ l, l ≠ label → u.manifest l = s.manifest l) ∧
        u = { s with manifests := u.manifests })) ∧
  (∀ (h : Header) (tag label : Nat) (s : State), Taken h .line tag (.manifestRead label) s →
    (label = 0 → exec (.manifestRead h label) s =
      .next (s.answered .line tag (.manifestRead label) { code := .range })) ∧
    (label ≠ 0 → s.manifest label = none → exec (.manifestRead h label) s =
      .next (s.answered .line tag (.manifestRead label) { code := .notFound })) ∧
    (∀ m, label ≠ 0 → s.manifest label = some m → exec (.manifestRead h label) s =
      .next (s.answered .line tag (.manifestRead label)
        { code := .ok, results := .manifest label m })))

/-- CLASS WRITE (R37): RANGE for a class above 63 or a field outside its range, ORDER for limits out of
order, each leaving the record as it was; otherwise the whole record is replaced and valid.
The fields of a class record as written (R35, R37): a record is read from the operands exactly when
every field lies in its range, and each field is then the operand's; that bit i of the required set is
the i-th kind is the model's reading (log 15).
CLASS CLEAR (R39): a class above 63 is refused RANGE; otherwise the record becomes invalid with the
cleared values, and nothing else changes. -/
def Obligations.ClassWriteAndClear : Prop :=
  (∀ (h : Header) (tag k : Nat) (o : ClassOperands) (s : State),
    Taken h .line tag (.classWrite k o) s →
    ((63 < k ∨ readClassRecord o = none) → exec (.classWrite h k o) s =
      .next (s.answered .line tag (.classWrite k o) { code := .range })) ∧
    (∀ r, k ≤ 63 → readClassRecord o = some r →
      ((r.limB < r.limA ∨ r.limC < r.limB) → exec (.classWrite h k o) s =
        .next (s.answered .line tag (.classWrite k o) { code := .order })) ∧
      (r.limA ≤ r.limB → r.limB ≤ r.limC →
        ∃ u : State, exec (.classWrite h k o) s =
            .next (u.answered .line tag (.classWrite k o) { code := .ok }) ∧
          u.classValid k = true ∧ u.classRecord k = r ∧
          (∀ j, j ≠ k → u.classValid j = s.classValid j ∧ u.classRecord j = s.classRecord j) ∧
          u = { s with classes := u.classes }))) ∧
  (∀ o : ClassOperands,
    ((readClassRecord o).isSome = true ↔
      o.required < 16 ∧ o.tolPermille ≤ 500 ∧ o.tolFloor ≤ 255 ∧ o.kw ≤ 255 ∧ o.wCap ≤ 1000 ∧
      2 ≤ o.grossFactor ∧ o.grossFactor ≤ 15 ∧ o.skip ≤ 63 ∧ o.shadow ≤ 15 ∧ 1 ≤ o.threshold ∧
      o.threshold ≤ 127 ∧ o.kDark ≤ 15 ∧ o.kLight ≤ 15 ∧ o.kx ≤ 63 ∧ o.sCap ≤ 1000 ∧
      o.uFree ≤ 255 ∧ o.ku ≤ 63 ∧ o.pPill ≤ 255 ∧ o.uCap ≤ 1000 ∧ o.ptDet ≤ 1000 ∧
      o.ptAbs ≤ 1000 ∧ o.limA ≤ 1000 ∧ o.limB ≤ 1000 ∧ o.limC ≤ 1000 ∧ o.mapA ≤ 5 ∧ o.mapB ≤ 5 ∧
      o.mapC ≤ 5 ∧ o.mapD ≤ 5 ∧ o.highBand ≤ 8 ∧ o.prefs.count ≤ 4 ∧
      ∀ z ∈ o.prefs.elems, z ≤ 31) ∧
    (∀ r, readClassRecord o = some r →
      r.required = BitVec.ofNat 4 o.required ∧ r.tolPermille = o.tolPermille ∧
      r.tolFloor = o.tolFloor ∧ r.kw = o.kw ∧ r.wCap = o.wCap ∧ r.grossFactor = o.grossFactor ∧
      r.skip = o.skip ∧ r.shadow = o.shadow ∧ r.threshold = o.threshold ∧ r.kDark = o.kDark ∧
      r.kLight = o.kLight ∧ r.kx = o.kx ∧ r.sCap = o.sCap ∧ r.uFree = o.uFree ∧ r.ku = o.ku ∧
      r.pPill = o.pPill ∧ r.uCap = o.uCap ∧ r.ptDet = o.ptDet ∧ r.ptAbs = o.ptAbs ∧
      r.limA = o.limA ∧ r.limB = o.limB ∧ r.limC = o.limC ∧ dispositionCode r.mapA = o.mapA ∧
      dispositionCode r.mapB = o.mapB ∧ dispositionCode r.mapC = o.mapC ∧
      dispositionCode r.mapD = o.mapD ∧ r.highBand = o.highBand ∧ r.prefs = o.prefs.elems)) ∧
  (∀ (h : Header) (tag k : Nat) (s : State), Taken h .line tag (.classClear k) s →
    (63 < k → exec (.classClear h k) s =
      .next (s.answered .line tag (.classClear k) { code := .range })) ∧
    (k ≤ 63 → ∃ u : State, exec (.classClear h k) s =
        .next (u.answered .line tag (.classClear k) { code := .ok }) ∧
      u.classValid k = false ∧ u.classRecord k = ClassRecord.cleared ∧
      (∀ j, j ≠ k → u.classValid j = s.classValid j ∧ u.classRecord j = s.classRecord j) ∧
      u = { s with classes := u.classes }))

/-- CLASS READ (R40) is allowed in every mode and changes nothing: a class above 63 is refused RANGE,
otherwise the record's validity and every field are answered, an invalid record with its cleared
values. -/
def Obligations.ClassRead : Prop :=
  ∀ (h : Header) (tag k : Nat) (s : State), Taken h .line tag (.classRead k) s →
    (63 < k → exec (.classRead h k) s =
      .next (s.answered .line tag (.classRead k) { code := .range })) ∧
    (k ≤ 63 → exec (.classRead h k) s = .next (s.answered .line tag (.classRead k)
      { code := .ok, results := .classRecord (s.classValid k) (s.classRecord k) })) ∧
    (s.classValid k = false → s.classRecord k = ClassRecord.cleared) ∧
    (∀ m, refusedInMode m (.classRead k) = false)

/-- LINE SET (R42, R43): refused MODE outside CONFIGURE before its fields are checked, RANGE for a field
outside its range; otherwise all eight fields are replaced. Every answer carries the settings after the
request. -/
def Obligations.LineSet : Prop :=
  ∀ (h : Header) (tag : Nat) (o : LineOperands) (s : State), Taken h .line tag (.lineSet o) s →
    (s.mode ≠ .configure → exec (.lineSet h o) s = .next (s.answered .line tag (.lineSet o)
      { code := .mode, results := .line s.line })) ∧
    (s.mode = .configure →
      (o.maxLaps = 0 ∨ 8 < o.maxLaps ∨ o.divertTries = 0 ∨ 7 < o.divertTries ∨
        63 < o.fallbackClass ∨ (31 < o.overflowZone ∧ o.overflowZone ≠ 255) ∨
        47 < o.reviewChute ∨ 47 < o.refurbishChute ∨ 47 < o.outletChute ∨ 47 < o.recycleChute) →
      exec (.lineSet h o) s = .next (s.answered .line tag (.lineSet o)
        { code := .range, results := .line s.line })) ∧
    (s.mode = .configure → 1 ≤ o.maxLaps → o.maxLaps ≤ 8 → 1 ≤ o.divertTries → o.divertTries ≤ 7 →
      o.fallbackClass ≤ 63 → (o.overflowZone ≤ 31 ∨ o.overflowZone = 255) → o.reviewChute ≤ 47 →
      o.refurbishChute ≤ 47 → o.outletChute ≤ 47 → o.recycleChute ≤ 47 →
      ∃ l : LineSettings,
        l = { maxLaps := o.maxLaps, divertTries := o.divertTries, fallbackClass := o.fallbackClass,
              overflowZone := if o.overflowZone = 255 then none else some o.overflowZone,
              reviewChute := o.reviewChute, refurbishChute := o.refurbishChute,
              outletChute := o.outletChute, recycleChute := o.recycleChute } ∧
        exec (.lineSet h o) s = .next ({ s with line := l }.answered .line tag (.lineSet o)
          { code := .ok, results := .line l }))


/-! ### Zones and bins -/

/-- ZONE SET (R128): a zone above 31 is refused RANGE with no results; a state other than OPEN and CLOSED,
an OPEN zone without a chute of 1 to 47, or a chute above 47 is refused RANGE; otherwise chute and state
are replaced. Every answer about a zone carries its record and the number of bins that name it. -/
def Obligations.ZoneSet : Prop :=
  ∀ (h : Header) (tag z chute k : Nat) (s : State), Taken h .line tag (.zoneSet z chute k) s →
    (31 < z → exec (.zoneSet h z chute k) s =
      .next (s.answered .line tag (.zoneSet z chute k) { code := .range })) ∧
    (z ≤ 31 → (k = 1 ∨ 3 ≤ k ∨ 47 < chute ∨ (k = 0 ∧ chute = 0)) →
      exec (.zoneSet h z chute k) s = .next (s.answered .line tag (.zoneSet z chute k)
        { code := .range,
          results := .zone (s.zone z)
            ((List.range 1024).countP fun b => decide ((s.bin b).zone = z)) })) ∧
    (∀ st : ZoneState, z ≤ 31 → chute ≤ 47 →
      ((k = 0 ∧ st = .opened ∧ 1 ≤ chute) ∨ (k = 2 ∧ st = .closed)) →
      ∃ u : State, exec (.zoneSet h z chute k) s =
          .next (u.answered .line tag (.zoneSet z chute k)
            { code := .ok,
              results := .zone { chute := chute, state := st }
                ((List.range 1024).countP fun b => decide ((s.bin b).zone = z)) }) ∧
        u.zone z = { chute := chute, state := st } ∧ (∀ y, y ≠ z → u.zone y = s.zone y) ∧
        u = { s with zones := u.zones })

/-- SLOT SET (R132, R142 to R144): RANGE; OCCUPIED for a capacity below the units in the bin, and in
SHADOW and RUN also for another zone, lane or affinity on a bin that is not empty and for disabling a bin
with reserved units; otherwise the settings are replaced and the current class follows the affinity. That
the enabled operand is 0 for yes is the model's reading (log 4). -/
def Obligations.SlotSet : Prop :=
  ∀ (h : Header) (tag b : Nat) (o : SlotOperands) (old : Bin) (s : State),
    Taken h .line tag (.slotSet b o) s → s.bin b = old →
    (1023 < b → exec (.slotSet h b o) s =
      .next (s.answered .line tag (.slotSet b o) { code := .range })) ∧
    (b ≤ 1023 →
      (31 < o.zone ∨ 1 < o.lane ∨ 255 < o.capacity ∨ (63 < o.affinity ∧ o.affinity ≠ 255) ∨
        1 < o.enabled) →
      exec (.slotSet h b o) s = .next (s.answered .line tag (.slotSet b o)
        { code := .range,
          results := .slot none old (old.capacity - (old.committed + old.reserved))
            (s.zone old.zone) })) ∧
    (∀ (lane : Lane) (affinity : Option Nat) (enabled : Bool), b ≤ 1023 → o.zone ≤ 31 →
      o.capacity ≤ 255 → o.lane = laneCode lane →
      ((affinity = none ∧ o.affinity = 255) ∨ (affinity = some o.affinity ∧ o.affinity ≤ 63)) →
      o.enabled = yesNoCode enabled →
      ((o.capacity < old.committed + old.reserved ∨
          (s.mode ≠ .configure ∧
            (((o.zone ≠ old.zone ∨ lane ≠ old.lane ∨ affinity ≠ old.affinity) ∧
                0 < old.committed + old.reserved) ∨
              (enabled = false ∧ 0 < old.reserved)))) →
        exec (.slotSet h b o) s = .next (s.answered .line tag (.slotSet b o)
          { code := .occupied,
            results := .slot none old (old.capacity - (old.committed + old.reserved))
              (s.zone old.zone) })) ∧
      (old.committed + old.reserved ≤ o.capacity →
        (s.mode = .configure ∨
          ((old.committed + old.reserved = 0 ∨
              (o.zone = old.zone ∧ lane = old.lane ∧ affinity = old.affinity)) ∧
            (enabled = true ∨ old.reserved = 0))) →
        ∃ u : State, exec (.slotSet h b o) s = .next (u.answered .line tag (.slotSet b o)
            { code := .ok,
              results := .slot none (u.bin b)
                (o.capacity - (old.committed + old.reserved)) (s.zone o.zone) }) ∧
          u.bin b =
            { zone := o.zone, lane := lane, capacity := o.capacity, committed := old.committed,
              reserved := old.reserved, affinity := affinity, enabled := enabled,
              cls := if affinity.isSome then affinity
                     else if old.committed + old.reserved = 0 then none else old.cls } ∧
          (∀ d, d ≠ b → u.bin d = s.bin d) ∧ u = { s with bins := u.bins }))

/-- SLOT ADJUST (R145), SLOT RELEASE (R146) and SLOT READ (R147): the checks in their order; an adjustment
sets the committed count to the units counted, held at the capacity less the reserved units, and names the
class of a bin that has none; a release takes at most the committed units; a bin with affinity ANY that
becomes empty loses its class (R132). Every answer about a bin carries its record, room and zone (R142). -/
def Obligations.SlotAdjustReleaseAndRead : Prop :=
  (∀ (h : Header) (tag b n k : Nat) (old : Bin) (s : State),
    Taken h .line tag (.slotAdjust b n k) s → s.bin b = old →
    (1023 < b → exec (.slotAdjust h b n k) s =
      .next (s.answered .line tag (.slotAdjust b n k) { code := .range })) ∧
    (b ≤ 1023 → (255 < n ∨ (63 < k ∧ k ≠ 255)) →
      exec (.slotAdjust h b n k) s = .next (s.answered .line tag (.slotAdjust b n k)
        { code := .range,
          results := .slot none old (old.capacity - (old.committed + old.reserved))
            (s.zone old.zone) })) ∧
    (∀ c, b ≤ 1023 → n ≤ 255 → k ≤ 63 → old.cls = some c → c ≠ k →
      exec (.slotAdjust h b n k) s = .next (s.answered .line tag (.slotAdjust b n k)
        { code := .classConflict,
          results := .slot none old (old.capacity - (old.committed + old.reserved))
            (s.zone old.zone) })) ∧
    (b ≤ 1023 → 1 ≤ n → n ≤ 255 → k = 255 → old.cls = none →
      exec (.slotAdjust h b n k) s = .next (s.answered .line tag (.slotAdjust b n k)
        { code := .noClass,
          results := .slot none old (old.capacity - (old.committed + old.reserved))
            (s.zone old.zone) })) ∧
    (b ≤ 1023 → n ≤ 255 →
      ((k ≤ 63 ∧ (old.cls = none ∨ old.cls = some k)) ∨
        (k = 255 ∧ (n = 0 ∨ old.cls.isSome = true))) →
      ∃ (u : State) (put : Nat), put = min n (old.capacity - old.reserved) ∧
        exec (.slotAdjust h b n k) s = .next (u.answered .line tag (.slotAdjust b n k)
          { code := .ok,
            results := .slot (some (n - put)) (u.bin b) (old.capacity - (put + old.reserved))
              (s.zone old.zone) }) ∧
        u.bin b =
          { old with
            committed := put
            cls := if put + old.reserved = 0 ∧ old.affinity = none then none
                   else if old.cls = none ∧ 0 < put then some k else old.cls } ∧
        (∀ d, d ≠ b → u.bin d = s.bin d) ∧ u = { s with bins := u.bins })) ∧
  (∀ (h : Header) (tag b n : Nat) (old : Bin) (s : State),
    Taken h .line tag (.slotRelease b n) s → s.bin b = old →
    (1023 < b → exec (.slotRelease h b n) s =
      .next (s.answered .line tag (.slotRelease b n) { code := .range })) ∧
    (b ≤ 1023 → 255 < n → exec (.slotRelease h b n) s =
      .next (s.answered .line tag (.slotRelease b n)
        { code := .range,
          results := .slot none old (old.capacity - (old.committed + old.reserved))
            (s.zone old.zone) })) ∧
    (b ≤ 1023 → n ≤ 255 →
      ∃ (u : State) (taken : Nat), taken = min n old.committed ∧
        exec (.slotRelease h b n) s = .next (u.answered .line tag (.slotRelease b n)
          { code := .ok,
            results := .slot (some taken) (u.bin b)
              (old.capacity - (old.committed - taken + old.reserved)) (s.zone old.zone) }) ∧
        u.bin b =
          { old with
            committed := old.committed - taken
            cls := if old.committed - taken + old.reserved = 0 ∧ old.affinity = none then none
                   else old.cls } ∧
        (∀ d, d ≠ b → u.bin d = s.bin d) ∧ u = { s with bins := u.bins })) ∧
  (∀ (h : Header) (tag b : Nat) (s : State), Taken h .line tag (.slotRead b) s →
    (1023 < b → exec (.slotRead h b) s =
      .next (s.answered .line tag (.slotRead b) { code := .range })) ∧
    (b ≤ 1023 → exec (.slotRead h b) s = .next (s.answered .line tag (.slotRead b)
      { code := .ok,
        results := .slot none (s.bin b)
          ((s.bin b).capacity - ((s.bin b).committed + (s.bin b).reserved))
          (s.zone (s.bin b).zone) })))

/-- The allocation search (R133 to R135). The candidate zones are the preference list, then the overflow
zone. The bin found lies in the first of them that is OPEN and has one: a bin in use for the class with the
least room, then the lowest number; or else an empty bin, one bound to the class before one bound to none,
then the greatest capacity, then the lowest number. -/
def Obligations.AllocationSearch : Prop :=
  ∀ (s : State) (prefs : List Nat) (k : Nat) (lane : Lane) (b : Nat) (inUse openable : Nat → Prop),
    (∀ d, inUse d ↔ (s.bin d).enabled = true ∧ (s.bin d).lane = lane ∧ (s.bin d).cls = some k ∧
      (s.bin d).committed + (s.bin d).reserved < (s.bin d).capacity) →
    (∀ d, openable d ↔ (s.bin d).enabled = true ∧ (s.bin d).lane = lane ∧
      (s.bin d).committed = 0 ∧ (s.bin d).reserved = 0 ∧ 1 ≤ (s.bin d).capacity ∧
      ((s.bin d).affinity = some k ∨ (s.bin d).affinity = none)) →
    (s.searchBin prefs k lane = some b ↔
      ∃ (pre post : List Nat) (z : Nat),
        prefs ++ s.line.overflowZone.toList = pre ++ z :: post ∧
        (∀ y ∈ pre, (s.zone y).state ≠ .opened ∨
          ∀ d, d < 1024 → (s.bin d).zone = y → ¬ inUse d ∧ ¬ openable d) ∧
        (s.zone z).state = .opened ∧ b < 1024 ∧ (s.bin b).zone = z ∧
        ((inUse b ∧ ∀ d, d < 1024 → (s.bin d).zone = z → inUse d →
            (s.bin b).room < (s.bin d).room ∨ ((s.bin b).room = (s.bin d).room ∧ b ≤ d)) ∨
          (openable b ∧ (∀ d, d < 1024 → (s.bin d).zone = z → ¬ inUse d) ∧
            ∀ d, d < 1024 → (s.bin d).zone = z → openable d →
              ((s.bin b).affinity = some k ∧ (s.bin d).affinity = none) ∨
              ((s.bin b).affinity = (s.bin d).affinity ∧
                ((s.bin d).capacity < (s.bin b).capacity ∨
                  ((s.bin d).capacity = (s.bin b).capacity ∧ b ≤ d))))))

/-! ### The Station Link -/

/-- STATION SET (R45 to R48): RANGE for an address above 15; MODE outside CONFIGURE; RANGE for a field
outside its range; LIMIT for a third SCAN station; otherwise the entry is replaced, its run-time part is
as after reset, and its contexts are emptied, bound or freed. Every answer about an entry carries it.
The fields of a configuration as written (R45, R47): it is read from the operands exactly when every field
lies in its range, and each field is then the operand's; that a yes-or-no operand is 0 for yes (log 4) and
that the passes are sent as their number (log 16) are the model's readings. -/
def Obligations.StationSet : Prop :=
  (∀ (h : Header) (tag a : Nat) (o : StationOperands) (s : State),
    Taken h .line tag (.stationSet a o) s →
    (15 < a → exec (.stationSet h a o) s =
      .next (s.answered .line tag (.stationSet a o) { code := .range })) ∧
    (a ≤ 15 → s.mode ≠ .configure → exec (.stationSet h a o) s =
      .next (s.answered .line tag (.stationSet a o)
        { code := .mode, results := .station (s.station a) })) ∧
    (a ≤ 15 → s.mode = .configure →
      (1 < o.configured ∨ (o.configured = 0 ∧ readStationConfig o = none)) →
      exec (.stationSet h a o) s = .next (s.answered .line tag (.stationSet a o)
        { code := .range, results := .station (s.station a) })) ∧
    (∀ k, a ≤ 15 → s.mode = .configure → o.configured = 0 → readStationConfig o = some k →
      k.kind = .scan →
      2 ≤ ((List.range 16).countP fun i => decide (i ≠ a ∧ (s.station i).config.configured = true ∧
        (s.station i).config.kind = .scan)) →
      exec (.stationSet h a o) s = .next (s.answered .line tag (.stationSet a o)
        { code := .limit, results := .station (s.station a) })) ∧
    (∀ k : StationConfig, a ≤ 15 → s.mode = .configure →
      ((o.configured = 1 ∧ k = StationConfig.atReset) ∨
        (o.configured = 0 ∧ readStationConfig o = some k ∧
          (k.kind = .scan →
            ((List.range 16).countP fun i => decide (i ≠ a ∧
              (s.station i).config.configured = true ∧ (s.station i).config.kind = .scan)) < 2))) →
      ∃ u : State, exec (.stationSet h a o) s = .next (u.answered .line tag (.stationSet a o)
          { code := .ok, results := .station { config := k, run := StationRun.atReset } }) ∧
        u.station a = { config := k, run := StationRun.atReset } ∧
        (∀ i, i ≠ a → u.station i = s.station i) ∧
        (k.configured = true → k.kind = .weigh → u.settleContext a = none) ∧
        ((k.configured = false ∨ k.kind ≠ .weigh) → u.settleContext a = s.settleContext a) ∧
        (∀ i, i ≠ a → u.settleContext i = s.settleContext i) ∧
        (k.configured = true → k.kind = .scan →
          ((s.scan0.binding = some a ∨ (s.scan0.binding = none ∧ s.scan1.binding ≠ some a)) →
            u.scan0 = { ScanContext.atReset with binding := some a } ∧ u.scan1 = s.scan1) ∧
          (s.scan0.binding ≠ some a →
            (s.scan1.binding = some a ∨ (s.scan1.binding = none ∧ s.scan0.binding ≠ none)) →
            u.scan1 = { ScanContext.atReset with binding := some a } ∧ u.scan0 = s.scan0)) ∧
        ((k.configured = false ∨ k.kind ≠ .scan) →
          (s.scan0.binding = some a → u.scan0 = ScanContext.atReset ∧ u.scan1 = s.scan1) ∧
          (s.scan0.binding ≠ some a → s.scan1.binding = some a →
            u.scan1 = ScanContext.atReset ∧ u.scan0 = s.scan0) ∧
          (s.scan0.binding ≠ some a → s.scan1.binding ≠ some a →
            u.scan0 = s.scan0 ∧ u.scan1 = s.scan1)) ∧
        u = { s with stations := u.stations, settle := u.settle, scan0 := u.scan0,
                     scan1 := u.scan1 })) ∧
  (∀ o : StationOperands,
    (readStationConfig o).isSome = true ↔
      (o.kind ≤ 3 ∧ o.holdAllowed ≤ 1 ∧ o.fieldMap.count = 4 ∧ o.fieldMap.elems.length = 4 ∧
      (∀ m ∈ o.fieldMap.elems, m ≤ 3 ∨ m = 255) ∧ o.code0 ≤ 3 ∧ o.code1 ≤ 3 ∧ o.code2 ≤ 3 ∧
      o.code3 ≤ 3 ∧ 1 ≤ o.band ∧ o.band ≤ 255 ∧ 2 ≤ o.settleCount ∧ o.settleCount ≤ 15 ∧
      1 ≤ o.unsettleCount ∧ o.unsettleCount ≤ 7 ∧ o.holdOnMotion ≤ 1 ∧ o.holdOnOverload ≤ 1 ∧
      (o.passes = 1 ∨ o.passes = 2 ∨ o.passes = 4 ∨ o.passes = 8 ∨ o.passes = 16) ∧
      4 ≤ o.window ∧ o.window ≤ 32 ∧ 1 ≤ o.badLimit ∧ o.badLimit ≤ o.window ∧ 1 ≤ o.recovery ∧
      o.recovery ≤ 15)) ∧
  (∀ (o : StationOperands) (k : StationConfig), readStationConfig o = some k →
    k.configured = true ∧ kindCode k.kind = o.kind ∧ k.holdAllowed = decide (o.holdAllowed = 0) ∧
    o.fieldMap.elems.map (fun m => if m = 255 then none else some m) =
      [k.sel0, k.sel1, k.sel2, k.sel3] ∧
    tagStateCode k.code0 = o.code0 ∧ tagStateCode k.code1 = o.code1 ∧
    tagStateCode k.code2 = o.code2 ∧ tagStateCode k.code3 = o.code3 ∧ k.band = o.band ∧
    k.settleCount = o.settleCount ∧ k.unsettleCount = o.unsettleCount ∧
    k.holdOnMotion = decide (o.holdOnMotion = 0) ∧
    k.holdOnOverload = decide (o.holdOnOverload = 0) ∧ k.passes = o.passes ∧ k.window = o.window ∧
    k.badLimit = o.badLimit ∧ k.recovery = o.recovery)

/-- LINK SET (R49): RANGE for a field outside its range, otherwise the three settings are replaced; every
answer carries the settings and the round controller. That the reply timeout is sent as its number of
microseconds is the model's reading (log 16).
SCHEDULE WRITE (R50): RANGE for a count of 0 or above 64, entries past index 255, or an entry that is
neither SKIP (both bytes of ones) nor a station 0 to 15 with a kind; otherwise the entries are written
from the first index on and the others are kept. A list whose length byte is 0 or above 64 carries no
entries (R196). -/
def Obligations.LinkSetAndScheduleWrite : Prop :=
  (∀ (h : Header) (tag p t n : Nat) (s : State), Taken h .line tag (.linkSet p t n) s →
    ((p = 0 ∨ 1000 < p ∨ (t ≠ 100 ∧ t ≠ 200 ∧ t ≠ 400 ∧ t ≠ 800) ∨ n = 0 ∨ 31 < n) →
      exec (.linkSet h p t n) s = .next (s.answered .line tag (.linkSet p t n)
        { code := .range, results := .link s.link s.controller })) ∧
    (1 ≤ p → p ≤ 1000 → (t = 100 ∨ t = 200 ∨ t = 400 ∨ t = 800) → 1 ≤ n → n ≤ 31 →
      exec (.linkSet h p t n) s = .next
        ({ s with link := { period := p, timeout := t, threshold := n } }.answered .line tag
          (.linkSet p t n)
          { code := .ok,
            results := .link { period := p, timeout := t, threshold := n } s.controller }))) ∧
  (∀ (h : Header) (tag first : Nat) (es : ListOperand (Nat × Nat)) (s : State),
    Taken h .line tag (.scheduleWrite first es) s →
    es.wf 1 64 (fun e => fits1 e.1 && fits1 e.2) = true →
    ((es.count = 0 ∨ 64 < es.count ∨ 256 < first + es.count ∨
        ∃ e ∈ es.elems, e ≠ (255, 255) ∧ (15 < e.1 ∨ 1 < e.2)) →
      exec (.scheduleWrite h first es) s = .next (s.answered .line tag (.scheduleWrite first es)
        { code := .range })) ∧
    (1 ≤ es.count → es.count ≤ 64 → first + es.count ≤ 256 →
      (∀ e ∈ es.elems, e = (255, 255) ∨ (e.1 ≤ 15 ∧ e.2 ≤ 1)) →
      ∃ u : State, exec (.scheduleWrite h first es) s =
          .next (u.answered .line tag (.scheduleWrite first es) { code := .ok }) ∧
        (∀ i e, es.elems[i]? = some e →
          u.scheduleEntry (first + i) =
            if e = (255, 255) then none
            else some { station := e.1, kind := if e.2 = 0 then .evidence else .status }) ∧
        (∀ j, (j < first ∨ first + es.count ≤ j) → u.scheduleEntry j = s.scheduleEntry j) ∧
        u = { s with schedule := u.schedule }))

/-- SCHEDULE START (R52, R53, R54): RANGE; PENDING unless the controller is IDLE; AT_TIMER and EMPTY enter
ROUND_WAIT with the start pending; NOW walks at once: the first poll entry of a configured station is sent,
SKIPPED_POLLS counting the entries passed over, and with no such entry the round ends at once.
SCHEDULE STAGE (R56): RANGE; IDLE without an active schedule; PENDING with one staged; otherwise staged.
That the repeat operand is 0 for yes (log 4), and that another value of it is refused RANGE with the other
operands (log 28), are the model's readings; that the walk position after the last entry is base + length is
its choice (log 27).
The kind a poll is sent as, and its HOLD flag (R53, R65). -/
def Obligations.ScheduleStartAndStage : Prop :=
  (∀ (h : Header) (tag : Nat) (o : ScheduleOperands) (s : State), s.ControllerLaw →
    Taken h .line tag (.scheduleStart o) s →
    ((o.length = 0 ∨ 64 < o.length ∨ 256 < o.base + o.length ∨ 2 < o.startMode ∨ 1 < o.rep) →
      exec (.scheduleStart h o) s = .next (s.answered .line tag (.scheduleStart o)
        { code := .range })) ∧
    (∀ rep : Bool, 1 ≤ o.length → o.length ≤ 64 → o.base + o.length ≤ 256 → o.startMode ≤ 2 →
      o.rep = yesNoCode rep →
      (s.controller.state ≠ .idle →
        exec (.scheduleStart h o) s = .next (s.answered .line tag (.scheduleStart o)
          { code := .pending })) ∧
      (s.controller.state = .idle → 1 ≤ o.startMode →
        exec (.scheduleStart h o) s = .next
          ({ s with controller :=
              { s.controller with
                state := .roundWait
                active := some { base := o.base, length := o.length, rep := rep }
                pendingStart := some (if o.startMode = 1 then PendingStart.atTimer else .empty) } }.answered
            .line tag (.scheduleStart o) { code := .ok })) ∧
      (∀ i p, s.controller.state = .idle → o.startMode = 0 → s.firstPoll o.base o.length i p →
        ∃ u : State, exec (.scheduleStart h o) s =
            .next (u.answered .line tag (.scheduleStart o) { code := .ok }) ∧
          u.controller =
            { s.controller with
              state := .awaitReply
              active := some { base := o.base, length := o.length, rep := rep }
              walkPos := some (o.base + i + 1)
              inFlight := some { station := p.station, kind := s.sentKind p, hold := s.holdFlag p,
                                 timeout := s.link.timeout, returnPoint := .round, single := false,
                                 phase := .transmitting } } ∧
          u.linkTxd = pollFrame p.station (s.sentKind p) (s.holdFlag p) ∧
          u.counter .skippedPolls = min 65535 (s.counter .skippedPolls + i) ∧
          (∀ d, d ≠ .skippedPolls → u.counter d = s.counter d) ∧
          u = { s with controller := u.controller, linkTxd := u.linkTxd, counters := u.counters }) ∧
      (s.controller.state = .idle → o.startMode = 0 → (¬ ∃ i p, s.firstPoll o.base o.length i p) →
        ∃ u : State, exec (.scheduleStart h o) s =
            .next (u.answered .line tag (.scheduleStart o) { code := .ok }) ∧
          u.controller =
            (if rep = true then
              { s.controller with
                state := .roundWait
                active := some { base := o.base, length := o.length, rep := rep }
                walkPos := none }
            else { s.controller with walkPos := none }) ∧
          u.sticky = { s.sticky with roundEnd := true } ∧
          u.counter .skippedPolls = min 65535 (s.counter .skippedPolls + o.length) ∧
          (∀ d, d ≠ .skippedPolls → u.counter d = s.counter d) ∧
          u = { s with controller := u.controller, sticky := u.sticky, counters := u.counters }))) ∧
  (∀ (h : Header) (tag : Nat) (o : ScheduleOperands) (s : State),
    Taken h .line tag (.scheduleStage o) s →
    ((o.length = 0 ∨ 64 < o.length ∨ 256 < o.base + o.length ∨ 2 < o.startMode ∨ 1 < o.rep) →
      exec (.scheduleStage h o) s = .next (s.answered .line tag (.scheduleStage o)
        { code := .range })) ∧
    (∀ (mode : StartMode) (rep : Bool), 1 ≤ o.length → o.length ≤ 64 → o.base + o.length ≤ 256 →
      o.startMode = startModeCode mode → o.rep = yesNoCode rep →
      (s.controller.active = none → exec (.scheduleStage h o) s =
        .next (s.answered .line tag (.scheduleStage o) { code := .idle })) ∧
      (s.controller.active.isSome = true → s.controller.staged.isSome = true →
        exec (.scheduleStage h o) s = .next (s.answered .line tag (.scheduleStage o)
          { code := .pending })) ∧
      (s.controller.active.isSome = true → s.controller.staged = none →
        exec (.scheduleStage h o) s = .next
          ({ s with controller :=
              { s.controller with
                staged := some { base := o.base, length := o.length, mode := mode,
                                 rep := rep } } }.answered
            .line tag (.scheduleStage o) { code := .ok })))) ∧
  (∀ (s : State) (p : Poll),
    (s.sentKind p = .status ↔ (s.station p.station).run.health = .down ∨ p.kind = .status) ∧
    (s.holdFlag p = true ↔ s.sentKind p = .evidence ∧ s.link.threshold ≤ s.fifo.length ∧
      (s.station p.station).config.holdAllowed = true ∧
      (s.station p.station).run.holdCapable = some true))

/-- SCHEDULE CANCEL (R57): answered OK in every state; the schedules, the pending start and expiry due are
cleared; a poll in flight goes on and returns to IDLE after the cancel, and otherwise the controller is
IDLE.
SINGLE POLL (R58): RANGE; NOT_FOUND for a station not configured; PENDING with the slot full; otherwise
the poll waits in the slot while a poll is in flight, and from IDLE and ROUND_WAIT is sent at once. -/
def Obligations.ScheduleCancelAndSinglePoll : Prop :=
  (∀ (h : Header) (tag : Nat) (s : State), s.ControllerLaw → Taken h .line tag .scheduleCancel s →
    (∀ f, s.controller.inFlight = some f →
      exec (.scheduleCancel h) s = .next
        ({ s with controller :=
            { s.controller with
              active := none, staged := none, pendingStart := none, walkPos := none
              expiryDue := false
              inFlight := some { f with returnPoint := .idleAfterCancel } } }.answered .line tag
          .scheduleCancel { code := .ok })) ∧
    (s.controller.inFlight = none →
      exec (.scheduleCancel h) s = .next
        ({ s with controller :=
            { s.controller with
              state := .idle, active := none, staged := none, pendingStart := none
              walkPos := none, expiryDue := false } }.answered .line tag
          .scheduleCancel { code := .ok }))) ∧
  (∀ (h : Header) (tag a n : Nat) (s : State), s.ControllerLaw →
    Taken h .line tag (.singlePoll a n) s →
    ((15 < a ∨ 1 < n) → exec (.singlePoll h a n) s =
      .next (s.answered .line tag (.singlePoll a n) { code := .range })) ∧
    (a ≤ 15 → n ≤ 1 → (s.station a).config.configured = false →
      exec (.singlePoll h a n) s =
        .next (s.answered .line tag (.singlePoll a n) { code := .notFound })) ∧
    (a ≤ 15 → n ≤ 1 → (s.station a).config.configured = true → s.controller.slot.isSome = true →
      exec (.singlePoll h a n) s =
        .next (s.answered .line tag (.singlePoll a n) { code := .pending })) ∧
    (∀ p : Poll, p.station = a → a ≤ 15 → n = pollKindCode p.kind →
      (s.station a).config.configured = true → s.controller.slot = none →
      (s.controller.state = .awaitReply →
        exec (.singlePoll h a n) s = .next
          ({ s with controller := { s.controller with slot := some p } }.answered .line tag
            (.singlePoll a n) { code := .ok })) ∧
      (s.controller.state ≠ .awaitReply →
        exec (.singlePoll h a n) s = .next
          ({ s with
              linkTxd := pollFrame a (s.sentKind p) (s.holdFlag p)
              controller :=
                { s.controller with
                  state := .awaitReply
                  inFlight := some
                    { station := a, kind := s.sentKind p, hold := s.holdFlag p,
                      timeout := s.link.timeout, single := true, phase := .transmitting
                      returnPoint := if s.controller.state = ControllerState.idle then ReturnPoint.idle
                                     else .roundWait } } }.answered .line tag
            (.singlePoll a n) { code := .ok }))))

/-- ROUND_TIMER_EXPIRY (R49, R54, R55). The timer is stopped in CONFIGURE, where the event changes nothing,
which is the model's choice (log 9); otherwise it restarts with the
period in force. In IDLE nothing more happens; with a poll in flight that returns to ROUND_WAIT expiry due
becomes yes. In ROUND_WAIT the schedule is walked from its base and its first poll sent; where it has none,
or an EMPTY start was pending, the round ends: ROUND_END is set, and a staged schedule becomes active with
its start mode, or a repeating one stays active, or the controller is IDLE (EndsRound,
Sys2Proof/Safety.lean, which also gives the schedule staged NOW that has no poll). That the walk position
after the last entry is base + length is the model's choice (log 27). -/
def Obligations.RoundTimerExpiry : Prop :=
  ∀ s : State, s.resetN = true → s.ControllerLaw →
    (s.mode = .configure → exec .roundTimerExpiry s = .next s) ∧
    (s.mode ≠ .configure → s.controller.state = .idle → exec .roundTimerExpiry s = .next
      { s with controller := { s.controller with roundTimer := some s.link.period } }) ∧
    (∀ f, s.mode ≠ .configure → s.controller.inFlight = some f → exec .roundTimerExpiry s = .next
      { s with controller :=
          { s.controller with
            roundTimer := some s.link.period
            expiryDue := if f.returnPoint = .roundWait then true else s.controller.expiryDue } }) ∧
    (∀ a i p, s.controller.state = .roundWait → s.controller.active = some a →
      s.controller.pendingStart ≠ some .empty → s.firstPoll a.base a.length i p →
      ∃ u : State, exec .roundTimerExpiry s = .next u ∧
        u.controller =
          { s.controller with
            state := .awaitReply, pendingStart := none, walkPos := some (a.base + i + 1)
            roundTimer := some s.link.period
            inFlight := some { station := p.station, kind := s.sentKind p, hold := s.holdFlag p,
                               timeout := s.link.timeout, returnPoint := .round, single := false,
                               phase := .transmitting } } ∧
        u.linkTxd = pollFrame p.station (s.sentKind p) (s.holdFlag p) ∧
        u.counter .skippedPolls = min 65535 (s.counter .skippedPolls + i) ∧
        (∀ d, d ≠ .skippedPolls → u.counter d = s.counter d) ∧
        u = { s with controller := u.controller, linkTxd := u.linkTxd, counters := u.counters }) ∧
    (∀ a n, s.controller.state = .roundWait → s.controller.active = some a →
      ((s.controller.pendingStart = some .empty ∧ n = 0) ∨
        (s.controller.pendingStart ≠ some .empty ∧ n = a.length ∧
          ¬ ∃ i p, s.firstPoll a.base a.length i p)) →
      ∃ u : State, exec .roundTimerExpiry s = .next u ∧
        u.sticky = { s.sticky with roundEnd := true } ∧
        (∀ d, d ≠ .skippedPolls → u.counter d = s.counter d) ∧
        u = { s with controller := u.controller, sticky := u.sticky, linkTxd := u.linkTxd,
                     counters := u.counters } ∧
        { s with controller :=
            { s.controller with roundTimer := some s.link.period } }.EndsRound u n ∧
        (s.controller.staged = none →
          u.controller =
            { s.controller with
              state := if a.rep = true then .roundWait else .idle
              active := if a.rep = true then some a else none
              pendingStart := none, walkPos := none, roundTimer := some s.link.period } ∧
          u.linkTxd = s.linkTxd ∧
          u.counter .skippedPolls = min 65535 (s.counter .skippedPolls + n)) ∧
        (∀ g, s.controller.staged = some g → g.mode ≠ .now →
          u.controller =
            { s.controller with
              active := some { base := g.base, length := g.length, rep := g.rep }
              staged := none, walkPos := none, roundTimer := some s.link.period
              pendingStart := some (if g.mode = .atTimer then PendingStart.atTimer else .empty) } ∧
          u.linkTxd = s.linkTxd ∧
          u.counter .skippedPolls = min 65535 (s.counter .skippedPolls + n)) ∧
        (∀ g i p, s.controller.staged = some g → g.mode = .now →
          s.firstPoll g.base g.length i p →
          u.controller =
            { s.controller with
              state := .awaitReply
              active := some { base := g.base, length := g.length, rep := g.rep }
              staged := none, pendingStart := none, walkPos := some (g.base + i + 1)
              roundTimer := some s.link.period
              inFlight := some { station := p.station, kind := s.sentKind p, hold := s.holdFlag p,
                                 timeout := s.link.timeout, returnPoint := .round, single := false,
                                 phase := .transmitting } } ∧
          u.linkTxd = pollFrame p.station (s.sentKind p) (s.holdFlag p) ∧
          u.counter .skippedPolls = min 65535 (s.counter .skippedPolls + (n + i))))

/-- The poll in flight and its reply timer (R60, R193): transmitted in full it waits for its first byte; a
first byte of 5 to 45 is the reply's length, and any other is a bad outcome, as are the reply timer's
expiry before a byte and an idle gap in the middle of a reply. Each event does nothing at any other time,
which is the model's choice (log 9), as it is that the first byte is a command of its own (log 20); bytes
that no poll awaits are discarded.
After an outcome the controller moves on (R53 to R55, R57, R58): within a round the next poll is sent, or the
slotted poll after the last entry, or the round ends (EndsRound, Sys2Proof/Safety.lean); from a single poll it
returns to IDLE or ROUND_WAIT, where a due expiry is acted on first and the slotted poll is sent then. That a
slotted poll that follows the last entry is one before the round's end (log 13), and the walk position past
the last entry (log 27), are the model's readings. -/
def Obligations.PollEvents : Prop :=
  (∀ (f : InFlight) (s : State), s.resetN = true → s.controller.inFlight = some f →
    (f.phase = .transmitting → exec .pollTransmitted s = .next
      { s with controller :=
          { s.controller with inFlight := some { f with phase := .awaitingFirst } } }) ∧
    (f.phase ≠ .transmitting → exec .pollTransmitted s = .next s) ∧
    (∀ len : Byte, f.phase = .awaitingFirst → 5 ≤ len.toNat → len.toNat ≤ 45 →
      exec (.replyFirstByte len) s = .next
        { s with controller :=
            { s.controller with inFlight := some { f with phase := .receiving len } } }) ∧
    (∀ len : Byte, f.phase = .awaitingFirst → (len.toNat < 5 ∨ 45 < len.toNat) →
      exec (.replyFirstByte len) s = .next ((s.recordOutcome f.station false).moveOn f)) ∧
    (∀ len : Byte, f.phase ≠ .awaitingFirst → exec (.replyFirstByte len) s = .next s) ∧
    (f.phase = .awaitingFirst →
      exec .replyTimeout s = .next ((s.recordOutcome f.station false).moveOn f)) ∧
    (f.phase ≠ .awaitingFirst → exec .replyTimeout s = .next s) ∧
    ((∃ len, f.phase = .receiving len) →
      exec .frameIdleGap s = .next ((s.recordOutcome f.station false).moveOn f)) ∧
    ((∀ len, f.phase ≠ .receiving len) → exec .frameIdleGap s = .next s)) ∧
  (∀ s : State, s.controller.inFlight = none →
    exec .pollTransmitted s = .next s ∧ (∀ len, exec (.replyFirstByte len) s = .next s) ∧
    exec .replyTimeout s = .next s ∧ exec .frameIdleGap s = .next s ∧
    (∀ frame, exec (.replyReceived frame) s = .next s)) ∧
  (∀ (bytes : List Byte) (s : State), exec (.strayReplyBytes bytes) s = .next s) ∧
  (∀ (f : InFlight) (s : State), s.ControllerLaw → s.controller.inFlight = some f →
    (f.returnPoint ≠ .round → f.returnPoint ≠ .roundWait → s.controller.slot = none →
      s.moveOn f = { s with controller := { s.controller with state := .idle, inFlight := none } }) ∧
    (f.returnPoint = .roundWait → s.controller.expiryDue = false → s.controller.slot = none →
      s.moveOn f =
        { s with controller := { s.controller with state := .roundWait, inFlight := none } }) ∧
    (∀ p, s.controller.slot = some p → f.returnPoint ≠ .round →
      (f.returnPoint = .roundWait → s.controller.expiryDue = false) →
      s.moveOn f =
        { s with
          linkTxd := pollFrame p.station (s.sentKind p) (s.holdFlag p)
          controller :=
            { s.controller with
              slot := none
              inFlight := some (s.sent p true
                (if f.returnPoint = .roundWait then .roundWait else ReturnPoint.idle)) } }) ∧
    (∀ (a : Schedule) (w n : Nat) (r : RoundController), s.controller.active = some a →
      ((f.returnPoint = .round ∧ f.single = false ∧ s.controller.walkPos = some w ∧
          r = s.controller) ∨
        (f.returnPoint = .roundWait ∧ s.controller.expiryDue = true ∧
          s.controller.pendingStart ≠ some .empty ∧ w = a.base ∧
          r = { s.controller with expiryDue := false, pendingStart := none })) →
      n = a.base + a.length - w →
      (∀ i p, s.firstPoll w n i p →
        ∃ u : State, s.moveOn f = u ∧
          u.controller =
            { r with walkPos := some (w + i + 1), inFlight := some (s.sent p false .round) } ∧
          u.linkTxd = pollFrame p.station (s.sentKind p) (s.holdFlag p) ∧
          u.counter .skippedPolls = min 65535 (s.counter .skippedPolls + i) ∧
          (∀ d, d ≠ .skippedPolls → u.counter d = s.counter d) ∧
          u = { s with controller := u.controller, linkTxd := u.linkTxd, counters := u.counters }) ∧
      (∀ q, (¬ ∃ i p, s.firstPoll w n i p) → s.controller.slot = some q →
        ∃ u : State, s.moveOn f = u ∧
          u.controller =
            { r with
              slot := none, walkPos := some (a.base + a.length)
              inFlight := some (s.sent q true .round) } ∧
          u.linkTxd = pollFrame q.station (s.sentKind q) (s.holdFlag q) ∧
          u.counter .skippedPolls = min 65535 (s.counter .skippedPolls + n) ∧
          (∀ d, d ≠ .skippedPolls → u.counter d = s.counter d) ∧
          u = { s with controller := u.controller, linkTxd := u.linkTxd, counters := u.counters }) ∧
      ((¬ ∃ i p, s.firstPoll w n i p) → s.controller.slot = none →
        { s with controller := r }.EndsRound (s.moveOn f) n)) ∧
    (f.returnPoint = .round → f.single = true → s.EndsRound (s.moveOn f) 0) ∧
    (f.returnPoint = .roundWait → s.controller.expiryDue = true →
      s.controller.pendingStart = some .empty →
      { s with controller := { s.controller with expiryDue := false } }.EndsRound (s.moveOn f) 0))

/-- REPLY_RECEIVED (R60 to R64, R66): a reply shorter than its first byte says is a bad outcome; otherwise
it is judged by the checks in their order, and then the controller moves on. A good evidence frame is
stamped with the ticket on its tray and offered to the FIFO (R67 to R69); a STATUS reply brings the hold
capability and the self-check, and FAULT is a bad outcome. A bad outcome counts BAD_REPLIES, and each
outcome goes to the station's health (R63, R64). That a whole reply may come with or without its first byte
before it, and that bytes beyond the length it states are not part of it, is the model's choice (log 20). -/
def Obligations.ReplyReceived : Prop :=
  (∀ (f : InFlight) (len : Byte) (rest : List Byte) (s : State), s.resetN = true →
    s.controller.inFlight = some f →
    (f.phase = .receiving len ∨ (f.phase = .awaitingFirst ∧ 5 ≤ len.toNat ∧ len.toNat ≤ 45)) →
    (rest.length + 1 < len.toNat → exec (.replyReceived (len :: rest)) s =
      .next ((s.recordOutcome f.station false).moveOn f)) ∧
    (len.toNat ≤ rest.length + 1 → exec (.replyReceived (len :: rest)) s =
      .next ((s.judgeReply f ((len :: rest).take len.toNat)).moveOn f))) ∧
  (∀ (f : InFlight) (frame : List Byte) (s : State),
    (crcHolds frame = false → s.judgeReply f frame = s.recordOutcome f.station false) ∧
    (crcHolds frame = true →
      ((readReply frame).address ≠ f.station →
        s.judgeReply f frame = s.recordOutcome f.station false) ∧
      ((readReply frame).address = f.station →
        (f.kind = .evidence → (readReply frame).body = .nothing →
          s.judgeReply f frame = s.recordOutcome f.station true) ∧
        (∀ tray body, f.kind = .evidence → (readReply frame).body = .evidence tray body →
          (body.kind ≠ (s.station f.station).config.kind →
            s.judgeReply f frame = (s.recordOutcome f.station false).bump .kindMismatch) ∧
          (body.kind = (s.station f.station).config.kind → 1024 ≤ tray →
            s.judgeReply f frame = s.recordOutcome f.station false) ∧
          (body.kind = (s.station f.station).config.kind → tray < 1024 →
            s.judgeReply f frame = (s.recordOutcome f.station true).offerFrame
              { station := f.station, stamp := (s.trayEntry tray).map (·.ticket), tray := tray,
                body := body })) ∧
        (∀ k fault capable check, f.kind = .status →
          (readReply frame).body = .status k fault capable check →
          (k ≠ kindCode (s.station f.station).config.kind →
            s.judgeReply f frame = (s.recordOutcome f.station false).bump .kindMismatch) ∧
          (k = kindCode (s.station f.station).config.kind →
            s.judgeReply f frame =
              (s.setStation f.station
                { config := (s.station f.station).config
                  run := { (s.station f.station).run with
                    holdCapable := some capable, selfCheck := some check } }).recordOutcome
                f.station (!fault))) ∧
        (((f.kind = .evidence ∧ (readReply frame).body ≠ .nothing ∧
              ∀ tray body, (readReply frame).body ≠ .evidence tray body) ∨
            (f.kind = .status ∧ ∀ k fault capable check,
              (readReply frame).body ≠ .status k fault capable check)) →
          s.judgeReply f frame = s.recordOutcome f.station false)))) ∧
  (∀ (a : Nat) (good : Bool) (s : State),
    (∀ i, i ≠ a → (s.recordOutcome a good).station i = s.station i) ∧
    ((s.recordOutcome a good).station a).config = (s.station a).config ∧
    (s.recordOutcome a good).counter .badReplies =
      (if good = true then s.counter .badReplies else min 65535 (s.counter .badReplies + 1)) ∧
    (∀ d, d ≠ .badReplies → (s.recordOutcome a good).counter d = s.counter d) ∧
    ((s.recordOutcome a good).sticky.stationWentDown = true ↔
      s.sticky.stationWentDown = true ∨
        (((s.recordOutcome a good).station a).run.health = .down ∧
          (s.station a).run.health ≠ .down)) ∧
    (∀ (r : StationRun) (k : StationConfig) (kept : List Bool), r = (s.station a).run →
      k = (s.station a).config →
      kept = (r.history ++ [good]).drop (r.history.length + 1 - k.window) →
      (r.health ≠ .down →
        ((s.recordOutcome a good).station a).run =
          (if k.badLimit ≤ kept.countP (fun g => !g) then
            { r with health := .down, history := kept, consecutiveGood := 0 }
          else
            { r with history := kept
                     health := if r.health = .unknown ∧ good = true then .up else r.health })) ∧
      (r.health = .down → good = false →
        ((s.recordOutcome a good).station a).run = { r with consecutiveGood := 0 }) ∧
      (r.health = .down → good = true →
        ((s.recordOutcome a good).station a).run =
          (if k.recovery ≤ r.consecutiveGood + 1 then
            { r with health := .up, history := List.replicate k.window true, consecutiveGood := 0 }
          else { r with consecutiveGood := r.consecutiveGood + 1 }))) ∧
    s.recordOutcome a good =
      { s with stations := (s.recordOutcome a good).stations
               sticky := (s.recordOutcome a good).sticky
               counters := (s.recordOutcome a good).counters }) ∧
  (∀ (g : StampedFrame) (s : State),
    (s.fifo.length < 32 → s.offerFrame g =
      { s with
        fifo := s.fifo ++ [g]
        sticky := { s.sticky with
          fifoNearFull := s.sticky.fifoNearFull ||
            decide (s.link.threshold ≤ s.fifo.length + 1) } }) ∧
    (32 ≤ s.fifo.length →
      (s.offerFrame g).fifo = s.fifo ∧
      (s.offerFrame g).sticky = { s.sticky with fifoOverflow := true } ∧
      (s.offerFrame g).counter .fifoDropped = min 65535 (s.counter .fifoDropped + 1) ∧
      (∀ d, d ≠ .fifoDropped → (s.offerFrame g).counter d = s.counter d) ∧
      s.offerFrame g =
        { s with sticky := (s.offerFrame g).sticky, counters := (s.offerFrame g).counters }))

/-! ### Items -/

/-- INDUCT (R6 to R8, R2): RANGE, TRAY_BUSY, FULL; otherwise the lowest FREE entry takes the tray with the
next ticket. A label with a manifest brings its class, weight, band and hygiene flag and counts one unit
received, or the excess mark; without one the fallback class and the no-manifest mark. With a valid class
and a required set that is not empty the item is OPEN; otherwise it is QUEUED at the tail, and an idle
Grade Computer posts its fetch. That the access closes the raises a snapshot divides is the model's choice
(log 18). -/
def Obligations.Induct : Prop :=
  ∀ (h : Header) (tag tray label : Nat) (s : State), s.ItemLaws →
    Taken h .sorter tag (.induct tray label) s →
    (1024 ≤ tray → exec (.induct h tray label) s =
      .next (s.closeRaises.answered .sorter tag (.induct tray label) { code := .range })) ∧
    (tray < 1024 → (∃ i, s.carries tray i) → exec (.induct h tray label) s =
      .next (s.closeRaises.answered .sorter tag (.induct tray label) { code := .trayBusy })) ∧
    (tray < 1024 → (¬ ∃ i, s.carries tray i) → (∀ i, i < 256 → (s.item i).state ≠ .free) →
      exec (.induct h tray label) s =
        .next (s.closeRaises.answered .sorter tag (.induct tray label) { code := .full })) ∧
    (∀ (i : Nat) (found : Option Manifest) (it : Item), tray < 1024 → (¬ ∃ j, s.carries tray j) →
      i < 256 → (s.item i).state = .free → (∀ j, j < i → (s.item j).state ≠ .free) →
      found = (if label = 0 then none else s.manifest label) →
      it = { Item.empty with
              ticket := s.nextTicket, tray := tray
              label := if label = 0 then none else some label
              cls := (found.map (·.cls)).getD s.line.fallbackClass
              nominal := found.map (·.nominal), band := found.map (·.band)
              hygiene := (found.map (·.hygiene)).getD false
              noManifest := found.isNone
              excessUnit := (found.map fun m => decide (m.expected ≤ m.received)).getD false } →
      ∃ u : State, exec (.induct h tray label) s = .next (u.answered .sorter tag (.induct tray label)
          { code := .ok, results := .inducted i s.nextTicket }) ∧
        (∀ m, found = some m → m.received < m.expected →
          u.manifest label = some { m with received := m.received + 1 }) ∧
        (∀ l, (l ≠ label ∨ ¬ ∃ m, found = some m ∧ m.received < m.expected) →
          u.manifest l = s.manifest l) ∧
        u.nextTicket = (if 65535 ≤ s.nextTicket then 1 else s.nextTicket + 1) ∧
        u.trayEntry tray = some { index := i, ticket := s.nextTicket } ∧
        (∀ t, t ≠ tray → u.trayEntry t = s.trayEntry t) ∧
        u.counter .inducted = min 65535 (s.counter .inducted + 1) ∧
        u.counter .excessUnits = (if it.excessUnit = true
          then min 65535 (s.counter .excessUnits + 1) else s.counter .excessUnits) ∧
        (∀ d, d ≠ .inducted → d ≠ .excessUnits → u.counter d = s.counter d) ∧
        (∀ j, j ≠ i → u.item j = s.item j) ∧
        (s.classValid it.cls = true → (s.classRecord it.cls).required ≠ 0 →
          u.item i = { it with state := .opened } ∧ u.gradeQueue = s.gradeQueue ∧
          u.grader = s.grader ∧ u.arbiter = s.arbiter) ∧
        ((s.classValid it.cls = false ∨ (s.classRecord it.cls).required = 0) →
          u.item i = { it with state := .queued } ∧ u.gradeQueue = s.gradeQueue ++ [i] ∧
          (s.grader = .idle → u.grader = .fetchWait ∧ u.arbiter =
            { s.arbiter with waiting := { s.arbiter.waiting with gc := true } }) ∧
          (s.grader ≠ .idle → u.grader = s.grader ∧ u.arbiter = s.arbiter)) ∧
        u = { s with
          items := u.items, nextTicket := u.nextTicket, trayIndex := u.trayIndex
          gradeQueue := u.gradeQueue, grader := u.grader, arbiter := u.arbiter
          manifests := u.manifests, counters := u.counters })

/-- DESTINATION (R9 to R14, R16, R141): RANGE; UNTRACKED for a tray without an active item. An OPEN item
gains a lap, and is queued when its evidence is complete, sent to review when its laps reach the maximum,
and otherwise goes round again; a QUEUED or GRADING item gains a lap and goes round again; a DECIDED item
is ROUTED to its chute; a ROUTED item has missed its chute, and is re-decided to review when its divert
tries are spent. An item whose bin's zone is BLOCKED is reallocated first. The answer that names a chute is
ROUTE in RUN and PASS in SHADOW. That the access closes the raises a snapshot divides is the model's choice
(log 18). -/
def Obligations.Destination : Prop :=
  ∀ (h : Header) (tag tray : Nat) (s : State), s.ItemLaws → Taken h .sorter tag (.destination tray) s →
    (1024 ≤ tray → exec (.destination h tray) s =
      .next (s.closeRaises.answered .sorter tag (.destination tray) { code := .range })) ∧
    (tray < 1024 → (¬ ∃ i, s.carries tray i) → exec (.destination h tray) s =
      .next (s.closeRaises.answered .sorter tag (.destination tray)
        { code := .ok, results := .destination .untracked 0 })) ∧
    (∀ (i : Nat) (it : Item) (verb : DestAnswer), tray < 1024 → s.carries tray i → it = s.item i →
      verb = (if s.mode = .run then .route else .pass) →
      (∀ it₁, it.state = .opened → it₁ = { it with laps := min 15 (it.laps + 1) } →
        (it.complete (s.classRecord it.cls).required = true →
          exec (.destination h tray) s =
            .next (((s.closeRaises.enqueue i it₁).bump .recirculated).answered .sorter tag
              (.destination tray)
              { code := .ok, results := .destination .recirculate 0 })) ∧
        (it.complete (s.classRecord it.cls).required = false → it₁.laps < s.line.maxLaps →
          exec (.destination h tray) s =
            .next (((s.closeRaises.setItem i it₁).bump .recirculated).answered .sorter tag
              (.destination tray)
              { code := .ok, results := .destination .recirculate 0 })) ∧
        (it.complete (s.classRecord it.cls).required = false → s.line.maxLaps ≤ it₁.laps →
          exec (.destination h tray) s =
            .next (((s.closeRaises.setItem i { it₁ with
                state := .routed, disposition := some .review, reason := .incomplete
                chute := some s.line.reviewChute }).bump .reviewed).answered .sorter tag
              (.destination tray)
              { code := .ok, results := .destination verb s.line.reviewChute }))) ∧
      ((it.state = .queued ∨ it.state = .grading) →
        exec (.destination h tray) s =
          .next (((s.closeRaises.setItem i { it with laps := min 15 (it.laps + 1) }).bump
            .recirculated).answered .sorter tag (.destination tray)
            { code := .ok, results := .destination .recirculate 0 })) ∧
      (it.state = .decided →
        ((∀ b, s.reservation it = some b → (s.zone (s.bin b).zone).state ≠ .blocked) →
          exec (.destination h tray) s =
            .next ((s.closeRaises.setItem i { it with state := .routed }).answered .sorter tag
              (.destination tray)
              { code := .ok, results := .destination verb (it.chute.getD 0) })) ∧
        (∀ b, s.reservation it = some b → (s.zone (s.bin b).zone).state = .blocked →
          exec (.destination h tray) s =
            .next (((s.closeRaises.reallocate it b).2.setItem i
                { (s.closeRaises.reallocate it b).1 with state := .routed }).answered .sorter tag
              (.destination tray)
              { code := .ok,
                results := .destination verb ((s.closeRaises.reallocate it b).1.chute.getD 0) }))) ∧
      (∀ (it₁ : Item) (s₁ : State), it.state = .routed →
        it₁ = { it with laps := min 15 (it.laps + 1), attempts := min 7 (it.attempts + 1) } →
        s₁ = s.closeRaises.bump .divertFailed →
        (s.line.divertTries ≤ it₁.attempts → it.disposition ≠ some .review →
          exec (.destination h tray) s =
            .next (((s₁.releaseReservation it₁).bump .reviewed).setItem i { it₁ with
                bin := none, disposition := some .review, reason := .divertFailed
                chute := some s.line.reviewChute }
              |>.answered .sorter tag (.destination tray)
                { code := .ok, results := .destination verb s.line.reviewChute })) ∧
        ((it₁.attempts < s.line.divertTries ∨ it.disposition = some .review) →
          ((∀ b, s.reservation it = some b → (s.zone (s.bin b).zone).state ≠ .blocked) →
            exec (.destination h tray) s =
              .next ((s₁.setItem i it₁).answered .sorter tag (.destination tray)
                { code := .ok, results := .destination verb (it.chute.getD 0) })) ∧
          (∀ b, s.reservation it = some b → (s.zone (s.bin b).zone).state = .blocked →
            exec (.destination h tray) s =
              .next (((s₁.reallocate it₁ b).2.setItem i (s₁.reallocate it₁ b).1).answered .sorter
                tag (.destination tray)
                { code := .ok,
                  results := .destination verb ((s₁.reallocate it₁ b).1.chute.getD 0) }))))) ∧
    (∀ (it : Item) (b : Nat) (t : State) (lane : Lane), t = s.setBin b (s.bin b).release →
      ((it.disposition = some .restockNew ∧ lane = .new) ∨
        (it.disposition = some .restockSecond ∧ lane = .second)) →
      (∀ d, t.searchBin (s.classRecord it.cls).prefs it.cls lane = some d →
        s.reallocate it b =
          ({ it with bin := some d, chute := some (s.zone (t.bin d).zone).chute },
           t.setBin d { t.bin d with
             reserved := (t.bin d).reserved + 1, cls := some ((t.bin d).cls.getD it.cls) })) ∧
      (t.searchBin (s.classRecord it.cls).prefs it.cls lane = none →
        s.reallocate it b =
          ({ it with
              disposition := some .review, reason := .noSlot, chute := some s.line.reviewChute
              bin := none },
           (t.bump .noSlot).bump .reviewed)))

/-- DIVERTED (R17, R18) and DIVERT FAILED (R19): RANGE, NO_ITEM, NOT_ROUTED. A tilt into the item's chute
commits its reservation and retires it; a tilt elsewhere is a missort, which releases the reservation and
retires it with the chute it went to. A failed divert counts an attempt and leaves the item DECIDED, for
CHUTE_FULL blocks the OPEN zones of its chute, and with its tries spent re-decides it to review (R16).
What a commit and a retirement do (R139, R23). That the access closes the raises a snapshot divides is the
model's choice (log 18). -/
def Obligations.DivertedAndDivertFailed : Prop :=
  (∀ (h : Header) (tag tray chute : Nat) (s : State), s.ItemLaws →
    Taken h .sorter tag (.diverted tray chute) s →
    ((1024 ≤ tray ∨ chute = 0 ∨ 47 < chute) → exec (.diverted h tray chute) s =
      .next (s.closeRaises.answered .sorter tag (.diverted tray chute) { code := .range })) ∧
    (tray < 1024 → 1 ≤ chute → chute ≤ 47 →
      ((¬ ∃ i, s.carries tray i) → exec (.diverted h tray chute) s =
        .next (s.closeRaises.answered .sorter tag (.diverted tray chute) { code := .noItem })) ∧
      (∀ i it, s.carries tray i → it = s.item i →
        (it.state ≠ .routed → exec (.diverted h tray chute) s =
          .next (s.closeRaises.answered .sorter tag (.diverted tray chute) { code := .notRouted })) ∧
        (∀ b, it.state = .routed → it.chute = some chute → s.reservation it = some b →
          exec (.diverted h tray chute) s =
            .next (((s.closeRaises.setBin b (s.bin b).commit).retire i it).answered .sorter tag
              (.diverted tray chute) { code := .ok })) ∧
        (it.state = .routed → it.chute = some chute → s.reservation it = none →
          exec (.diverted h tray chute) s =
            .next ((s.closeRaises.retire i it).answered .sorter tag (.diverted tray chute)
              { code := .ok })) ∧
        (it.state = .routed → it.chute ≠ some chute →
          exec (.diverted h tray chute) s =
            .next ((((s.closeRaises.releaseReservation it).bump .missorted).retire i
                { it with
                  reason := .missort, actualChute := some chute
                  bin := if s.mode = .run then none else it.bin }).answered .sorter tag
              (.diverted tray chute) { code := .ok }))))) ∧
  (∀ (h : Header) (tag tray cause : Nat) (s : State), s.ItemLaws →
    Taken h .sorter tag (.divertFailed tray cause) s →
    ((1024 ≤ tray ∨ 2 < cause) → exec (.divertFailed h tray cause) s =
      .next (s.closeRaises.answered .sorter tag (.divertFailed tray cause) { code := .range })) ∧
    (tray < 1024 → cause ≤ 2 →
      ((¬ ∃ i, s.carries tray i) → exec (.divertFailed h tray cause) s =
        .next (s.closeRaises.answered .sorter tag (.divertFailed tray cause) { code := .noItem })) ∧
      (∀ i it it₁, s.carries tray i → it = s.item i →
        it₁ = { it with attempts := min 7 (it.attempts + 1), state := .decided } →
        (it.state ≠ .routed → exec (.divertFailed h tray cause) s =
          .next (s.closeRaises.answered .sorter tag (.divertFailed tray cause)
            { code := .notRouted })) ∧
        (it.state = .routed →
          ∃ v : State, v.counter .divertFailed = min 65535 (s.counter .divertFailed + 1) ∧
            (∀ d, d ≠ .divertFailed → v.counter d = s.counter d) ∧
            (∀ z, z < 32 → v.zone z =
              if cause = 0 ∧ (s.zone z).state = .opened ∧ (s.zone z).chute = it.chute.getD 0
              then { chute := (s.zone z).chute, state := .blocked } else s.zone z) ∧
            v = { s with counters := v.counters, zones := v.zones } ∧
            ((it₁.attempts < s.line.divertTries ∨ it.disposition = some .review) →
              exec (.divertFailed h tray cause) s =
                .next ((v.setItem i it₁).answered .sorter tag (.divertFailed tray cause)
                  { code := .ok })) ∧
            (s.line.divertTries ≤ it₁.attempts → it.disposition ≠ some .review →
              exec (.divertFailed h tray cause) s =
                .next ((((v.releaseReservation it₁).bump .reviewed).setItem i
                    { it₁ with
                      bin := none, disposition := some .review, reason := .divertFailed
                      chute := some s.line.reviewChute }).answered .sorter tag
                  (.divertFailed tray cause) { code := .ok })))))) ∧
  (∀ b : Bin, 1 ≤ b.reserved →
    b.commit = { b with reserved := b.reserved - 1, committed := b.committed + 1 }) ∧
  (∀ (i : Nat) (it : Item) (s : State),
    (s.retire i it).trayEntry it.tray = none ∧
    (∀ t, t ≠ it.tray → (s.retire i it).trayEntry t = s.trayEntry t) ∧
    (∀ j, j ≠ i → (s.retire i it).item j = s.item j) ∧
    (s.urgent.length + s.routine.length < 128 →
      (s.retire i it).item i = Item.empty ∧ (s.retire i it).waitList = s.waitList ∧
      (it.reason = .none → (s.retire i it).routine = s.routine ++ [Report.ofItem s.mode it] ∧
        (s.retire i it).urgent = s.urgent) ∧
      (it.reason ≠ .none → (s.retire i it).urgent = s.urgent ++ [Report.ofItem s.mode it] ∧
        (s.retire i it).routine = s.routine)) ∧
    (128 ≤ s.urgent.length + s.routine.length →
      (s.retire i it).item i = { it with state := .retiring } ∧
      (s.retire i it).waitList = s.waitList ++ [i] ∧ (s.retire i it).urgent = s.urgent ∧
      (s.retire i it).routine = s.routine) ∧
    s.retire i it =
      { s with
        items := (s.retire i it).items, trayIndex := (s.retire i it).trayIndex
        waitList := (s.retire i it).waitList, urgent := (s.retire i it).urgent
        routine := (s.retire i it).routine })

/-- TRAY CLEARED (R20): RANGE, NO_ITEM; otherwise the item in whatever active state it is leaves the Grade
Queue, its reservation is released, REMOVED is counted, and it retires with reason REMOVED, as REVIEW where
it had no disposition.
CHUTE CLEAR (R21) reopens the BLOCKED zones of a chute and answers how many. ITEM QUERY (R22) answers an
entry by tray or by index, on either port, and changes nothing. That their accesses close the raises a
snapshot divides is the model's choice (log 18). -/
def Obligations.TrayClearedChuteClearAndItemQuery : Prop :=
  (∀ (h : Header) (tag tray : Nat) (s : State), s.ItemLaws →
    Taken h .sorter tag (.trayCleared tray) s →
    (1024 ≤ tray → exec (.trayCleared h tray) s =
      .next (s.closeRaises.answered .sorter tag (.trayCleared tray) { code := .range })) ∧
    (tray < 1024 → (¬ ∃ i, s.carries tray i) → exec (.trayCleared h tray) s =
      .next (s.closeRaises.answered .sorter tag (.trayCleared tray) { code := .noItem })) ∧
    (∀ (i : Nat) (it : Item), tray < 1024 → s.carries tray i → it = s.item i →
      exec (.trayCleared h tray) s = .next
        ((({ s.closeRaises.releaseReservation it with gradeQueue := s.gradeQueue.filter (· ≠ i) }.bump
            .removed).retire i
          { it with
            bin := none, reason := .removed
            disposition := some (it.disposition.getD .review) }).answered .sorter tag
          (.trayCleared tray) { code := .ok }))) ∧
  (∀ (h : Header) (tag chute : Nat) (s : State), Taken h .sorter tag (.chuteClear chute) s →
    ((chute = 0 ∨ 47 < chute) → exec (.chuteClear h chute) s =
      .next (s.closeRaises.answered .sorter tag (.chuteClear chute) { code := .range })) ∧
    (1 ≤ chute → chute ≤ 47 →
      ∃ u : State, exec (.chuteClear h chute) s = .next (u.answered .sorter tag (.chuteClear chute)
          { code := .ok,
            results := .reopened ((List.range 32).countP fun z =>
              decide ((s.zone z).state = .blocked ∧ (s.zone z).chute = chute)) }) ∧
        (∀ z, z < 32 → u.zone z =
          if (s.zone z).state = .blocked ∧ (s.zone z).chute = chute
          then { chute := (s.zone z).chute, state := .opened } else s.zone z) ∧
        u = { s.closeRaises with zones := u.zones })) ∧
  (∀ (h : Header) (p : Port) (tag k n : Nat) (s : State), s.ItemLaws →
    Taken h p tag (.itemQuery k n) s →
    ((1 < k ∨ (k = 0 ∧ 1024 ≤ n) ∨ (k = 1 ∧ 256 ≤ n)) → exec (.itemQuery h k n) s =
      .next (s.closeRaises.answered p tag (.itemQuery k n) { code := .range })) ∧
    (k = 0 → n < 1024 → (¬ ∃ i, s.carries n i) → exec (.itemQuery h k n) s =
      .next (s.closeRaises.answered p tag (.itemQuery k n) { code := .noItem })) ∧
    (∀ i, ((k = 0 ∧ n < 1024 ∧ s.carries n i) ∨ (k = 1 ∧ n < 256 ∧ i = n)) →
      exec (.itemQuery h k n) s = .next (s.closeRaises.answered p tag (.itemQuery k n)
        { code := .ok, results := .item i (s.item i) })))

/-! ### Evidence -/

/-- EVIDENCE_FRAME_TAKEN (R71 to R75, R82 to R87): the waiting collector takes the head frame. A TAG frame
is mapped by the station's field map and tag code table to a tag reading, a WEAR frame to a wear reading or
to nothing. With evidence the collector writes it in its access at once, or waits for the grant; without it
waits for the next frame. A write to the item whose ticket is the stamp: an OPEN item receives the finding
and joins the Grade Queue once its evidence is complete, an item further on is marked late and
LATE_EVIDENCE counted, and with no such item NO_ITEM_EVIDENCE is counted.
A SCAN frame (R91 to R96) without a bound context brings nothing. Otherwise the context of another garment is
closed, SCAN_INCOMPLETE counted, and the context opened for the frame's; the segment then begins, restarts
or continues a pass, is ignored, or is refused or drops the pass, SCAN_PASS_DISCARDED counted; and the pass
that completes the scan brings the averaged profile as the frame's evidence. (WEIGH frames are in
SettleFilter.)
That an event on an empty FIFO, or while the collector is not waiting, changes nothing is the model's choice
(log 9), as is that the frame, the work on it and the request for the access are one step (log 21), and that
the frame taken and the access each close the raises a snapshot divides (log 18). -/
def Obligations.EvidenceFrameTaken : Prop :=
  (∀ (m : Moment) (s : State), s.resetN = true → (s.fifo = [] ∨ s.collector ≠ .waiting) →
    exec (.evidenceFrameTaken m) s = .next s) ∧
  (∀ (m : Moment) (f : StampedFrame) (rest : List StampedFrame) (pieces : List Piece) (v s : State),
    s.resetN = true → s.collector = .waiting → s.fifo = f :: rest →
    takeFrame f { s.closeRaises with fifo := rest } = (pieces, v) →
    (pieces = [] → exec (.evidenceFrameTaken m) s = .next v) ∧
    (pieces ≠ [] → s.arbiter.grantsAtOnce .ec m = true →
      exec (.evidenceFrameTaken m) s = .next
        { pieces.foldl State.writePiece (v.markGranted .ec) with collector := .waiting }) ∧
    (pieces ≠ [] → s.arbiter.grantsAtOnce .ec m = false →
      exec (.evidenceFrameTaken m) s = .next
        { v with
          collector := .awaitStore pieces
          arbiter := { s.arbiter with waiting := { s.arbiter.waiting with ec := true } } })) ∧
  (∀ (pieces : List Piece) (s : State), s.resetN = true → s.arbiter.holder = none →
    s.arbiter.choice = some .ec → s.collector = .awaitStore pieces →
    exec .storeAccessGrant s = .next
      { pieces.foldl State.writePiece (s.markGranted .ec) with collector := .waiting }) ∧
  (∀ (f : StampedFrame) (k : StationConfig) (r0 r1 r2 r3 : Nat) (s : State),
    k = (s.station f.station).config →
    (f.body = .tag r0 r1 r2 r3 → ∃ reading : TagReading,
      takeFrame f s =
        ([{ tray := f.tray, stamp := f.stamp, finding := .tag reading }], s) ∧
      (∀ (j : Fin 4) (v : Nat) (code : TagState), k.sel0 = some j → [r0, r1, r2, r3][j]? = some v →
        ([k.code0, k.code1, k.code2, k.code3][v]? = some code → reading.tag = code) ∧
        (4 ≤ v → reading.tag = .unread)) ∧
      (k.sel0 = none → reading.tag = .unread) ∧
      (∀ (j : Fin 4) (v : Nat), k.sel1 = some j → [r0, r1, r2, r3][j]? = some v →
        reading.sku = if v ≤ 63 then some v else none) ∧
      (k.sel1 = none → reading.sku = none)) ∧
    (f.body = .wear r0 r1 r2 r3 →
      (k.sel2 = none → takeFrame f s = ([], s)) ∧
      (∀ (j : Fin 4) (v : Nat), k.sel2 = some j → [r0, r1, r2, r3][j]? = some v →
        ∃ pilling : Bool,
          takeFrame f s =
            ([{ tray := f.tray, stamp := f.stamp,
                finding := .wear { index := min 255 v, pilling := pilling } }], s) ∧
          (k.sel3 = none → pilling = false) ∧
          (∀ (i : Fin 4) (w : Nat), k.sel3 = some i → [r0, r1, r2, r3][i]? = some w →
            pilling = decide (1 ≤ w))))) ∧
  (∀ (f : StampedFrame) (g : Segment) (s : State), f.body = .scan g →
    (s.scan0.binding ≠ some f.station → s.scan1.binding ≠ some f.station →
      takeFrame f s = ([], s)) ∧
    (∀ (first other : Bool) (c opened : ScanContext) (r : ScanStep),
      ((first = true ∧ s.scan0.binding = some f.station ∧ c = s.scan0) ∨
        (first = false ∧ s.scan0.binding ≠ some f.station ∧ s.scan1.binding = some f.station ∧
          c = s.scan1)) →
      (other = true ↔ c.state ≠ .empty ∧ (c.tray ≠ some f.tray ∨ c.stamp ≠ f.stamp)) →
      opened = (if c.state = .empty ∨ other = true then
        { binding := c.binding, state := .awaitPass, tray := some f.tray, stamp := f.stamp,
          length := none, passesDone := 0, pass := [], sums := [] } else c) →
      r = opened.take (s.station f.station).config.passes g →
      ∃ v : State, takeFrame f s =
          (r.profile.toList.map fun p =>
            { tray := f.tray, stamp := f.stamp, finding := .profile p }, v) ∧
        v.scan0 = (if first = true then r.context else s.scan0) ∧
        v.scan1 = (if first = true then s.scan1 else r.context) ∧
        v.counter .scanIncomplete =
          min 65535 (s.counter .scanIncomplete + if other = true then 1 else 0) ∧
        v.counter .scanPassDiscarded = min 65535 (s.counter .scanPassDiscarded + r.discarded) ∧
        (∀ d, d ≠ .scanIncomplete → d ≠ .scanPassDiscarded → v.counter d = s.counter d) ∧
        v = { s with scan0 := v.scan0, scan1 := v.scan1, counters := v.counters })) ∧
  (∀ (c dropped b : ScanContext) (P : Nat) (g : Segment) (L : Option Nat) (bad : Prop)
      (joined : List Int),
    (bad ↔ g.count = 0 ∨ 32 < g.count ∨ (g.start = 0 ∧ ∀ l, g.length = some l → l < 16 ∨ 512 < l)) →
    L = (if c.passesDone = 0 then g.length else c.length) →
    dropped = { c with state := .awaitPass, pass := []
                       length := if c.passesDone = 0 then none else c.length } →
    joined = b.pass ++ g.samples.map (fun x => if x = -128 then -127 else x) →
    (c.state ≠ .inPass → g.start ≠ 0 → c.take P g = { context := c, discarded := 0, profile := none }) ∧
    (c.state ≠ .inPass → g.start = 0 →
      (bad ∨ g.pass ≠ c.passesDone ∨ (1 ≤ c.passesDone ∧ g.length ≠ c.length) ∨
        ∃ l, L = some l ∧ l < g.count) →
      c.take P g = { context := c, discarded := 1, profile := none }) ∧
    (c.state = .inPass → g.start = 0 →
      c.take P g = { dropped.take P g with discarded := (dropped.take P g).discarded + 1 }) ∧
    (c.state = .inPass → g.start ≠ 0 →
      (bad ∨ g.pass ≠ c.passesDone ∨ g.start ≠ c.pass.length ∨
        ∀ l, c.length = some l → l < g.start + g.count) →
      c.take P g = { context := dropped, discarded := 1, profile := none }) ∧
    (((c.state ≠ .inPass ∧ g.start = 0 ∧ ¬ bad ∧ g.pass = c.passesDone ∧
          (1 ≤ c.passesDone → g.length = c.length) ∧ (∀ l, L = some l → g.count ≤ l) ∧
          b = { c with length := L, pass := [] }) ∨
        (c.state = .inPass ∧ g.start ≠ 0 ∧ ¬ bad ∧ g.pass = c.passesDone ∧
          g.start = c.pass.length ∧ (∃ l, c.length = some l ∧ g.start + g.count ≤ l) ∧ b = c)) →
      (b.length ≠ some joined.length →
        c.take P g =
          { context := { b with state := .inPass, pass := joined }, discarded := 0
            profile := none }) ∧
      (b.length = some joined.length → b.passesDone + 1 < P →
        c.take P g =
          { context :=
              { b with
                state := .awaitPass, passesDone := b.passesDone + 1, pass := []
                sums := if b.passesDone = 0 then joined else List.zipWith (· + ·) b.sums joined }
            discarded := 0, profile := none }) ∧
      (b.length = some joined.length → P ≤ b.passesDone + 1 →
        ∃ profile, c.take P g =
            { context := { ScanContext.atReset with binding := b.binding }, discarded := 0
              profile := some profile } ∧
          ({ b with state := .inPass, pass := joined }.completePass P).profile = some profile))) ∧
  (∀ (p : Piece) (s : State), s.ItemLaws →
    (∀ (i : Nat) (it : Item), s.carries p.tray i → p.stamp = some (s.item i).ticket →
      it = (s.item i).withFinding (s.classRecord (s.item i).cls) p.finding →
      ((s.item i).state = .opened →
        it.complete (s.classRecord it.cls).required = true → s.writePiece p = s.enqueue i it) ∧
      ((s.item i).state = .opened →
        it.complete (s.classRecord it.cls).required = false → s.writePiece p = s.setItem i it) ∧
      ((s.item i).state ≠ .opened →
        s.writePiece p = (s.setItem i { s.item i with late := true }).bump .lateEvidence)) ∧
    ((∀ i, s.carries p.tray i → p.stamp ≠ some (s.item i).ticket) →
      s.writePiece p = s.bump .noItemEvidence))

/-- The settle filter (R78 to R80): a flagged sample that the hold settings skip does nothing, and another
empties the run or counts against a settled weight; a clean sample within the band of the run's first
sample adds to the run and another restarts it; at the settle count the mean of the run, halves rounded up,
is the settled weight; clean samples within the band of it keep it, and as many out of it in a row as the
unsettle count restart the filter. A negative sample counts as 0 g. That a count already past a settle or
unsettle count that has been lowered is treated as having reached it is the model's reading (log 14).
A WEIGH frame (R77, R81, R82) continues the station's context when tray and stamp are the same, and otherwise
closes an open one and opens it anew; the frame's samples are taken in order, and END closes the context
after them. Each context closed yields its settled weight as evidence for its own tray and stamp, or, when
it was still seeking, counts WEIGH_UNSETTLED; one frame may so yield two. -/
def Obligations.SettleFilter : Prop :=
  (∀ (k : StationConfig) (c : SettleContext) (m : Sample) (w : Nat), w = m.value.toNat →
     ((m.motion = true ∧ k.holdOnMotion = true) ∨ (m.overload = true ∧ k.holdOnOverload = true) →
       c.sample k m = c) ∧
     ((m.motion = true ∨ m.overload = true) → (m.motion = true → k.holdOnMotion = false) →
       (m.overload = true → k.holdOnOverload = false) →
       (c.phase = .seeking → c.sample k m = { c with reference := none, count := 0, sum := 0 }) ∧
       (c.phase = .settled → c.outCount + 1 < k.unsettleCount →
         c.sample k m = { c with outCount := c.outCount + 1 }) ∧
       (c.phase = .settled → k.unsettleCount ≤ c.outCount + 1 →
         c.sample k m = { tray := c.tray, stamp := c.stamp, phase := .seeking, reference := none,
                          count := 0, sum := 0, settledWeight := none, outCount := 0 })) ∧
     (m.motion = false → m.overload = false →
       (c.phase = .seeking →
         (c.reference = none ∨
           ∃ r, c.reference = some r ∧ k.band < ((w : Int) - (r : Int)).natAbs) →
         c.sample k m = { c with reference := some w, count := 1, sum := w }) ∧
       (∀ r, c.phase = .seeking → c.reference = some r → ((w : Int) - (r : Int)).natAbs ≤ k.band →
         (c.count + 1 < k.settleCount →
           c.sample k m = { c with count := c.count + 1, sum := c.sum + w }) ∧
         (k.settleCount ≤ c.count + 1 → ∃ mean : Nat,
           c.sample k m = { c with count := c.count + 1, sum := c.sum + w, phase := .settled,
                                   settledWeight := some mean, outCount := 0 } ∧
           2 * (c.sum + w) < (2 * mean + 1) * (c.count + 1) ∧
           (2 * mean) * (c.count + 1) ≤ 2 * (c.sum + w) + (c.count + 1))) ∧
       (∀ r, c.phase = .settled → c.settledWeight = some r →
         (((w : Int) - (r : Int)).natAbs ≤ k.band → c.sample k m = { c with outCount := 0 }) ∧
         (k.band < ((w : Int) - (r : Int)).natAbs → c.outCount + 1 < k.unsettleCount →
           c.sample k m = { c with outCount := c.outCount + 1 }) ∧
         (k.band < ((w : Int) - (r : Int)).natAbs → k.unsettleCount ≤ c.outCount + 1 →
           c.sample k m = { tray := c.tray, stamp := c.stamp, phase := .seeking,
                            reference := some w, count := 1, sum := w, settledWeight := none,
                            outCount := 0 })))) ∧
  (∀ (f : StampedFrame) (isEnd : Bool) (samples : List Sample) (k : StationConfig)
      (closed : Option SettleContext) (start c : SettleContext) (closes : List SettleContext)
      (s : State),
    f.body = .weigh isEnd samples → k = (s.station f.station).config →
    ((∃ o, s.settleContext f.station = some o ∧ o.tray = f.tray ∧ o.stamp = f.stamp ∧
        closed = none ∧ start = o) ∨
      ((s.settleContext f.station = none ∧ closed = none ∨
          ∃ o, s.settleContext f.station = some o ∧ (o.tray ≠ f.tray ∨ o.stamp ≠ f.stamp) ∧
            closed = some o) ∧
        start = { tray := f.tray, stamp := f.stamp, phase := .seeking, reference := none, count := 0,
                  sum := 0, settledWeight := none, outCount := 0 })) →
    c = samples.foldl (fun c m => c.sample k m) start →
    closes = closed.toList ++ (if isEnd = true then [c] else []) →
    ∃ v : State, takeFrame f s =
        ((closes.filter fun o => decide (o.phase = .settled)).map fun o =>
          { tray := o.tray, stamp := o.stamp, finding := .weight (o.settledWeight.getD 0) }, v) ∧
      v.settleContext f.station = (if isEnd = true then none else some c) ∧
      (∀ a, a ≠ f.station → v.settleContext a = s.settleContext a) ∧
      v.counter .weighUnsettled = min 65535
        (s.counter .weighUnsettled + closes.countP fun o => decide (o.phase = .seeking)) ∧
      (∀ d, d ≠ .weighUnsettled → v.counter d = s.counter d) ∧
      v = { s with settle := v.settle, counters := v.counters })

/-! ### Grading -/

/-- The Grade Computer's fetch, computation and write-back (R105 to R111, R117 to R121, R123): a granted
fetch takes the head of the queue and copies the item and its class, and under CHAINED keeps the store;
COMPUTATION_DONE asks for the write-back access, or under a chain writes back at once and frees the store;
a write-back whose item is no longer the one fetched changes nothing, and otherwise gives the item its
score, grade, disposition, reason, bin and chute and counts them; then the next fetch is posted. That a
COMPUTATION_DONE with nothing computing changes nothing is the model's choice (log 9), as is that the fetch
and the write-back close the raises a snapshot divides (log 18). -/
def Obligations.Grading : Prop :=
  (∀ s : State, s.resetN = true → s.arbiter.holder = none → s.arbiter.choice = some .gc →
    s.grader = .fetchWait →
    (s.gradeQueue = [] →
      exec .storeAccessGrant s = .next { s.markGranted .gc with grader := .idle }) ∧
    (∀ (i : Nat) (rest : List Nat) (it : Item), s.gradeQueue = i :: rest → it = s.item i →
      exec .storeAccessGrant s = .next
        { s.closeRaises.setItem i { it with state := .grading } with
          gradeQueue := rest
          grader := .computing
            { index := i, ticket := it.ticket, tray := it.tray, cls := it.cls,
              nominal := it.nominal, band := it.band, hygiene := it.hygiene,
              noManifest := it.noManifest, excessUnit := it.excessUnit, weight := it.weight,
              tag := it.tag, scan := it.scan, wear := it.wear, valid := s.classValid it.cls,
              record := s.classRecord it.cls }
          arbiter :=
            { s.arbiter with
              waiting := { s.arbiter.waiting with gc := false }, pointer := .gc
              holder := if s.arbiter.strategy = .chained then some .gc else none
              chain := if s.arbiter.strategy = .chained then true else s.arbiter.chain } })) ∧
  (∀ (m : Moment) (c : GradeCopy) (s : State), s.resetN = true → s.grader = .computing c →
    (s.arbiter.chain = false → s.arbiter.grantsAtOnce .gc m = false →
      exec (.computationDone m) s = .next
        { s with
          grader := .writeWait c (computeResult c)
          arbiter := { s.arbiter with waiting := { s.arbiter.waiting with gc := true } } }) ∧
    (s.arbiter.chain = false → s.arbiter.grantsAtOnce .gc m = true →
      exec (.computationDone m) s =
        .next (gradingWriteBack c (computeResult c) (s.markGranted .gc))) ∧
    (s.arbiter.chain = true → (∀ tag r, s.linePort.phase = .executing tag r →
        r ≠ .fullReset ∧ r ≠ .lineRestart) →
      ∃ u : State, u = gradingWriteBack c (computeResult c) s.closeRaises ∧
        exec (.computationDone m) s =
          .next { u with arbiter := { u.arbiter with holder := none, chain := false } })) ∧
  (∀ (m : Moment) (s : State), (∀ c, s.grader ≠ .computing c) →
    exec (.computationDone m) s = .next s) ∧
  (∀ (c : GradeCopy) (r : Option GradeResult) (s : State), s.resetN = true →
    s.arbiter.holder = none → s.arbiter.choice = some .gc → s.grader = .writeWait c r →
    exec .storeAccessGrant s = .next (gradingWriteBack c r (s.markGranted .gc))) ∧
  (∀ (c : GradeCopy) (r : Option GradeResult) (s : State),
    ((gradingWriteBack c r s).gradeQueue = s.gradeQueue ∧
      (s.gradeQueue = [] → (gradingWriteBack c r s).grader = .idle ∧
        (gradingWriteBack c r s).arbiter = s.arbiter) ∧
      (s.gradeQueue ≠ [] → (gradingWriteBack c r s).grader = .fetchWait ∧
        (gradingWriteBack c r s).arbiter =
          { s.arbiter with waiting := { s.arbiter.waiting with gc := true } })) ∧
    (((s.item c.index).state ≠ .grading ∨ (s.item c.index).ticket ≠ c.ticket) →
      gradingWriteBack c r s =
        { s with grader := (gradingWriteBack c r s).grader
                 arbiter := (gradingWriteBack c r s).arbiter }) ∧
    (∀ (d : Disposition) (why : Reason) (base it : Item) (lane : Lane) (u : State),
      (s.item c.index).state = .grading → (s.item c.index).ticket = c.ticket →
      decideDisposition c r = (d, why) →
      base = { s.item c.index with
                state := .decided, score := r.map (·.score), grade := r.map (·.grade) } →
      u = gradingWriteBack c r s → it = u.item c.index →
      ((d ≠ .restockNew → d ≠ .restockSecond → s.line.chuteFor d ≠ 0 →
          it = { base with disposition := some d, reason := why, bin := none,
                           chute := some (s.line.chuteFor d) } ∧ u.bins = s.bins ∧
          u.counter .noSlot = s.counter .noSlot) ∧
        (d ≠ .restockNew → d ≠ .restockSecond → s.line.chuteFor d = 0 →
          it = { base with disposition := some .review, reason := .noChute, bin := none,
                           chute := some s.line.reviewChute } ∧ u.bins = s.bins ∧
          u.counter .noSlot = s.counter .noSlot) ∧
        (((d = .restockNew ∧ lane = .new) ∨ (d = .restockSecond ∧ lane = .second)) →
          (∀ b, s.searchBin c.record.prefs c.cls lane = some b →
            it = { base with disposition := some d, reason := why, bin := some b,
                             chute := some (s.zone (s.bin b).zone).chute } ∧
            (s.mode = .run → u.bin b = { s.bin b with
                reserved := (s.bin b).reserved + 1, cls := some ((s.bin b).cls.getD c.cls) } ∧
              ∀ e, e ≠ b → u.bin e = s.bin e) ∧
            (s.mode ≠ .run → u.bins = s.bins) ∧ u.counter .noSlot = s.counter .noSlot) ∧
          (s.searchBin c.record.prefs c.cls lane = none →
            it = { base with
                    disposition := some .review, bin := none, chute := some s.line.reviewChute
                    reason := if s.line.reviewChute = 0 then .noChute else .noSlot } ∧
            u.bins = s.bins ∧ u.counter .noSlot = min 65535 (s.counter .noSlot + 1))) ∧
        u.counter .reviewed = (if it.disposition = some .review
          then min 65535 (s.counter .reviewed + 1) else s.counter .reviewed) ∧
        (∀ g, (∃ x, r = some x ∧ x.grade = g) →
          u.counter (Grade.counter g) = min 65535 (s.counter (Grade.counter g) + 1)) ∧
        (∀ g, (¬ ∃ x, r = some x ∧ x.grade = g) →
          u.counter (Grade.counter g) = s.counter (Grade.counter g)) ∧
        (∀ e, e ≠ .noSlot → e ≠ .reviewed → (∀ g, e ≠ Grade.counter g) →
          u.counter e = s.counter e) ∧
        (∀ j, j ≠ c.index → u.item j = s.item j) ∧
        u = { s with items := u.items, bins := u.bins, counters := u.counters,
                     grader := u.grader, arbiter := u.arbiter }))) ∧
  (∀ (c : GradeCopy) (x : GradeResult) (wrong gross breach : Bool),
    (wrong = true ↔ ∃ t k, c.tag = some t ∧ t.sku = some k ∧ k ≠ c.cls) →
    (gross = true ↔ ∃ w n, c.weight = some w ∧ c.nominal = some n ∧
      c.record.grossFactor * allowance c.record n < ((w : Int) - (n : Int)).natAbs) →
    (breach = true ↔ c.hygiene = true ∧ ∀ t, c.tag = some t → t.tag ≠ .intact) →
    (c.noManifest = true → ∀ y, decideDisposition c y = (.review, .noManifest)) ∧
    (c.noManifest = false → decideDisposition c none = (.review, .noClass)) ∧
    (c.noManifest = false → decideDisposition c (some x) =
      if c.excessUnit = true then (.review, .excessUnit)
      else if wrong = true then (.review, .wrongItem)
      else if gross = true then (.review, .weightGross)
      else if breach = true then (.recycle, .hygiene)
      else if x.grade ≠ .a ∧ (∃ b, c.band = some b ∧ c.record.highBand ≤ b)
        then (.review, .highValue)
      else (match x.grade with
        | .a => c.record.mapA | .b => c.record.mapB | .c => c.record.mapC | .d => c.record.mapD,
        .none)))

/-- Score and grade (R116), and the four terms they are computed from (R112 to R115). That bit i of a
required set is the i-th kind is the model's reading (log 15).
The scan evidence the scan term weighs (R98 to R102): the runs are the longest stretches of qualifying
positions of one polarity (where a worked case counts otherwise, the rule is followed: log 24); a run is
accepted unless it begins within the shadow of an accepted run before it; each accepted run has as its peak
its earliest position of greatest magnitude; their number, held at 255, is the total; and the four strongest
are kept in order of position, the earlier of two equals ranking first. -/
def Obligations.ScoreAndGrade : Prop :=
  (∀ c : GradeCopy,
    (c.valid = false → computeResult c = none) ∧
    (c.valid = true → ∃ (score : Nat) (grade : Grade),
      computeResult c = some { score := score, grade := grade } ∧
      score = min 1000 (weightTerm c + scanTerm c + wearTerm c + tagTerm c) ∧ score ≤ 1000 ∧
      (grade = .a ↔ score ≤ c.record.limA) ∧
      (grade = .b ↔ c.record.limA < score ∧ score ≤ c.record.limB) ∧
      (c.record.limA ≤ c.record.limB →
        (grade = .c ↔ c.record.limB < score ∧ score ≤ c.record.limC) ∧
        (c.record.limB ≤ c.record.limC → (grade = .d ↔ c.record.limC < score))) ∧
      (c.record.limA = c.record.limB → grade ≠ .b) ∧
      (c.record.limC = 1000 → grade ≠ .d) ∧ (score = 0 → grade = .a)) ∧
    (∀ (s : State) (it : Item), s.stillGrading c = true →
      it = (gradingWriteBack c (computeResult c) s).item c.index →
      it.score = (computeResult c).map (·.score) ∧ it.grade = (computeResult c).map (·.grade) ∧
      ∀ mode, (Report.ofItem mode it).score = it.score ∧
        (Report.ofItem mode it).grade = it.grade)) ∧
  (∀ c : GradeCopy,
    (c.record.required.getLsbD 0 = false → weightTerm c = 0) ∧
    (c.record.required.getLsbD 1 = false → tagTerm c = 0) ∧
    (c.record.required.getLsbD 2 = false → scanTerm c = 0) ∧
    (c.record.required.getLsbD 3 = false → wearTerm c = 0) ∧
    (c.record.required.getLsbD 0 = true →
      (c.nominal = none → weightTerm c = 0) ∧
      (∀ n, c.nominal = some n → c.weight = none → weightTerm c = c.record.wCap) ∧
      (∀ n w allow diff, c.nominal = some n → c.weight = some w →
        allow = max 1 (max c.record.tolFloor ⌈((n * c.record.tolPermille : Nat) : ℚ) / 1000⌉₊) →
        diff = ((w : Int) - (n : Int)).natAbs →
        weightTerm c = min c.record.wCap ((diff - allow) * c.record.kw / allow))) ∧
    (c.record.required.getLsbD 1 = true →
      (c.tag = none → tagTerm c = c.record.ptAbs) ∧
      (∀ t, c.tag = some t →
        (t.tag = .intact → tagTerm c = 0) ∧ (t.tag = .detached → tagTerm c = c.record.ptDet) ∧
        (t.tag = .absent ∨ t.tag = .unread → tagTerm c = c.record.ptAbs))) ∧
    (c.record.required.getLsbD 2 = true →
      (c.scan = none → scanTerm c = c.record.sCap) ∧
      (∀ e, c.scan = some e → scanTerm c = min c.record.sCap
        ((e.peaks.map fun p =>
            (p.amp.natAbs + 1 - c.record.threshold) *
              (if p.amp < 0 then c.record.kDark else c.record.kLight)).sum +
          (e.total - e.peaks.length) * c.record.kx))) ∧
    (c.record.required.getLsbD 3 = true →
      (c.wear = none → wearTerm c = c.record.uCap) ∧
      (∀ w, c.wear = some w → wearTerm c = min c.record.uCap
        ((w.index - c.record.uFree) * c.record.ku / 16 +
          if w.pilling = true then c.record.pPill else 0)))) ∧
  (∀ (k : ClassRecord) (profile : List Int) (qualifying : Nat → Prop) (run : Nat × Nat → Prop),
    (∀ i, qualifying i ↔ k.skip ≤ i ∧ ∃ x, profile[i]? = some x ∧ k.threshold ≤ x.natAbs) →
    (∀ x, run x ↔ x.1 ≤ x.2 ∧
      (∀ i, x.1 ≤ i → i ≤ x.2 →
        qualifying i ∧ (profile.getD i 0 < 0 ↔ profile.getD x.1 0 < 0)) ∧
      (∀ i, i + 1 = x.1 → ¬ (qualifying i ∧ (profile.getD i 0 < 0 ↔ profile.getD x.1 0 < 0))) ∧
      ¬ (qualifying (x.2 + 1) ∧ (profile.getD (x.2 + 1) 0 < 0 ↔ profile.getD x.1 0 < 0))) →
    ∃ (accepted : List (Nat × Nat)) (peaks : List Peak),
      accepted.Pairwise (fun x y => x.2 < y.1) ∧
      (∀ x, x ∈ accepted ↔ run x ∧ ∀ y ∈ accepted, y.2 < x.1 → k.shadow < x.1 - y.2) ∧
      List.Forall₂ (fun x p => x.1 ≤ p.pos ∧ p.pos ≤ x.2 ∧ p.amp = profile.getD p.pos 0 ∧
        ∀ i, x.1 ≤ i → i ≤ x.2 → (profile.getD i 0).natAbs < p.amp.natAbs ∨
          ((profile.getD i 0).natAbs = p.amp.natAbs ∧ p.pos ≤ i)) accepted peaks ∧
      (extractPeaks k profile).total = min 255 accepted.length ∧
      (extractPeaks k profile).peaks.length = min 4 accepted.length ∧
      (extractPeaks k profile).peaks = peaks.filter fun p =>
        decide ((peaks.countP fun q => decide (p.amp.natAbs < q.amp.natAbs ∨
          (p.amp.natAbs = q.amp.natAbs ∧ q.pos < p.pos))) < 4))

/-- Averaging (R97): each averaged value is the sum at its position divided by P, rounded to the nearest
whole number and halves away from zero; sums and values stay in their ranges; the profile has the pass
length. -/
def Obligations.Averaging : Prop :=
  ∀ (c : ScanContext) (P L : Nat), c.passesDone + 1 = P → c.pass.length = L →
    (∀ x ∈ c.pass, -127 ≤ x ∧ x ≤ 127) →
    (1 ≤ c.passesDone → c.sums.length = L ∧
      ∀ x ∈ c.sums, -127 * (c.passesDone : Int) ≤ x ∧ x ≤ 127 * (c.passesDone : Int)) →
    ∃ profile : List Int, (c.completePass P).profile = some profile ∧ profile.length = L ∧
      ∀ i, i < L → ∃ sum value : Int,
        sum = c.pass.getD i 0 + (if c.passesDone = 0 then 0 else c.sums.getD i 0) ∧
        value = profile.getD i 0 ∧
        -127 * (P : Int) ≤ sum ∧ sum ≤ 127 * (P : Int) ∧ -127 ≤ value ∧ value ≤ 127 ∧
        2 * (P * value - sum).natAbs ≤ P ∧
        (2 * (P * value - sum).natAbs = P → sum.natAbs < (P * value).natAbs)

/-! ### What every step keeps -/

/-- The law of the report pool and the wait list (R23, R175), the limits of the counted quantities (R2,
R67, R180) and the canonical form of every table: every step keeps them. That the tables are written in
that form is the model's choice (log 26). -/
def Obligations.CountsAndTablesKept : Prop :=
  (∀ s t : State, s.PoolLaw → step s = .next t → t.PoolLaw) ∧
  (∀ s t : State, s.LimitLaw → step s = .next t → t.LimitLaw) ∧
  (∀ s t : State, s.TablesCanonical → step s = .next t → t.TablesCanonical)

/-- The laws of the items (R1, R3, R23, R105): every step keeps the Tray Index, the Grade Queue and the
wait list agreeing with the items' states. -/
def Obligations.ItemLawsKept : Prop :=
  ∀ s t : State, s.ItemLaws → step s = .next t → t.ItemLaws

/-- Every step keeps committed + reserved within each bin's capacity (R131), and each bin's reserved count
the number of items holding a reservation in it (R138). -/
def Obligations.BinLawsKept : Prop :=
  (∀ s t : State, s.BinLaw → step s = .next t → t.BinLaw) ∧
  (∀ s t : State, s.ItemLaws → s.ReservationLaw → step s = .next t → t.ReservationLaw)

/-- Every step keeps the round controller's law (R51, R53, R58, R59). -/
def Obligations.ControllerLawKept : Prop :=
  ∀ s t : State, s.ControllerLaw → step s = .next t → t.ControllerLaw

/-- Every step keeps the clients' standing to the arbiter (R106, R150, R152, R156, R161). That between
steps the store is held only in a chain is the model's choice, since an access is taken whole inside one
step (log 7). -/
def Obligations.ClientLawKept : Prop :=
  ∀ s t : State, s.ClientLaw → step s = .next t → t.ClientLaw

/-- Every law that a step keeps holds after reset: of the pool, the limits, the tables, the items, the
bins, the reservations, the round controller and the clients. -/
def Obligations.LawsHoldAtReset : Prop :=
  State.reset.PoolLaw ∧ State.reset.LimitLaw ∧ State.reset.TablesCanonical ∧
    State.reset.ItemLaws ∧ State.reset.BinLaw ∧ State.reset.ReservationLaw ∧
    State.reset.ControllerLaw ∧ State.reset.ClientLaw

end
end

