-- ==== Sys2Proof/Laws/State.lean ====
section
/-! SUPPORT. What each update of the state leaves alone: one lemma for each field of each update. -/

namespace Sys2Proof.Machine

/-! ### setItem -/

@[simp] theorem State.setItem_resetN (s : State) (i : Nat) (it : Item) :
    (s.setItem i it).resetN = s.resetN := rfl
@[simp] theorem State.setItem_mode (s : State) (i : Nat) (it : Item) :
    (s.setItem i it).mode = s.mode := rfl
@[simp] theorem State.setItem_nextTicket (s : State) (i : Nat) (it : Item) :
    (s.setItem i it).nextTicket = s.nextTicket := rfl
@[simp] theorem State.setItem_trayIndex (s : State) (i : Nat) (it : Item) :
    (s.setItem i it).trayIndex = s.trayIndex := rfl
@[simp] theorem State.setItem_gradeQueue (s : State) (i : Nat) (it : Item) :
    (s.setItem i it).gradeQueue = s.gradeQueue := rfl
@[simp] theorem State.setItem_manifests (s : State) (i : Nat) (it : Item) :
    (s.setItem i it).manifests = s.manifests := rfl
@[simp] theorem State.setItem_classes (s : State) (i : Nat) (it : Item) :
    (s.setItem i it).classes = s.classes := rfl
@[simp] theorem State.setItem_line (s : State) (i : Nat) (it : Item) :
    (s.setItem i it).line = s.line := rfl
@[simp] theorem State.setItem_bins (s : State) (i : Nat) (it : Item) :
    (s.setItem i it).bins = s.bins := rfl
@[simp] theorem State.setItem_zones (s : State) (i : Nat) (it : Item) :
    (s.setItem i it).zones = s.zones := rfl
@[simp] theorem State.setItem_urgent (s : State) (i : Nat) (it : Item) :
    (s.setItem i it).urgent = s.urgent := rfl
@[simp] theorem State.setItem_routine (s : State) (i : Nat) (it : Item) :
    (s.setItem i it).routine = s.routine := rfl
@[simp] theorem State.setItem_waitList (s : State) (i : Nat) (it : Item) :
    (s.setItem i it).waitList = s.waitList := rfl
@[simp] theorem State.setItem_arbiter (s : State) (i : Nat) (it : Item) :
    (s.setItem i it).arbiter = s.arbiter := rfl
@[simp] theorem State.setItem_stations (s : State) (i : Nat) (it : Item) :
    (s.setItem i it).stations = s.stations := rfl
@[simp] theorem State.setItem_link (s : State) (i : Nat) (it : Item) :
    (s.setItem i it).link = s.link := rfl
@[simp] theorem State.setItem_schedule (s : State) (i : Nat) (it : Item) :
    (s.setItem i it).schedule = s.schedule := rfl
@[simp] theorem State.setItem_controller (s : State) (i : Nat) (it : Item) :
    (s.setItem i it).controller = s.controller := rfl
@[simp] theorem State.setItem_fifo (s : State) (i : Nat) (it : Item) :
    (s.setItem i it).fifo = s.fifo := rfl
@[simp] theorem State.setItem_collector (s : State) (i : Nat) (it : Item) :
    (s.setItem i it).collector = s.collector := rfl
@[simp] theorem State.setItem_settle (s : State) (i : Nat) (it : Item) :
    (s.setItem i it).settle = s.settle := rfl
@[simp] theorem State.setItem_scan0 (s : State) (i : Nat) (it : Item) :
    (s.setItem i it).scan0 = s.scan0 := rfl
@[simp] theorem State.setItem_scan1 (s : State) (i : Nat) (it : Item) :
    (s.setItem i it).scan1 = s.scan1 := rfl
@[simp] theorem State.setItem_grader (s : State) (i : Nat) (it : Item) :
    (s.setItem i it).grader = s.grader := rfl
@[simp] theorem State.setItem_linePort (s : State) (i : Nat) (it : Item) :
    (s.setItem i it).linePort = s.linePort := rfl
@[simp] theorem State.setItem_sorterPort (s : State) (i : Nat) (it : Item) :
    (s.setItem i it).sorterPort = s.sorterPort := rfl
@[simp] theorem State.setItem_sticky (s : State) (i : Nat) (it : Item) :
    (s.setItem i it).sticky = s.sticky := rfl
@[simp] theorem State.setItem_counters (s : State) (i : Nat) (it : Item) :
    (s.setItem i it).counters = s.counters := rfl
@[simp] theorem State.setItem_snapshot (s : State) (i : Nat) (it : Item) :
    (s.setItem i it).snapshot = s.snapshot := rfl
@[simp] theorem State.setItem_lamps (s : State) (i : Nat) (it : Item) :
    (s.setItem i it).lamps = s.lamps := rfl
@[simp] theorem State.setItem_blinkLit (s : State) (i : Nat) (it : Item) :
    (s.setItem i it).blinkLit = s.blinkLit := rfl
@[simp] theorem State.setItem_linkTxd (s : State) (i : Nat) (it : Item) :
    (s.setItem i it).linkTxd = s.linkTxd := rfl
@[simp] theorem State.setItem_freeReads (s : State) (i : Nat) (it : Item) :
    (s.setItem i it).freeReads = s.freeReads := rfl
@[simp] theorem State.setItem_pending (s : State) (i : Nat) (it : Item) :
    (s.setItem i it).pending = s.pending := rfl

/-! ### setBin -/

@[simp] theorem State.setBin_resetN (s : State) (b : Nat) (r : Bin) :
    (s.setBin b r).resetN = s.resetN := rfl
@[simp] theorem State.setBin_mode (s : State) (b : Nat) (r : Bin) :
    (s.setBin b r).mode = s.mode := rfl
@[simp] theorem State.setBin_items (s : State) (b : Nat) (r : Bin) :
    (s.setBin b r).items = s.items := rfl
@[simp] theorem State.setBin_nextTicket (s : State) (b : Nat) (r : Bin) :
    (s.setBin b r).nextTicket = s.nextTicket := rfl
@[simp] theorem State.setBin_trayIndex (s : State) (b : Nat) (r : Bin) :
    (s.setBin b r).trayIndex = s.trayIndex := rfl
@[simp] theorem State.setBin_gradeQueue (s : State) (b : Nat) (r : Bin) :
    (s.setBin b r).gradeQueue = s.gradeQueue := rfl
@[simp] theorem State.setBin_manifests (s : State) (b : Nat) (r : Bin) :
    (s.setBin b r).manifests = s.manifests := rfl
@[simp] theorem State.setBin_classes (s : State) (b : Nat) (r : Bin) :
    (s.setBin b r).classes = s.classes := rfl
@[simp] theorem State.setBin_line (s : State) (b : Nat) (r : Bin) :
    (s.setBin b r).line = s.line := rfl
@[simp] theorem State.setBin_zones (s : State) (b : Nat) (r : Bin) :
    (s.setBin b r).zones = s.zones := rfl
@[simp] theorem State.setBin_urgent (s : State) (b : Nat) (r : Bin) :
    (s.setBin b r).urgent = s.urgent := rfl
@[simp] theorem State.setBin_routine (s : State) (b : Nat) (r : Bin) :
    (s.setBin b r).routine = s.routine := rfl
@[simp] theorem State.setBin_waitList (s : State) (b : Nat) (r : Bin) :
    (s.setBin b r).waitList = s.waitList := rfl
@[simp] theorem State.setBin_arbiter (s : State) (b : Nat) (r : Bin) :
    (s.setBin b r).arbiter = s.arbiter := rfl
@[simp] theorem State.setBin_stations (s : State) (b : Nat) (r : Bin) :
    (s.setBin b r).stations = s.stations := rfl
@[simp] theorem State.setBin_link (s : State) (b : Nat) (r : Bin) :
    (s.setBin b r).link = s.link := rfl
@[simp] theorem State.setBin_schedule (s : State) (b : Nat) (r : Bin) :
    (s.setBin b r).schedule = s.schedule := rfl
@[simp] theorem State.setBin_controller (s : State) (b : Nat) (r : Bin) :
    (s.setBin b r).controller = s.controller := rfl
@[simp] theorem State.setBin_fifo (s : State) (b : Nat) (r : Bin) :
    (s.setBin b r).fifo = s.fifo := rfl
@[simp] theorem State.setBin_collector (s : State) (b : Nat) (r : Bin) :
    (s.setBin b r).collector = s.collector := rfl
@[simp] theorem State.setBin_settle (s : State) (b : Nat) (r : Bin) :
    (s.setBin b r).settle = s.settle := rfl
@[simp] theorem State.setBin_scan0 (s : State) (b : Nat) (r : Bin) :
    (s.setBin b r).scan0 = s.scan0 := rfl
@[simp] theorem State.setBin_scan1 (s : State) (b : Nat) (r : Bin) :
    (s.setBin b r).scan1 = s.scan1 := rfl
@[simp] theorem State.setBin_grader (s : State) (b : Nat) (r : Bin) :
    (s.setBin b r).grader = s.grader := rfl
@[simp] theorem State.setBin_linePort (s : State) (b : Nat) (r : Bin) :
    (s.setBin b r).linePort = s.linePort := rfl
@[simp] theorem State.setBin_sorterPort (s : State) (b : Nat) (r : Bin) :
    (s.setBin b r).sorterPort = s.sorterPort := rfl
@[simp] theorem State.setBin_sticky (s : State) (b : Nat) (r : Bin) :
    (s.setBin b r).sticky = s.sticky := rfl
@[simp] theorem State.setBin_counters (s : State) (b : Nat) (r : Bin) :
    (s.setBin b r).counters = s.counters := rfl
@[simp] theorem State.setBin_snapshot (s : State) (b : Nat) (r : Bin) :
    (s.setBin b r).snapshot = s.snapshot := rfl
@[simp] theorem State.setBin_lamps (s : State) (b : Nat) (r : Bin) :
    (s.setBin b r).lamps = s.lamps := rfl
@[simp] theorem State.setBin_blinkLit (s : State) (b : Nat) (r : Bin) :
    (s.setBin b r).blinkLit = s.blinkLit := rfl
@[simp] theorem State.setBin_linkTxd (s : State) (b : Nat) (r : Bin) :
    (s.setBin b r).linkTxd = s.linkTxd := rfl
@[simp] theorem State.setBin_freeReads (s : State) (b : Nat) (r : Bin) :
    (s.setBin b r).freeReads = s.freeReads := rfl
@[simp] theorem State.setBin_pending (s : State) (b : Nat) (r : Bin) :
    (s.setBin b r).pending = s.pending := rfl

/-! ### setZone -/

@[simp] theorem State.setZone_resetN (s : State) (z : Nat) (r : Zone) :
    (s.setZone z r).resetN = s.resetN := rfl
@[simp] theorem State.setZone_mode (s : State) (z : Nat) (r : Zone) :
    (s.setZone z r).mode = s.mode := rfl
@[simp] theorem State.setZone_items (s : State) (z : Nat) (r : Zone) :
    (s.setZone z r).items = s.items := rfl
@[simp] theorem State.setZone_nextTicket (s : State) (z : Nat) (r : Zone) :
    (s.setZone z r).nextTicket = s.nextTicket := rfl
@[simp] theorem State.setZone_trayIndex (s : State) (z : Nat) (r : Zone) :
    (s.setZone z r).trayIndex = s.trayIndex := rfl
@[simp] theorem State.setZone_gradeQueue (s : State) (z : Nat) (r : Zone) :
    (s.setZone z r).gradeQueue = s.gradeQueue := rfl
@[simp] theorem State.setZone_manifests (s : State) (z : Nat) (r : Zone) :
    (s.setZone z r).manifests = s.manifests := rfl
@[simp] theorem State.setZone_classes (s : State) (z : Nat) (r : Zone) :
    (s.setZone z r).classes = s.classes := rfl
@[simp] theorem State.setZone_line (s : State) (z : Nat) (r : Zone) :
    (s.setZone z r).line = s.line := rfl
@[simp] theorem State.setZone_bins (s : State) (z : Nat) (r : Zone) :
    (s.setZone z r).bins = s.bins := rfl
@[simp] theorem State.setZone_urgent (s : State) (z : Nat) (r : Zone) :
    (s.setZone z r).urgent = s.urgent := rfl
@[simp] theorem State.setZone_routine (s : State) (z : Nat) (r : Zone) :
    (s.setZone z r).routine = s.routine := rfl
@[simp] theorem State.setZone_waitList (s : State) (z : Nat) (r : Zone) :
    (s.setZone z r).waitList = s.waitList := rfl
@[simp] theorem State.setZone_arbiter (s : State) (z : Nat) (r : Zone) :
    (s.setZone z r).arbiter = s.arbiter := rfl
@[simp] theorem State.setZone_stations (s : State) (z : Nat) (r : Zone) :
    (s.setZone z r).stations = s.stations := rfl
@[simp] theorem State.setZone_link (s : State) (z : Nat) (r : Zone) :
    (s.setZone z r).link = s.link := rfl
@[simp] theorem State.setZone_schedule (s : State) (z : Nat) (r : Zone) :
    (s.setZone z r).schedule = s.schedule := rfl
@[simp] theorem State.setZone_controller (s : State) (z : Nat) (r : Zone) :
    (s.setZone z r).controller = s.controller := rfl
@[simp] theorem State.setZone_fifo (s : State) (z : Nat) (r : Zone) :
    (s.setZone z r).fifo = s.fifo := rfl
@[simp] theorem State.setZone_collector (s : State) (z : Nat) (r : Zone) :
    (s.setZone z r).collector = s.collector := rfl
@[simp] theorem State.setZone_settle (s : State) (z : Nat) (r : Zone) :
    (s.setZone z r).settle = s.settle := rfl
@[simp] theorem State.setZone_scan0 (s : State) (z : Nat) (r : Zone) :
    (s.setZone z r).scan0 = s.scan0 := rfl
@[simp] theorem State.setZone_scan1 (s : State) (z : Nat) (r : Zone) :
    (s.setZone z r).scan1 = s.scan1 := rfl
@[simp] theorem State.setZone_grader (s : State) (z : Nat) (r : Zone) :
    (s.setZone z r).grader = s.grader := rfl
@[simp] theorem State.setZone_linePort (s : State) (z : Nat) (r : Zone) :
    (s.setZone z r).linePort = s.linePort := rfl
@[simp] theorem State.setZone_sorterPort (s : State) (z : Nat) (r : Zone) :
    (s.setZone z r).sorterPort = s.sorterPort := rfl
@[simp] theorem State.setZone_sticky (s : State) (z : Nat) (r : Zone) :
    (s.setZone z r).sticky = s.sticky := rfl
@[simp] theorem State.setZone_counters (s : State) (z : Nat) (r : Zone) :
    (s.setZone z r).counters = s.counters := rfl
@[simp] theorem State.setZone_snapshot (s : State) (z : Nat) (r : Zone) :
    (s.setZone z r).snapshot = s.snapshot := rfl
@[simp] theorem State.setZone_lamps (s : State) (z : Nat) (r : Zone) :
    (s.setZone z r).lamps = s.lamps := rfl
@[simp] theorem State.setZone_blinkLit (s : State) (z : Nat) (r : Zone) :
    (s.setZone z r).blinkLit = s.blinkLit := rfl
@[simp] theorem State.setZone_linkTxd (s : State) (z : Nat) (r : Zone) :
    (s.setZone z r).linkTxd = s.linkTxd := rfl
@[simp] theorem State.setZone_freeReads (s : State) (z : Nat) (r : Zone) :
    (s.setZone z r).freeReads = s.freeReads := rfl
@[simp] theorem State.setZone_pending (s : State) (z : Nat) (r : Zone) :
    (s.setZone z r).pending = s.pending := rfl

/-! ### setStation -/

@[simp] theorem State.setStation_resetN (s : State) (a : Nat) (e : Station) :
    (s.setStation a e).resetN = s.resetN := rfl
@[simp] theorem State.setStation_mode (s : State) (a : Nat) (e : Station) :
    (s.setStation a e).mode = s.mode := rfl
@[simp] theorem State.setStation_items (s : State) (a : Nat) (e : Station) :
    (s.setStation a e).items = s.items := rfl
@[simp] theorem State.setStation_nextTicket (s : State) (a : Nat) (e : Station) :
    (s.setStation a e).nextTicket = s.nextTicket := rfl
@[simp] theorem State.setStation_trayIndex (s : State) (a : Nat) (e : Station) :
    (s.setStation a e).trayIndex = s.trayIndex := rfl
@[simp] theorem State.setStation_gradeQueue (s : State) (a : Nat) (e : Station) :
    (s.setStation a e).gradeQueue = s.gradeQueue := rfl
@[simp] theorem State.setStation_manifests (s : State) (a : Nat) (e : Station) :
    (s.setStation a e).manifests = s.manifests := rfl
@[simp] theorem State.setStation_classes (s : State) (a : Nat) (e : Station) :
    (s.setStation a e).classes = s.classes := rfl
@[simp] theorem State.setStation_line (s : State) (a : Nat) (e : Station) :
    (s.setStation a e).line = s.line := rfl
@[simp] theorem State.setStation_bins (s : State) (a : Nat) (e : Station) :
    (s.setStation a e).bins = s.bins := rfl
@[simp] theorem State.setStation_zones (s : State) (a : Nat) (e : Station) :
    (s.setStation a e).zones = s.zones := rfl
@[simp] theorem State.setStation_urgent (s : State) (a : Nat) (e : Station) :
    (s.setStation a e).urgent = s.urgent := rfl
@[simp] theorem State.setStation_routine (s : State) (a : Nat) (e : Station) :
    (s.setStation a e).routine = s.routine := rfl
@[simp] theorem State.setStation_waitList (s : State) (a : Nat) (e : Station) :
    (s.setStation a e).waitList = s.waitList := rfl
@[simp] theorem State.setStation_arbiter (s : State) (a : Nat) (e : Station) :
    (s.setStation a e).arbiter = s.arbiter := rfl
@[simp] theorem State.setStation_link (s : State) (a : Nat) (e : Station) :
    (s.setStation a e).link = s.link := rfl
@[simp] theorem State.setStation_schedule (s : State) (a : Nat) (e : Station) :
    (s.setStation a e).schedule = s.schedule := rfl
@[simp] theorem State.setStation_controller (s : State) (a : Nat) (e : Station) :
    (s.setStation a e).controller = s.controller := rfl
@[simp] theorem State.setStation_fifo (s : State) (a : Nat) (e : Station) :
    (s.setStation a e).fifo = s.fifo := rfl
@[simp] theorem State.setStation_collector (s : State) (a : Nat) (e : Station) :
    (s.setStation a e).collector = s.collector := rfl
@[simp] theorem State.setStation_settle (s : State) (a : Nat) (e : Station) :
    (s.setStation a e).settle = s.settle := rfl
@[simp] theorem State.setStation_scan0 (s : State) (a : Nat) (e : Station) :
    (s.setStation a e).scan0 = s.scan0 := rfl
@[simp] theorem State.setStation_scan1 (s : State) (a : Nat) (e : Station) :
    (s.setStation a e).scan1 = s.scan1 := rfl
@[simp] theorem State.setStation_grader (s : State) (a : Nat) (e : Station) :
    (s.setStation a e).grader = s.grader := rfl
@[simp] theorem State.setStation_linePort (s : State) (a : Nat) (e : Station) :
    (s.setStation a e).linePort = s.linePort := rfl
@[simp] theorem State.setStation_sorterPort (s : State) (a : Nat) (e : Station) :
    (s.setStation a e).sorterPort = s.sorterPort := rfl
@[simp] theorem State.setStation_sticky (s : State) (a : Nat) (e : Station) :
    (s.setStation a e).sticky = s.sticky := rfl
@[simp] theorem State.setStation_counters (s : State) (a : Nat) (e : Station) :
    (s.setStation a e).counters = s.counters := rfl
@[simp] theorem State.setStation_snapshot (s : State) (a : Nat) (e : Station) :
    (s.setStation a e).snapshot = s.snapshot := rfl
@[simp] theorem State.setStation_lamps (s : State) (a : Nat) (e : Station) :
    (s.setStation a e).lamps = s.lamps := rfl
@[simp] theorem State.setStation_blinkLit (s : State) (a : Nat) (e : Station) :
    (s.setStation a e).blinkLit = s.blinkLit := rfl
@[simp] theorem State.setStation_linkTxd (s : State) (a : Nat) (e : Station) :
    (s.setStation a e).linkTxd = s.linkTxd := rfl
@[simp] theorem State.setStation_freeReads (s : State) (a : Nat) (e : Station) :
    (s.setStation a e).freeReads = s.freeReads := rfl
@[simp] theorem State.setStation_pending (s : State) (a : Nat) (e : Station) :
    (s.setStation a e).pending = s.pending := rfl

/-! ### setClass -/

@[simp] theorem State.setClass_resetN (s : State) (k : Nat) (r : ClassRecord) :
    (s.setClass k r).resetN = s.resetN := rfl
@[simp] theorem State.setClass_mode (s : State) (k : Nat) (r : ClassRecord) :
    (s.setClass k r).mode = s.mode := rfl
@[simp] theorem State.setClass_items (s : State) (k : Nat) (r : ClassRecord) :
    (s.setClass k r).items = s.items := rfl
@[simp] theorem State.setClass_nextTicket (s : State) (k : Nat) (r : ClassRecord) :
    (s.setClass k r).nextTicket = s.nextTicket := rfl
@[simp] theorem State.setClass_trayIndex (s : State) (k : Nat) (r : ClassRecord) :
    (s.setClass k r).trayIndex = s.trayIndex := rfl
@[simp] theorem State.setClass_gradeQueue (s : State) (k : Nat) (r : ClassRecord) :
    (s.setClass k r).gradeQueue = s.gradeQueue := rfl
@[simp] theorem State.setClass_manifests (s : State) (k : Nat) (r : ClassRecord) :
    (s.setClass k r).manifests = s.manifests := rfl
@[simp] theorem State.setClass_line (s : State) (k : Nat) (r : ClassRecord) :
    (s.setClass k r).line = s.line := rfl
@[simp] theorem State.setClass_bins (s : State) (k : Nat) (r : ClassRecord) :
    (s.setClass k r).bins = s.bins := rfl
@[simp] theorem State.setClass_zones (s : State) (k : Nat) (r : ClassRecord) :
    (s.setClass k r).zones = s.zones := rfl
@[simp] theorem State.setClass_urgent (s : State) (k : Nat) (r : ClassRecord) :
    (s.setClass k r).urgent = s.urgent := rfl
@[simp] theorem State.setClass_routine (s : State) (k : Nat) (r : ClassRecord) :
    (s.setClass k r).routine = s.routine := rfl
@[simp] theorem State.setClass_waitList (s : State) (k : Nat) (r : ClassRecord) :
    (s.setClass k r).waitList = s.waitList := rfl
@[simp] theorem State.setClass_arbiter (s : State) (k : Nat) (r : ClassRecord) :
    (s.setClass k r).arbiter = s.arbiter := rfl
@[simp] theorem State.setClass_stations (s : State) (k : Nat) (r : ClassRecord) :
    (s.setClass k r).stations = s.stations := rfl
@[simp] theorem State.setClass_link (s : State) (k : Nat) (r : ClassRecord) :
    (s.setClass k r).link = s.link := rfl
@[simp] theorem State.setClass_schedule (s : State) (k : Nat) (r : ClassRecord) :
    (s.setClass k r).schedule = s.schedule := rfl
@[simp] theorem State.setClass_controller (s : State) (k : Nat) (r : ClassRecord) :
    (s.setClass k r).controller = s.controller := rfl
@[simp] theorem State.setClass_fifo (s : State) (k : Nat) (r : ClassRecord) :
    (s.setClass k r).fifo = s.fifo := rfl
@[simp] theorem State.setClass_collector (s : State) (k : Nat) (r : ClassRecord) :
    (s.setClass k r).collector = s.collector := rfl
@[simp] theorem State.setClass_settle (s : State) (k : Nat) (r : ClassRecord) :
    (s.setClass k r).settle = s.settle := rfl
@[simp] theorem State.setClass_scan0 (s : State) (k : Nat) (r : ClassRecord) :
    (s.setClass k r).scan0 = s.scan0 := rfl
@[simp] theorem State.setClass_scan1 (s : State) (k : Nat) (r : ClassRecord) :
    (s.setClass k r).scan1 = s.scan1 := rfl
@[simp] theorem State.setClass_grader (s : State) (k : Nat) (r : ClassRecord) :
    (s.setClass k r).grader = s.grader := rfl
@[simp] theorem State.setClass_linePort (s : State) (k : Nat) (r : ClassRecord) :
    (s.setClass k r).linePort = s.linePort := rfl
@[simp] theorem State.setClass_sorterPort (s : State) (k : Nat) (r : ClassRecord) :
    (s.setClass k r).sorterPort = s.sorterPort := rfl
@[simp] theorem State.setClass_sticky (s : State) (k : Nat) (r : ClassRecord) :
    (s.setClass k r).sticky = s.sticky := rfl
@[simp] theorem State.setClass_counters (s : State) (k : Nat) (r : ClassRecord) :
    (s.setClass k r).counters = s.counters := rfl
@[simp] theorem State.setClass_snapshot (s : State) (k : Nat) (r : ClassRecord) :
    (s.setClass k r).snapshot = s.snapshot := rfl
@[simp] theorem State.setClass_lamps (s : State) (k : Nat) (r : ClassRecord) :
    (s.setClass k r).lamps = s.lamps := rfl
@[simp] theorem State.setClass_blinkLit (s : State) (k : Nat) (r : ClassRecord) :
    (s.setClass k r).blinkLit = s.blinkLit := rfl
@[simp] theorem State.setClass_linkTxd (s : State) (k : Nat) (r : ClassRecord) :
    (s.setClass k r).linkTxd = s.linkTxd := rfl
@[simp] theorem State.setClass_freeReads (s : State) (k : Nat) (r : ClassRecord) :
    (s.setClass k r).freeReads = s.freeReads := rfl
@[simp] theorem State.setClass_pending (s : State) (k : Nat) (r : ClassRecord) :
    (s.setClass k r).pending = s.pending := rfl

/-! ### clearClass -/

@[simp] theorem State.clearClass_resetN (s : State) (k : Nat) :
    (s.clearClass k).resetN = s.resetN := rfl
@[simp] theorem State.clearClass_mode (s : State) (k : Nat) :
    (s.clearClass k).mode = s.mode := rfl
@[simp] theorem State.clearClass_items (s : State) (k : Nat) :
    (s.clearClass k).items = s.items := rfl
@[simp] theorem State.clearClass_nextTicket (s : State) (k : Nat) :
    (s.clearClass k).nextTicket = s.nextTicket := rfl
@[simp] theorem State.clearClass_trayIndex (s : State) (k : Nat) :
    (s.clearClass k).trayIndex = s.trayIndex := rfl
@[simp] theorem State.clearClass_gradeQueue (s : State) (k : Nat) :
    (s.clearClass k).gradeQueue = s.gradeQueue := rfl
@[simp] theorem State.clearClass_manifests (s : State) (k : Nat) :
    (s.clearClass k).manifests = s.manifests := rfl
@[simp] theorem State.clearClass_line (s : State) (k : Nat) :
    (s.clearClass k).line = s.line := rfl
@[simp] theorem State.clearClass_bins (s : State) (k : Nat) :
    (s.clearClass k).bins = s.bins := rfl
@[simp] theorem State.clearClass_zones (s : State) (k : Nat) :
    (s.clearClass k).zones = s.zones := rfl
@[simp] theorem State.clearClass_urgent (s : State) (k : Nat) :
    (s.clearClass k).urgent = s.urgent := rfl
@[simp] theorem State.clearClass_routine (s : State) (k : Nat) :
    (s.clearClass k).routine = s.routine := rfl
@[simp] theorem State.clearClass_waitList (s : State) (k : Nat) :
    (s.clearClass k).waitList = s.waitList := rfl
@[simp] theorem State.clearClass_arbiter (s : State) (k : Nat) :
    (s.clearClass k).arbiter = s.arbiter := rfl
@[simp] theorem State.clearClass_stations (s : State) (k : Nat) :
    (s.clearClass k).stations = s.stations := rfl
@[simp] theorem State.clearClass_link (s : State) (k : Nat) :
    (s.clearClass k).link = s.link := rfl
@[simp] theorem State.clearClass_schedule (s : State) (k : Nat) :
    (s.clearClass k).schedule = s.schedule := rfl
@[simp] theorem State.clearClass_controller (s : State) (k : Nat) :
    (s.clearClass k).controller = s.controller := rfl
@[simp] theorem State.clearClass_fifo (s : State) (k : Nat) :
    (s.clearClass k).fifo = s.fifo := rfl
@[simp] theorem State.clearClass_collector (s : State) (k : Nat) :
    (s.clearClass k).collector = s.collector := rfl
@[simp] theorem State.clearClass_settle (s : State) (k : Nat) :
    (s.clearClass k).settle = s.settle := rfl
@[simp] theorem State.clearClass_scan0 (s : State) (k : Nat) :
    (s.clearClass k).scan0 = s.scan0 := rfl
@[simp] theorem State.clearClass_scan1 (s : State) (k : Nat) :
    (s.clearClass k).scan1 = s.scan1 := rfl
@[simp] theorem State.clearClass_grader (s : State) (k : Nat) :
    (s.clearClass k).grader = s.grader := rfl
@[simp] theorem State.clearClass_linePort (s : State) (k : Nat) :
    (s.clearClass k).linePort = s.linePort := rfl
@[simp] theorem State.clearClass_sorterPort (s : State) (k : Nat) :
    (s.clearClass k).sorterPort = s.sorterPort := rfl
@[simp] theorem State.clearClass_sticky (s : State) (k : Nat) :
    (s.clearClass k).sticky = s.sticky := rfl
@[simp] theorem State.clearClass_counters (s : State) (k : Nat) :
    (s.clearClass k).counters = s.counters := rfl
@[simp] theorem State.clearClass_snapshot (s : State) (k : Nat) :
    (s.clearClass k).snapshot = s.snapshot := rfl
@[simp] theorem State.clearClass_lamps (s : State) (k : Nat) :
    (s.clearClass k).lamps = s.lamps := rfl
@[simp] theorem State.clearClass_blinkLit (s : State) (k : Nat) :
    (s.clearClass k).blinkLit = s.blinkLit := rfl
@[simp] theorem State.clearClass_linkTxd (s : State) (k : Nat) :
    (s.clearClass k).linkTxd = s.linkTxd := rfl
@[simp] theorem State.clearClass_freeReads (s : State) (k : Nat) :
    (s.clearClass k).freeReads = s.freeReads := rfl
@[simp] theorem State.clearClass_pending (s : State) (k : Nat) :
    (s.clearClass k).pending = s.pending := rfl

/-! ### setManifest -/

@[simp] theorem State.setManifest_resetN (s : State) (l : Nat) (m : Manifest) :
    (s.setManifest l m).resetN = s.resetN := rfl
@[simp] theorem State.setManifest_mode (s : State) (l : Nat) (m : Manifest) :
    (s.setManifest l m).mode = s.mode := rfl
@[simp] theorem State.setManifest_items (s : State) (l : Nat) (m : Manifest) :
    (s.setManifest l m).items = s.items := rfl
@[simp] theorem State.setManifest_nextTicket (s : State) (l : Nat) (m : Manifest) :
    (s.setManifest l m).nextTicket = s.nextTicket := rfl
@[simp] theorem State.setManifest_trayIndex (s : State) (l : Nat) (m : Manifest) :
    (s.setManifest l m).trayIndex = s.trayIndex := rfl
@[simp] theorem State.setManifest_gradeQueue (s : State) (l : Nat) (m : Manifest) :
    (s.setManifest l m).gradeQueue = s.gradeQueue := rfl
@[simp] theorem State.setManifest_classes (s : State) (l : Nat) (m : Manifest) :
    (s.setManifest l m).classes = s.classes := rfl
@[simp] theorem State.setManifest_line (s : State) (l : Nat) (m : Manifest) :
    (s.setManifest l m).line = s.line := rfl
@[simp] theorem State.setManifest_bins (s : State) (l : Nat) (m : Manifest) :
    (s.setManifest l m).bins = s.bins := rfl
@[simp] theorem State.setManifest_zones (s : State) (l : Nat) (m : Manifest) :
    (s.setManifest l m).zones = s.zones := rfl
@[simp] theorem State.setManifest_urgent (s : State) (l : Nat) (m : Manifest) :
    (s.setManifest l m).urgent = s.urgent := rfl
@[simp] theorem State.setManifest_routine (s : State) (l : Nat) (m : Manifest) :
    (s.setManifest l m).routine = s.routine := rfl
@[simp] theorem State.setManifest_waitList (s : State) (l : Nat) (m : Manifest) :
    (s.setManifest l m).waitList = s.waitList := rfl
@[simp] theorem State.setManifest_arbiter (s : State) (l : Nat) (m : Manifest) :
    (s.setManifest l m).arbiter = s.arbiter := rfl
@[simp] theorem State.setManifest_stations (s : State) (l : Nat) (m : Manifest) :
    (s.setManifest l m).stations = s.stations := rfl
@[simp] theorem State.setManifest_link (s : State) (l : Nat) (m : Manifest) :
    (s.setManifest l m).link = s.link := rfl
@[simp] theorem State.setManifest_schedule (s : State) (l : Nat) (m : Manifest) :
    (s.setManifest l m).schedule = s.schedule := rfl
@[simp] theorem State.setManifest_controller (s : State) (l : Nat) (m : Manifest) :
    (s.setManifest l m).controller = s.controller := rfl
@[simp] theorem State.setManifest_fifo (s : State) (l : Nat) (m : Manifest) :
    (s.setManifest l m).fifo = s.fifo := rfl
@[simp] theorem State.setManifest_collector (s : State) (l : Nat) (m : Manifest) :
    (s.setManifest l m).collector = s.collector := rfl
@[simp] theorem State.setManifest_settle (s : State) (l : Nat) (m : Manifest) :
    (s.setManifest l m).settle = s.settle := rfl
@[simp] theorem State.setManifest_scan0 (s : State) (l : Nat) (m : Manifest) :
    (s.setManifest l m).scan0 = s.scan0 := rfl
@[simp] theorem State.setManifest_scan1 (s : State) (l : Nat) (m : Manifest) :
    (s.setManifest l m).scan1 = s.scan1 := rfl
@[simp] theorem State.setManifest_grader (s : State) (l : Nat) (m : Manifest) :
    (s.setManifest l m).grader = s.grader := rfl
@[simp] theorem State.setManifest_linePort (s : State) (l : Nat) (m : Manifest) :
    (s.setManifest l m).linePort = s.linePort := rfl
@[simp] theorem State.setManifest_sorterPort (s : State) (l : Nat) (m : Manifest) :
    (s.setManifest l m).sorterPort = s.sorterPort := rfl
@[simp] theorem State.setManifest_sticky (s : State) (l : Nat) (m : Manifest) :
    (s.setManifest l m).sticky = s.sticky := rfl
@[simp] theorem State.setManifest_counters (s : State) (l : Nat) (m : Manifest) :
    (s.setManifest l m).counters = s.counters := rfl
@[simp] theorem State.setManifest_snapshot (s : State) (l : Nat) (m : Manifest) :
    (s.setManifest l m).snapshot = s.snapshot := rfl
@[simp] theorem State.setManifest_lamps (s : State) (l : Nat) (m : Manifest) :
    (s.setManifest l m).lamps = s.lamps := rfl
@[simp] theorem State.setManifest_blinkLit (s : State) (l : Nat) (m : Manifest) :
    (s.setManifest l m).blinkLit = s.blinkLit := rfl
@[simp] theorem State.setManifest_linkTxd (s : State) (l : Nat) (m : Manifest) :
    (s.setManifest l m).linkTxd = s.linkTxd := rfl
@[simp] theorem State.setManifest_freeReads (s : State) (l : Nat) (m : Manifest) :
    (s.setManifest l m).freeReads = s.freeReads := rfl
@[simp] theorem State.setManifest_pending (s : State) (l : Nat) (m : Manifest) :
    (s.setManifest l m).pending = s.pending := rfl

/-! ### removeManifest -/

@[simp] theorem State.removeManifest_resetN (s : State) (l : Nat) :
    (s.removeManifest l).resetN = s.resetN := rfl
@[simp] theorem State.removeManifest_mode (s : State) (l : Nat) :
    (s.removeManifest l).mode = s.mode := rfl
@[simp] theorem State.removeManifest_items (s : State) (l : Nat) :
    (s.removeManifest l).items = s.items := rfl
@[simp] theorem State.removeManifest_nextTicket (s : State) (l : Nat) :
    (s.removeManifest l).nextTicket = s.nextTicket := rfl
@[simp] theorem State.removeManifest_trayIndex (s : State) (l : Nat) :
    (s.removeManifest l).trayIndex = s.trayIndex := rfl
@[simp] theorem State.removeManifest_gradeQueue (s : State) (l : Nat) :
    (s.removeManifest l).gradeQueue = s.gradeQueue := rfl
@[simp] theorem State.removeManifest_classes (s : State) (l : Nat) :
    (s.removeManifest l).classes = s.classes := rfl
@[simp] theorem State.removeManifest_line (s : State) (l : Nat) :
    (s.removeManifest l).line = s.line := rfl
@[simp] theorem State.removeManifest_bins (s : State) (l : Nat) :
    (s.removeManifest l).bins = s.bins := rfl
@[simp] theorem State.removeManifest_zones (s : State) (l : Nat) :
    (s.removeManifest l).zones = s.zones := rfl
@[simp] theorem State.removeManifest_urgent (s : State) (l : Nat) :
    (s.removeManifest l).urgent = s.urgent := rfl
@[simp] theorem State.removeManifest_routine (s : State) (l : Nat) :
    (s.removeManifest l).routine = s.routine := rfl
@[simp] theorem State.removeManifest_waitList (s : State) (l : Nat) :
    (s.removeManifest l).waitList = s.waitList := rfl
@[simp] theorem State.removeManifest_arbiter (s : State) (l : Nat) :
    (s.removeManifest l).arbiter = s.arbiter := rfl
@[simp] theorem State.removeManifest_stations (s : State) (l : Nat) :
    (s.removeManifest l).stations = s.stations := rfl
@[simp] theorem State.removeManifest_link (s : State) (l : Nat) :
    (s.removeManifest l).link = s.link := rfl
@[simp] theorem State.removeManifest_schedule (s : State) (l : Nat) :
    (s.removeManifest l).schedule = s.schedule := rfl
@[simp] theorem State.removeManifest_controller (s : State) (l : Nat) :
    (s.removeManifest l).controller = s.controller := rfl
@[simp] theorem State.removeManifest_fifo (s : State) (l : Nat) :
    (s.removeManifest l).fifo = s.fifo := rfl
@[simp] theorem State.removeManifest_collector (s : State) (l : Nat) :
    (s.removeManifest l).collector = s.collector := rfl
@[simp] theorem State.removeManifest_settle (s : State) (l : Nat) :
    (s.removeManifest l).settle = s.settle := rfl
@[simp] theorem State.removeManifest_scan0 (s : State) (l : Nat) :
    (s.removeManifest l).scan0 = s.scan0 := rfl
@[simp] theorem State.removeManifest_scan1 (s : State) (l : Nat) :
    (s.removeManifest l).scan1 = s.scan1 := rfl
@[simp] theorem State.removeManifest_grader (s : State) (l : Nat) :
    (s.removeManifest l).grader = s.grader := rfl
@[simp] theorem State.removeManifest_linePort (s : State) (l : Nat) :
    (s.removeManifest l).linePort = s.linePort := rfl
@[simp] theorem State.removeManifest_sorterPort (s : State) (l : Nat) :
    (s.removeManifest l).sorterPort = s.sorterPort := rfl
@[simp] theorem State.removeManifest_sticky (s : State) (l : Nat) :
    (s.removeManifest l).sticky = s.sticky := rfl
@[simp] theorem State.removeManifest_counters (s : State) (l : Nat) :
    (s.removeManifest l).counters = s.counters := rfl
@[simp] theorem State.removeManifest_snapshot (s : State) (l : Nat) :
    (s.removeManifest l).snapshot = s.snapshot := rfl
@[simp] theorem State.removeManifest_lamps (s : State) (l : Nat) :
    (s.removeManifest l).lamps = s.lamps := rfl
@[simp] theorem State.removeManifest_blinkLit (s : State) (l : Nat) :
    (s.removeManifest l).blinkLit = s.blinkLit := rfl
@[simp] theorem State.removeManifest_linkTxd (s : State) (l : Nat) :
    (s.removeManifest l).linkTxd = s.linkTxd := rfl
@[simp] theorem State.removeManifest_freeReads (s : State) (l : Nat) :
    (s.removeManifest l).freeReads = s.freeReads := rfl
@[simp] theorem State.removeManifest_pending (s : State) (l : Nat) :
    (s.removeManifest l).pending = s.pending := rfl

/-! ### setTray -/

@[simp] theorem State.setTray_resetN (s : State) (tray : Nat) (e : TrayEntry) :
    (s.setTray tray e).resetN = s.resetN := rfl
@[simp] theorem State.setTray_mode (s : State) (tray : Nat) (e : TrayEntry) :
    (s.setTray tray e).mode = s.mode := rfl
@[simp] theorem State.setTray_items (s : State) (tray : Nat) (e : TrayEntry) :
    (s.setTray tray e).items = s.items := rfl
@[simp] theorem State.setTray_nextTicket (s : State) (tray : Nat) (e : TrayEntry) :
    (s.setTray tray e).nextTicket = s.nextTicket := rfl
@[simp] theorem State.setTray_gradeQueue (s : State) (tray : Nat) (e : TrayEntry) :
    (s.setTray tray e).gradeQueue = s.gradeQueue := rfl
@[simp] theorem State.setTray_manifests (s : State) (tray : Nat) (e : TrayEntry) :
    (s.setTray tray e).manifests = s.manifests := rfl
@[simp] theorem State.setTray_classes (s : State) (tray : Nat) (e : TrayEntry) :
    (s.setTray tray e).classes = s.classes := rfl
@[simp] theorem State.setTray_line (s : State) (tray : Nat) (e : TrayEntry) :
    (s.setTray tray e).line = s.line := rfl
@[simp] theorem State.setTray_bins (s : State) (tray : Nat) (e : TrayEntry) :
    (s.setTray tray e).bins = s.bins := rfl
@[simp] theorem State.setTray_zones (s : State) (tray : Nat) (e : TrayEntry) :
    (s.setTray tray e).zones = s.zones := rfl
@[simp] theorem State.setTray_urgent (s : State) (tray : Nat) (e : TrayEntry) :
    (s.setTray tray e).urgent = s.urgent := rfl
@[simp] theorem State.setTray_routine (s : State) (tray : Nat) (e : TrayEntry) :
    (s.setTray tray e).routine = s.routine := rfl
@[simp] theorem State.setTray_waitList (s : State) (tray : Nat) (e : TrayEntry) :
    (s.setTray tray e).waitList = s.waitList := rfl
@[simp] theorem State.setTray_arbiter (s : State) (tray : Nat) (e : TrayEntry) :
    (s.setTray tray e).arbiter = s.arbiter := rfl
@[simp] theorem State.setTray_stations (s : State) (tray : Nat) (e : TrayEntry) :
    (s.setTray tray e).stations = s.stations := rfl
@[simp] theorem State.setTray_link (s : State) (tray : Nat) (e : TrayEntry) :
    (s.setTray tray e).link = s.link := rfl
@[simp] theorem State.setTray_schedule (s : State) (tray : Nat) (e : TrayEntry) :
    (s.setTray tray e).schedule = s.schedule := rfl
@[simp] theorem State.setTray_controller (s : State) (tray : Nat) (e : TrayEntry) :
    (s.setTray tray e).controller = s.controller := rfl
@[simp] theorem State.setTray_fifo (s : State) (tray : Nat) (e : TrayEntry) :
    (s.setTray tray e).fifo = s.fifo := rfl
@[simp] theorem State.setTray_collector (s : State) (tray : Nat) (e : TrayEntry) :
    (s.setTray tray e).collector = s.collector := rfl
@[simp] theorem State.setTray_settle (s : State) (tray : Nat) (e : TrayEntry) :
    (s.setTray tray e).settle = s.settle := rfl
@[simp] theorem State.setTray_scan0 (s : State) (tray : Nat) (e : TrayEntry) :
    (s.setTray tray e).scan0 = s.scan0 := rfl
@[simp] theorem State.setTray_scan1 (s : State) (tray : Nat) (e : TrayEntry) :
    (s.setTray tray e).scan1 = s.scan1 := rfl
@[simp] theorem State.setTray_grader (s : State) (tray : Nat) (e : TrayEntry) :
    (s.setTray tray e).grader = s.grader := rfl
@[simp] theorem State.setTray_linePort (s : State) (tray : Nat) (e : TrayEntry) :
    (s.setTray tray e).linePort = s.linePort := rfl
@[simp] theorem State.setTray_sorterPort (s : State) (tray : Nat) (e : TrayEntry) :
    (s.setTray tray e).sorterPort = s.sorterPort := rfl
@[simp] theorem State.setTray_sticky (s : State) (tray : Nat) (e : TrayEntry) :
    (s.setTray tray e).sticky = s.sticky := rfl
@[simp] theorem State.setTray_counters (s : State) (tray : Nat) (e : TrayEntry) :
    (s.setTray tray e).counters = s.counters := rfl
@[simp] theorem State.setTray_snapshot (s : State) (tray : Nat) (e : TrayEntry) :
    (s.setTray tray e).snapshot = s.snapshot := rfl
@[simp] theorem State.setTray_lamps (s : State) (tray : Nat) (e : TrayEntry) :
    (s.setTray tray e).lamps = s.lamps := rfl
@[simp] theorem State.setTray_blinkLit (s : State) (tray : Nat) (e : TrayEntry) :
    (s.setTray tray e).blinkLit = s.blinkLit := rfl
@[simp] theorem State.setTray_linkTxd (s : State) (tray : Nat) (e : TrayEntry) :
    (s.setTray tray e).linkTxd = s.linkTxd := rfl
@[simp] theorem State.setTray_freeReads (s : State) (tray : Nat) (e : TrayEntry) :
    (s.setTray tray e).freeReads = s.freeReads := rfl
@[simp] theorem State.setTray_pending (s : State) (tray : Nat) (e : TrayEntry) :
    (s.setTray tray e).pending = s.pending := rfl

/-! ### clearTray -/

@[simp] theorem State.clearTray_resetN (s : State) (tray : Nat) :
    (s.clearTray tray).resetN = s.resetN := rfl
@[simp] theorem State.clearTray_mode (s : State) (tray : Nat) :
    (s.clearTray tray).mode = s.mode := rfl
@[simp] theorem State.clearTray_items (s : State) (tray : Nat) :
    (s.clearTray tray).items = s.items := rfl
@[simp] theorem State.clearTray_nextTicket (s : State) (tray : Nat) :
    (s.clearTray tray).nextTicket = s.nextTicket := rfl
@[simp] theorem State.clearTray_gradeQueue (s : State) (tray : Nat) :
    (s.clearTray tray).gradeQueue = s.gradeQueue := rfl
@[simp] theorem State.clearTray_manifests (s : State) (tray : Nat) :
    (s.clearTray tray).manifests = s.manifests := rfl
@[simp] theorem State.clearTray_classes (s : State) (tray : Nat) :
    (s.clearTray tray).classes = s.classes := rfl
@[simp] theorem State.clearTray_line (s : State) (tray : Nat) :
    (s.clearTray tray).line = s.line := rfl
@[simp] theorem State.clearTray_bins (s : State) (tray : Nat) :
    (s.clearTray tray).bins = s.bins := rfl
@[simp] theorem State.clearTray_zones (s : State) (tray : Nat) :
    (s.clearTray tray).zones = s.zones := rfl
@[simp] theorem State.clearTray_urgent (s : State) (tray : Nat) :
    (s.clearTray tray).urgent = s.urgent := rfl
@[simp] theorem State.clearTray_routine (s : State) (tray : Nat) :
    (s.clearTray tray).routine = s.routine := rfl
@[simp] theorem State.clearTray_waitList (s : State) (tray : Nat) :
    (s.clearTray tray).waitList = s.waitList := rfl
@[simp] theorem State.clearTray_arbiter (s : State) (tray : Nat) :
    (s.clearTray tray).arbiter = s.arbiter := rfl
@[simp] theorem State.clearTray_stations (s : State) (tray : Nat) :
    (s.clearTray tray).stations = s.stations := rfl
@[simp] theorem State.clearTray_link (s : State) (tray : Nat) :
    (s.clearTray tray).link = s.link := rfl
@[simp] theorem State.clearTray_schedule (s : State) (tray : Nat) :
    (s.clearTray tray).schedule = s.schedule := rfl
@[simp] theorem State.clearTray_controller (s : State) (tray : Nat) :
    (s.clearTray tray).controller = s.controller := rfl
@[simp] theorem State.clearTray_fifo (s : State) (tray : Nat) :
    (s.clearTray tray).fifo = s.fifo := rfl
@[simp] theorem State.clearTray_collector (s : State) (tray : Nat) :
    (s.clearTray tray).collector = s.collector := rfl
@[simp] theorem State.clearTray_settle (s : State) (tray : Nat) :
    (s.clearTray tray).settle = s.settle := rfl
@[simp] theorem State.clearTray_scan0 (s : State) (tray : Nat) :
    (s.clearTray tray).scan0 = s.scan0 := rfl
@[simp] theorem State.clearTray_scan1 (s : State) (tray : Nat) :
    (s.clearTray tray).scan1 = s.scan1 := rfl
@[simp] theorem State.clearTray_grader (s : State) (tray : Nat) :
    (s.clearTray tray).grader = s.grader := rfl
@[simp] theorem State.clearTray_linePort (s : State) (tray : Nat) :
    (s.clearTray tray).linePort = s.linePort := rfl
@[simp] theorem State.clearTray_sorterPort (s : State) (tray : Nat) :
    (s.clearTray tray).sorterPort = s.sorterPort := rfl
@[simp] theorem State.clearTray_sticky (s : State) (tray : Nat) :
    (s.clearTray tray).sticky = s.sticky := rfl
@[simp] theorem State.clearTray_counters (s : State) (tray : Nat) :
    (s.clearTray tray).counters = s.counters := rfl
@[simp] theorem State.clearTray_snapshot (s : State) (tray : Nat) :
    (s.clearTray tray).snapshot = s.snapshot := rfl
@[simp] theorem State.clearTray_lamps (s : State) (tray : Nat) :
    (s.clearTray tray).lamps = s.lamps := rfl
@[simp] theorem State.clearTray_blinkLit (s : State) (tray : Nat) :
    (s.clearTray tray).blinkLit = s.blinkLit := rfl
@[simp] theorem State.clearTray_linkTxd (s : State) (tray : Nat) :
    (s.clearTray tray).linkTxd = s.linkTxd := rfl
@[simp] theorem State.clearTray_freeReads (s : State) (tray : Nat) :
    (s.clearTray tray).freeReads = s.freeReads := rfl
@[simp] theorem State.clearTray_pending (s : State) (tray : Nat) :
    (s.clearTray tray).pending = s.pending := rfl

/-! ### bumpBy -/

@[simp] theorem State.bumpBy_resetN (s : State) (c : Counter) (n : Nat) :
    (s.bumpBy c n).resetN = s.resetN := rfl
@[simp] theorem State.bumpBy_mode (s : State) (c : Counter) (n : Nat) :
    (s.bumpBy c n).mode = s.mode := rfl
@[simp] theorem State.bumpBy_items (s : State) (c : Counter) (n : Nat) :
    (s.bumpBy c n).items = s.items := rfl
@[simp] theorem State.bumpBy_nextTicket (s : State) (c : Counter) (n : Nat) :
    (s.bumpBy c n).nextTicket = s.nextTicket := rfl
@[simp] theorem State.bumpBy_trayIndex (s : State) (c : Counter) (n : Nat) :
    (s.bumpBy c n).trayIndex = s.trayIndex := rfl
@[simp] theorem State.bumpBy_gradeQueue (s : State) (c : Counter) (n : Nat) :
    (s.bumpBy c n).gradeQueue = s.gradeQueue := rfl
@[simp] theorem State.bumpBy_manifests (s : State) (c : Counter) (n : Nat) :
    (s.bumpBy c n).manifests = s.manifests := rfl
@[simp] theorem State.bumpBy_classes (s : State) (c : Counter) (n : Nat) :
    (s.bumpBy c n).classes = s.classes := rfl
@[simp] theorem State.bumpBy_line (s : State) (c : Counter) (n : Nat) :
    (s.bumpBy c n).line = s.line := rfl
@[simp] theorem State.bumpBy_bins (s : State) (c : Counter) (n : Nat) :
    (s.bumpBy c n).bins = s.bins := rfl
@[simp] theorem State.bumpBy_zones (s : State) (c : Counter) (n : Nat) :
    (s.bumpBy c n).zones = s.zones := rfl
@[simp] theorem State.bumpBy_urgent (s : State) (c : Counter) (n : Nat) :
    (s.bumpBy c n).urgent = s.urgent := rfl
@[simp] theorem State.bumpBy_routine (s : State) (c : Counter) (n : Nat) :
    (s.bumpBy c n).routine = s.routine := rfl
@[simp] theorem State.bumpBy_waitList (s : State) (c : Counter) (n : Nat) :
    (s.bumpBy c n).waitList = s.waitList := rfl
@[simp] theorem State.bumpBy_arbiter (s : State) (c : Counter) (n : Nat) :
    (s.bumpBy c n).arbiter = s.arbiter := rfl
@[simp] theorem State.bumpBy_stations (s : State) (c : Counter) (n : Nat) :
    (s.bumpBy c n).stations = s.stations := rfl
@[simp] theorem State.bumpBy_link (s : State) (c : Counter) (n : Nat) :
    (s.bumpBy c n).link = s.link := rfl
@[simp] theorem State.bumpBy_schedule (s : State) (c : Counter) (n : Nat) :
    (s.bumpBy c n).schedule = s.schedule := rfl
@[simp] theorem State.bumpBy_controller (s : State) (c : Counter) (n : Nat) :
    (s.bumpBy c n).controller = s.controller := rfl
@[simp] theorem State.bumpBy_fifo (s : State) (c : Counter) (n : Nat) :
    (s.bumpBy c n).fifo = s.fifo := rfl
@[simp] theorem State.bumpBy_collector (s : State) (c : Counter) (n : Nat) :
    (s.bumpBy c n).collector = s.collector := rfl
@[simp] theorem State.bumpBy_settle (s : State) (c : Counter) (n : Nat) :
    (s.bumpBy c n).settle = s.settle := rfl
@[simp] theorem State.bumpBy_scan0 (s : State) (c : Counter) (n : Nat) :
    (s.bumpBy c n).scan0 = s.scan0 := rfl
@[simp] theorem State.bumpBy_scan1 (s : State) (c : Counter) (n : Nat) :
    (s.bumpBy c n).scan1 = s.scan1 := rfl
@[simp] theorem State.bumpBy_grader (s : State) (c : Counter) (n : Nat) :
    (s.bumpBy c n).grader = s.grader := rfl
@[simp] theorem State.bumpBy_linePort (s : State) (c : Counter) (n : Nat) :
    (s.bumpBy c n).linePort = s.linePort := rfl
@[simp] theorem State.bumpBy_sorterPort (s : State) (c : Counter) (n : Nat) :
    (s.bumpBy c n).sorterPort = s.sorterPort := rfl
@[simp] theorem State.bumpBy_sticky (s : State) (c : Counter) (n : Nat) :
    (s.bumpBy c n).sticky = s.sticky := rfl
@[simp] theorem State.bumpBy_snapshot (s : State) (c : Counter) (n : Nat) :
    (s.bumpBy c n).snapshot = s.snapshot := rfl
@[simp] theorem State.bumpBy_lamps (s : State) (c : Counter) (n : Nat) :
    (s.bumpBy c n).lamps = s.lamps := rfl
@[simp] theorem State.bumpBy_blinkLit (s : State) (c : Counter) (n : Nat) :
    (s.bumpBy c n).blinkLit = s.blinkLit := rfl
@[simp] theorem State.bumpBy_linkTxd (s : State) (c : Counter) (n : Nat) :
    (s.bumpBy c n).linkTxd = s.linkTxd := rfl
@[simp] theorem State.bumpBy_freeReads (s : State) (c : Counter) (n : Nat) :
    (s.bumpBy c n).freeReads = s.freeReads := rfl
@[simp] theorem State.bumpBy_pending (s : State) (c : Counter) (n : Nat) :
    (s.bumpBy c n).pending = s.pending := rfl

/-! ### bump -/

@[simp] theorem State.bump_resetN (s : State) (c : Counter) :
    (s.bump c).resetN = s.resetN := rfl
@[simp] theorem State.bump_mode (s : State) (c : Counter) :
    (s.bump c).mode = s.mode := rfl
@[simp] theorem State.bump_items (s : State) (c : Counter) :
    (s.bump c).items = s.items := rfl
@[simp] theorem State.bump_nextTicket (s : State) (c : Counter) :
    (s.bump c).nextTicket = s.nextTicket := rfl
@[simp] theorem State.bump_trayIndex (s : State) (c : Counter) :
    (s.bump c).trayIndex = s.trayIndex := rfl
@[simp] theorem State.bump_gradeQueue (s : State) (c : Counter) :
    (s.bump c).gradeQueue = s.gradeQueue := rfl
@[simp] theorem State.bump_manifests (s : State) (c : Counter) :
    (s.bump c).manifests = s.manifests := rfl
@[simp] theorem State.bump_classes (s : State) (c : Counter) :
    (s.bump c).classes = s.classes := rfl
@[simp] theorem State.bump_line (s : State) (c : Counter) :
    (s.bump c).line = s.line := rfl
@[simp] theorem State.bump_bins (s : State) (c : Counter) :
    (s.bump c).bins = s.bins := rfl
@[simp] theorem State.bump_zones (s : State) (c : Counter) :
    (s.bump c).zones = s.zones := rfl
@[simp] theorem State.bump_urgent (s : State) (c : Counter) :
    (s.bump c).urgent = s.urgent := rfl
@[simp] theorem State.bump_routine (s : State) (c : Counter) :
    (s.bump c).routine = s.routine := rfl
@[simp] theorem State.bump_waitList (s : State) (c : Counter) :
    (s.bump c).waitList = s.waitList := rfl
@[simp] theorem State.bump_arbiter (s : State) (c : Counter) :
    (s.bump c).arbiter = s.arbiter := rfl
@[simp] theorem State.bump_stations (s : State) (c : Counter) :
    (s.bump c).stations = s.stations := rfl
@[simp] theorem State.bump_link (s : State) (c : Counter) :
    (s.bump c).link = s.link := rfl
@[simp] theorem State.bump_schedule (s : State) (c : Counter) :
    (s.bump c).schedule = s.schedule := rfl
@[simp] theorem State.bump_controller (s : State) (c : Counter) :
    (s.bump c).controller = s.controller := rfl
@[simp] theorem State.bump_fifo (s : State) (c : Counter) :
    (s.bump c).fifo = s.fifo := rfl
@[simp] theorem State.bump_collector (s : State) (c : Counter) :
    (s.bump c).collector = s.collector := rfl
@[simp] theorem State.bump_settle (s : State) (c : Counter) :
    (s.bump c).settle = s.settle := rfl
@[simp] theorem State.bump_scan0 (s : State) (c : Counter) :
    (s.bump c).scan0 = s.scan0 := rfl
@[simp] theorem State.bump_scan1 (s : State) (c : Counter) :
    (s.bump c).scan1 = s.scan1 := rfl
@[simp] theorem State.bump_grader (s : State) (c : Counter) :
    (s.bump c).grader = s.grader := rfl
@[simp] theorem State.bump_linePort (s : State) (c : Counter) :
    (s.bump c).linePort = s.linePort := rfl
@[simp] theorem State.bump_sorterPort (s : State) (c : Counter) :
    (s.bump c).sorterPort = s.sorterPort := rfl
@[simp] theorem State.bump_sticky (s : State) (c : Counter) :
    (s.bump c).sticky = s.sticky := rfl
@[simp] theorem State.bump_snapshot (s : State) (c : Counter) :
    (s.bump c).snapshot = s.snapshot := rfl
@[simp] theorem State.bump_lamps (s : State) (c : Counter) :
    (s.bump c).lamps = s.lamps := rfl
@[simp] theorem State.bump_blinkLit (s : State) (c : Counter) :
    (s.bump c).blinkLit = s.blinkLit := rfl
@[simp] theorem State.bump_linkTxd (s : State) (c : Counter) :
    (s.bump c).linkTxd = s.linkTxd := rfl
@[simp] theorem State.bump_freeReads (s : State) (c : Counter) :
    (s.bump c).freeReads = s.freeReads := rfl
@[simp] theorem State.bump_pending (s : State) (c : Counter) :
    (s.bump c).pending = s.pending := rfl

/-! ### markGranted -/

@[simp] theorem State.markGranted_resetN (s : State) (c : Client) :
    (s.markGranted c).resetN = s.resetN := rfl
@[simp] theorem State.markGranted_mode (s : State) (c : Client) :
    (s.markGranted c).mode = s.mode := rfl
@[simp] theorem State.markGranted_items (s : State) (c : Client) :
    (s.markGranted c).items = s.items := rfl
@[simp] theorem State.markGranted_nextTicket (s : State) (c : Client) :
    (s.markGranted c).nextTicket = s.nextTicket := rfl
@[simp] theorem State.markGranted_trayIndex (s : State) (c : Client) :
    (s.markGranted c).trayIndex = s.trayIndex := rfl
@[simp] theorem State.markGranted_gradeQueue (s : State) (c : Client) :
    (s.markGranted c).gradeQueue = s.gradeQueue := rfl
@[simp] theorem State.markGranted_manifests (s : State) (c : Client) :
    (s.markGranted c).manifests = s.manifests := rfl
@[simp] theorem State.markGranted_classes (s : State) (c : Client) :
    (s.markGranted c).classes = s.classes := rfl
@[simp] theorem State.markGranted_line (s : State) (c : Client) :
    (s.markGranted c).line = s.line := rfl
@[simp] theorem State.markGranted_bins (s : State) (c : Client) :
    (s.markGranted c).bins = s.bins := rfl
@[simp] theorem State.markGranted_zones (s : State) (c : Client) :
    (s.markGranted c).zones = s.zones := rfl
@[simp] theorem State.markGranted_urgent (s : State) (c : Client) :
    (s.markGranted c).urgent = s.urgent := rfl
@[simp] theorem State.markGranted_routine (s : State) (c : Client) :
    (s.markGranted c).routine = s.routine := rfl
@[simp] theorem State.markGranted_waitList (s : State) (c : Client) :
    (s.markGranted c).waitList = s.waitList := rfl
@[simp] theorem State.markGranted_stations (s : State) (c : Client) :
    (s.markGranted c).stations = s.stations := rfl
@[simp] theorem State.markGranted_link (s : State) (c : Client) :
    (s.markGranted c).link = s.link := rfl
@[simp] theorem State.markGranted_schedule (s : State) (c : Client) :
    (s.markGranted c).schedule = s.schedule := rfl
@[simp] theorem State.markGranted_controller (s : State) (c : Client) :
    (s.markGranted c).controller = s.controller := rfl
@[simp] theorem State.markGranted_fifo (s : State) (c : Client) :
    (s.markGranted c).fifo = s.fifo := rfl
@[simp] theorem State.markGranted_collector (s : State) (c : Client) :
    (s.markGranted c).collector = s.collector := rfl
@[simp] theorem State.markGranted_settle (s : State) (c : Client) :
    (s.markGranted c).settle = s.settle := rfl
@[simp] theorem State.markGranted_scan0 (s : State) (c : Client) :
    (s.markGranted c).scan0 = s.scan0 := rfl
@[simp] theorem State.markGranted_scan1 (s : State) (c : Client) :
    (s.markGranted c).scan1 = s.scan1 := rfl
@[simp] theorem State.markGranted_grader (s : State) (c : Client) :
    (s.markGranted c).grader = s.grader := rfl
@[simp] theorem State.markGranted_linePort (s : State) (c : Client) :
    (s.markGranted c).linePort = s.linePort := rfl
@[simp] theorem State.markGranted_sorterPort (s : State) (c : Client) :
    (s.markGranted c).sorterPort = s.sorterPort := rfl
@[simp] theorem State.markGranted_sticky (s : State) (c : Client) :
    (s.markGranted c).sticky = s.sticky := rfl
@[simp] theorem State.markGranted_counters (s : State) (c : Client) :
    (s.markGranted c).counters = s.counters.fold := rfl
@[simp] theorem State.markGranted_snapshot (s : State) (c : Client) :
    (s.markGranted c).snapshot = s.snapshot := rfl
@[simp] theorem State.markGranted_lamps (s : State) (c : Client) :
    (s.markGranted c).lamps = s.lamps := rfl
@[simp] theorem State.markGranted_blinkLit (s : State) (c : Client) :
    (s.markGranted c).blinkLit = s.blinkLit := rfl
@[simp] theorem State.markGranted_linkTxd (s : State) (c : Client) :
    (s.markGranted c).linkTxd = s.linkTxd := rfl
@[simp] theorem State.markGranted_freeReads (s : State) (c : Client) :
    (s.markGranted c).freeReads = s.freeReads := rfl
@[simp] theorem State.markGranted_pending (s : State) (c : Client) :
    (s.markGranted c).pending = s.pending := rfl

/-! ### postWaiting -/

@[simp] theorem State.postWaiting_resetN (s : State) (c : Client) :
    (s.postWaiting c).resetN = s.resetN := rfl
@[simp] theorem State.postWaiting_mode (s : State) (c : Client) :
    (s.postWaiting c).mode = s.mode := rfl
@[simp] theorem State.postWaiting_items (s : State) (c : Client) :
    (s.postWaiting c).items = s.items := rfl
@[simp] theorem State.postWaiting_nextTicket (s : State) (c : Client) :
    (s.postWaiting c).nextTicket = s.nextTicket := rfl
@[simp] theorem State.postWaiting_trayIndex (s : State) (c : Client) :
    (s.postWaiting c).trayIndex = s.trayIndex := rfl
@[simp] theorem State.postWaiting_gradeQueue (s : State) (c : Client) :
    (s.postWaiting c).gradeQueue = s.gradeQueue := rfl
@[simp] theorem State.postWaiting_manifests (s : State) (c : Client) :
    (s.postWaiting c).manifests = s.manifests := rfl
@[simp] theorem State.postWaiting_classes (s : State) (c : Client) :
    (s.postWaiting c).classes = s.classes := rfl
@[simp] theorem State.postWaiting_line (s : State) (c : Client) :
    (s.postWaiting c).line = s.line := rfl
@[simp] theorem State.postWaiting_bins (s : State) (c : Client) :
    (s.postWaiting c).bins = s.bins := rfl
@[simp] theorem State.postWaiting_zones (s : State) (c : Client) :
    (s.postWaiting c).zones = s.zones := rfl
@[simp] theorem State.postWaiting_urgent (s : State) (c : Client) :
    (s.postWaiting c).urgent = s.urgent := rfl
@[simp] theorem State.postWaiting_routine (s : State) (c : Client) :
    (s.postWaiting c).routine = s.routine := rfl
@[simp] theorem State.postWaiting_waitList (s : State) (c : Client) :
    (s.postWaiting c).waitList = s.waitList := rfl
@[simp] theorem State.postWaiting_stations (s : State) (c : Client) :
    (s.postWaiting c).stations = s.stations := rfl
@[simp] theorem State.postWaiting_link (s : State) (c : Client) :
    (s.postWaiting c).link = s.link := rfl
@[simp] theorem State.postWaiting_schedule (s : State) (c : Client) :
    (s.postWaiting c).schedule = s.schedule := rfl
@[simp] theorem State.postWaiting_controller (s : State) (c : Client) :
    (s.postWaiting c).controller = s.controller := rfl
@[simp] theorem State.postWaiting_fifo (s : State) (c : Client) :
    (s.postWaiting c).fifo = s.fifo := rfl
@[simp] theorem State.postWaiting_collector (s : State) (c : Client) :
    (s.postWaiting c).collector = s.collector := rfl
@[simp] theorem State.postWaiting_settle (s : State) (c : Client) :
    (s.postWaiting c).settle = s.settle := rfl
@[simp] theorem State.postWaiting_scan0 (s : State) (c : Client) :
    (s.postWaiting c).scan0 = s.scan0 := rfl
@[simp] theorem State.postWaiting_scan1 (s : State) (c : Client) :
    (s.postWaiting c).scan1 = s.scan1 := rfl
@[simp] theorem State.postWaiting_grader (s : State) (c : Client) :
    (s.postWaiting c).grader = s.grader := rfl
@[simp] theorem State.postWaiting_linePort (s : State) (c : Client) :
    (s.postWaiting c).linePort = s.linePort := rfl
@[simp] theorem State.postWaiting_sorterPort (s : State) (c : Client) :
    (s.postWaiting c).sorterPort = s.sorterPort := rfl
@[simp] theorem State.postWaiting_sticky (s : State) (c : Client) :
    (s.postWaiting c).sticky = s.sticky := rfl
@[simp] theorem State.postWaiting_counters (s : State) (c : Client) :
    (s.postWaiting c).counters = s.counters := rfl
@[simp] theorem State.postWaiting_snapshot (s : State) (c : Client) :
    (s.postWaiting c).snapshot = s.snapshot := rfl
@[simp] theorem State.postWaiting_lamps (s : State) (c : Client) :
    (s.postWaiting c).lamps = s.lamps := rfl
@[simp] theorem State.postWaiting_blinkLit (s : State) (c : Client) :
    (s.postWaiting c).blinkLit = s.blinkLit := rfl
@[simp] theorem State.postWaiting_linkTxd (s : State) (c : Client) :
    (s.postWaiting c).linkTxd = s.linkTxd := rfl
@[simp] theorem State.postWaiting_freeReads (s : State) (c : Client) :
    (s.postWaiting c).freeReads = s.freeReads := rfl
@[simp] theorem State.postWaiting_pending (s : State) (c : Client) :
    (s.postWaiting c).pending = s.pending := rfl

/-! ### withController -/

@[simp] theorem State.withController_resetN (s : State) (f : RoundController → RoundController) :
    (s.withController f).resetN = s.resetN := rfl
@[simp] theorem State.withController_mode (s : State) (f : RoundController → RoundController) :
    (s.withController f).mode = s.mode := rfl
@[simp] theorem State.withController_items (s : State) (f : RoundController → RoundController) :
    (s.withController f).items = s.items := rfl
@[simp] theorem State.withController_nextTicket (s : State) (f : RoundController → RoundController) :
    (s.withController f).nextTicket = s.nextTicket := rfl
@[simp] theorem State.withController_trayIndex (s : State) (f : RoundController → RoundController) :
    (s.withController f).trayIndex = s.trayIndex := rfl
@[simp] theorem State.withController_gradeQueue (s : State) (f : RoundController → RoundController) :
    (s.withController f).gradeQueue = s.gradeQueue := rfl
@[simp] theorem State.withController_manifests (s : State) (f : RoundController → RoundController) :
    (s.withController f).manifests = s.manifests := rfl
@[simp] theorem State.withController_classes (s : State) (f : RoundController → RoundController) :
    (s.withController f).classes = s.classes := rfl
@[simp] theorem State.withController_line (s : State) (f : RoundController → RoundController) :
    (s.withController f).line = s.line := rfl
@[simp] theorem State.withController_bins (s : State) (f : RoundController → RoundController) :
    (s.withController f).bins = s.bins := rfl
@[simp] theorem State.withController_zones (s : State) (f : RoundController → RoundController) :
    (s.withController f).zones = s.zones := rfl
@[simp] theorem State.withController_urgent (s : State) (f : RoundController → RoundController) :
    (s.withController f).urgent = s.urgent := rfl
@[simp] theorem State.withController_routine (s : State) (f : RoundController → RoundController) :
    (s.withController f).routine = s.routine := rfl
@[simp] theorem State.withController_waitList (s : State) (f : RoundController → RoundController) :
    (s.withController f).waitList = s.waitList := rfl
@[simp] theorem State.withController_arbiter (s : State) (f : RoundController → RoundController) :
    (s.withController f).arbiter = s.arbiter := rfl
@[simp] theorem State.withController_stations (s : State) (f : RoundController → RoundController) :
    (s.withController f).stations = s.stations := rfl
@[simp] theorem State.withController_link (s : State) (f : RoundController → RoundController) :
    (s.withController f).link = s.link := rfl
@[simp] theorem State.withController_schedule (s : State) (f : RoundController → RoundController) :
    (s.withController f).schedule = s.schedule := rfl
@[simp] theorem State.withController_fifo (s : State) (f : RoundController → RoundController) :
    (s.withController f).fifo = s.fifo := rfl
@[simp] theorem State.withController_collector (s : State) (f : RoundController → RoundController) :
    (s.withController f).collector = s.collector := rfl
@[simp] theorem State.withController_settle (s : State) (f : RoundController → RoundController) :
    (s.withController f).settle = s.settle := rfl
@[simp] theorem State.withController_scan0 (s : State) (f : RoundController → RoundController) :
    (s.withController f).scan0 = s.scan0 := rfl
@[simp] theorem State.withController_scan1 (s : State) (f : RoundController → RoundController) :
    (s.withController f).scan1 = s.scan1 := rfl
@[simp] theorem State.withController_grader (s : State) (f : RoundController → RoundController) :
    (s.withController f).grader = s.grader := rfl
@[simp] theorem State.withController_linePort (s : State) (f : RoundController → RoundController) :
    (s.withController f).linePort = s.linePort := rfl
@[simp] theorem State.withController_sorterPort (s : State) (f : RoundController → RoundController) :
    (s.withController f).sorterPort = s.sorterPort := rfl
@[simp] theorem State.withController_sticky (s : State) (f : RoundController → RoundController) :
    (s.withController f).sticky = s.sticky := rfl
@[simp] theorem State.withController_counters (s : State) (f : RoundController → RoundController) :
    (s.withController f).counters = s.counters := rfl
@[simp] theorem State.withController_snapshot (s : State) (f : RoundController → RoundController) :
    (s.withController f).snapshot = s.snapshot := rfl
@[simp] theorem State.withController_lamps (s : State) (f : RoundController → RoundController) :
    (s.withController f).lamps = s.lamps := rfl
@[simp] theorem State.withController_blinkLit (s : State) (f : RoundController → RoundController) :
    (s.withController f).blinkLit = s.blinkLit := rfl
@[simp] theorem State.withController_linkTxd (s : State) (f : RoundController → RoundController) :
    (s.withController f).linkTxd = s.linkTxd := rfl
@[simp] theorem State.withController_freeReads (s : State) (f : RoundController → RoundController) :
    (s.withController f).freeReads = s.freeReads := rfl
@[simp] theorem State.withController_pending (s : State) (f : RoundController → RoundController) :
    (s.withController f).pending = s.pending := rfl

/-! ### updateZones -/

@[simp] theorem State.updateZones_resetN (s : State) (f : Zone → Zone) :
    (s.updateZones f).resetN = s.resetN := rfl
@[simp] theorem State.updateZones_mode (s : State) (f : Zone → Zone) :
    (s.updateZones f).mode = s.mode := rfl
@[simp] theorem State.updateZones_items (s : State) (f : Zone → Zone) :
    (s.updateZones f).items = s.items := rfl
@[simp] theorem State.updateZones_nextTicket (s : State) (f : Zone → Zone) :
    (s.updateZones f).nextTicket = s.nextTicket := rfl
@[simp] theorem State.updateZones_trayIndex (s : State) (f : Zone → Zone) :
    (s.updateZones f).trayIndex = s.trayIndex := rfl
@[simp] theorem State.updateZones_gradeQueue (s : State) (f : Zone → Zone) :
    (s.updateZones f).gradeQueue = s.gradeQueue := rfl
@[simp] theorem State.updateZones_manifests (s : State) (f : Zone → Zone) :
    (s.updateZones f).manifests = s.manifests := rfl
@[simp] theorem State.updateZones_classes (s : State) (f : Zone → Zone) :
    (s.updateZones f).classes = s.classes := rfl
@[simp] theorem State.updateZones_line (s : State) (f : Zone → Zone) :
    (s.updateZones f).line = s.line := rfl
@[simp] theorem State.updateZones_bins (s : State) (f : Zone → Zone) :
    (s.updateZones f).bins = s.bins := rfl
@[simp] theorem State.updateZones_urgent (s : State) (f : Zone → Zone) :
    (s.updateZones f).urgent = s.urgent := rfl
@[simp] theorem State.updateZones_routine (s : State) (f : Zone → Zone) :
    (s.updateZones f).routine = s.routine := rfl
@[simp] theorem State.updateZones_waitList (s : State) (f : Zone → Zone) :
    (s.updateZones f).waitList = s.waitList := rfl
@[simp] theorem State.updateZones_arbiter (s : State) (f : Zone → Zone) :
    (s.updateZones f).arbiter = s.arbiter := rfl
@[simp] theorem State.updateZones_stations (s : State) (f : Zone → Zone) :
    (s.updateZones f).stations = s.stations := rfl
@[simp] theorem State.updateZones_link (s : State) (f : Zone → Zone) :
    (s.updateZones f).link = s.link := rfl
@[simp] theorem State.updateZones_schedule (s : State) (f : Zone → Zone) :
    (s.updateZones f).schedule = s.schedule := rfl
@[simp] theorem State.updateZones_controller (s : State) (f : Zone → Zone) :
    (s.updateZones f).controller = s.controller := rfl
@[simp] theorem State.updateZones_fifo (s : State) (f : Zone → Zone) :
    (s.updateZones f).fifo = s.fifo := rfl
@[simp] theorem State.updateZones_collector (s : State) (f : Zone → Zone) :
    (s.updateZones f).collector = s.collector := rfl
@[simp] theorem State.updateZones_settle (s : State) (f : Zone → Zone) :
    (s.updateZones f).settle = s.settle := rfl
@[simp] theorem State.updateZones_scan0 (s : State) (f : Zone → Zone) :
    (s.updateZones f).scan0 = s.scan0 := rfl
@[simp] theorem State.updateZones_scan1 (s : State) (f : Zone → Zone) :
    (s.updateZones f).scan1 = s.scan1 := rfl
@[simp] theorem State.updateZones_grader (s : State) (f : Zone → Zone) :
    (s.updateZones f).grader = s.grader := rfl
@[simp] theorem State.updateZones_linePort (s : State) (f : Zone → Zone) :
    (s.updateZones f).linePort = s.linePort := rfl
@[simp] theorem State.updateZones_sorterPort (s : State) (f : Zone → Zone) :
    (s.updateZones f).sorterPort = s.sorterPort := rfl
@[simp] theorem State.updateZones_sticky (s : State) (f : Zone → Zone) :
    (s.updateZones f).sticky = s.sticky := rfl
@[simp] theorem State.updateZones_counters (s : State) (f : Zone → Zone) :
    (s.updateZones f).counters = s.counters := rfl
@[simp] theorem State.updateZones_snapshot (s : State) (f : Zone → Zone) :
    (s.updateZones f).snapshot = s.snapshot := rfl
@[simp] theorem State.updateZones_lamps (s : State) (f : Zone → Zone) :
    (s.updateZones f).lamps = s.lamps := rfl
@[simp] theorem State.updateZones_blinkLit (s : State) (f : Zone → Zone) :
    (s.updateZones f).blinkLit = s.blinkLit := rfl
@[simp] theorem State.updateZones_linkTxd (s : State) (f : Zone → Zone) :
    (s.updateZones f).linkTxd = s.linkTxd := rfl
@[simp] theorem State.updateZones_freeReads (s : State) (f : Zone → Zone) :
    (s.updateZones f).freeReads = s.freeReads := rfl
@[simp] theorem State.updateZones_pending (s : State) (f : Zone → Zone) :
    (s.updateZones f).pending = s.pending := rfl

/-! ### reserveBin -/

@[simp] theorem State.reserveBin_resetN (s : State) (b k : Nat) :
    (s.reserveBin b k).resetN = s.resetN := rfl
@[simp] theorem State.reserveBin_mode (s : State) (b k : Nat) :
    (s.reserveBin b k).mode = s.mode := rfl
@[simp] theorem State.reserveBin_items (s : State) (b k : Nat) :
    (s.reserveBin b k).items = s.items := rfl
@[simp] theorem State.reserveBin_nextTicket (s : State) (b k : Nat) :
    (s.reserveBin b k).nextTicket = s.nextTicket := rfl
@[simp] theorem State.reserveBin_trayIndex (s : State) (b k : Nat) :
    (s.reserveBin b k).trayIndex = s.trayIndex := rfl
@[simp] theorem State.reserveBin_gradeQueue (s : State) (b k : Nat) :
    (s.reserveBin b k).gradeQueue = s.gradeQueue := rfl
@[simp] theorem State.reserveBin_manifests (s : State) (b k : Nat) :
    (s.reserveBin b k).manifests = s.manifests := rfl
@[simp] theorem State.reserveBin_classes (s : State) (b k : Nat) :
    (s.reserveBin b k).classes = s.classes := rfl
@[simp] theorem State.reserveBin_line (s : State) (b k : Nat) :
    (s.reserveBin b k).line = s.line := rfl
@[simp] theorem State.reserveBin_zones (s : State) (b k : Nat) :
    (s.reserveBin b k).zones = s.zones := rfl
@[simp] theorem State.reserveBin_urgent (s : State) (b k : Nat) :
    (s.reserveBin b k).urgent = s.urgent := rfl
@[simp] theorem State.reserveBin_routine (s : State) (b k : Nat) :
    (s.reserveBin b k).routine = s.routine := rfl
@[simp] theorem State.reserveBin_waitList (s : State) (b k : Nat) :
    (s.reserveBin b k).waitList = s.waitList := rfl
@[simp] theorem State.reserveBin_arbiter (s : State) (b k : Nat) :
    (s.reserveBin b k).arbiter = s.arbiter := rfl
@[simp] theorem State.reserveBin_stations (s : State) (b k : Nat) :
    (s.reserveBin b k).stations = s.stations := rfl
@[simp] theorem State.reserveBin_link (s : State) (b k : Nat) :
    (s.reserveBin b k).link = s.link := rfl
@[simp] theorem State.reserveBin_schedule (s : State) (b k : Nat) :
    (s.reserveBin b k).schedule = s.schedule := rfl
@[simp] theorem State.reserveBin_controller (s : State) (b k : Nat) :
    (s.reserveBin b k).controller = s.controller := rfl
@[simp] theorem State.reserveBin_fifo (s : State) (b k : Nat) :
    (s.reserveBin b k).fifo = s.fifo := rfl
@[simp] theorem State.reserveBin_collector (s : State) (b k : Nat) :
    (s.reserveBin b k).collector = s.collector := rfl
@[simp] theorem State.reserveBin_settle (s : State) (b k : Nat) :
    (s.reserveBin b k).settle = s.settle := rfl
@[simp] theorem State.reserveBin_scan0 (s : State) (b k : Nat) :
    (s.reserveBin b k).scan0 = s.scan0 := rfl
@[simp] theorem State.reserveBin_scan1 (s : State) (b k : Nat) :
    (s.reserveBin b k).scan1 = s.scan1 := rfl
@[simp] theorem State.reserveBin_grader (s : State) (b k : Nat) :
    (s.reserveBin b k).grader = s.grader := rfl
@[simp] theorem State.reserveBin_linePort (s : State) (b k : Nat) :
    (s.reserveBin b k).linePort = s.linePort := rfl
@[simp] theorem State.reserveBin_sorterPort (s : State) (b k : Nat) :
    (s.reserveBin b k).sorterPort = s.sorterPort := rfl
@[simp] theorem State.reserveBin_sticky (s : State) (b k : Nat) :
    (s.reserveBin b k).sticky = s.sticky := rfl
@[simp] theorem State.reserveBin_counters (s : State) (b k : Nat) :
    (s.reserveBin b k).counters = s.counters := rfl
@[simp] theorem State.reserveBin_snapshot (s : State) (b k : Nat) :
    (s.reserveBin b k).snapshot = s.snapshot := rfl
@[simp] theorem State.reserveBin_lamps (s : State) (b k : Nat) :
    (s.reserveBin b k).lamps = s.lamps := rfl
@[simp] theorem State.reserveBin_blinkLit (s : State) (b k : Nat) :
    (s.reserveBin b k).blinkLit = s.blinkLit := rfl
@[simp] theorem State.reserveBin_linkTxd (s : State) (b k : Nat) :
    (s.reserveBin b k).linkTxd = s.linkTxd := rfl
@[simp] theorem State.reserveBin_freeReads (s : State) (b k : Nat) :
    (s.reserveBin b k).freeReads = s.freeReads := rfl
@[simp] theorem State.reserveBin_pending (s : State) (b k : Nat) :
    (s.reserveBin b k).pending = s.pending := rfl

/-! ### releaseBin -/

@[simp] theorem State.releaseBin_resetN (s : State) (b : Nat) :
    (s.releaseBin b).resetN = s.resetN := rfl
@[simp] theorem State.releaseBin_mode (s : State) (b : Nat) :
    (s.releaseBin b).mode = s.mode := rfl
@[simp] theorem State.releaseBin_items (s : State) (b : Nat) :
    (s.releaseBin b).items = s.items := rfl
@[simp] theorem State.releaseBin_nextTicket (s : State) (b : Nat) :
    (s.releaseBin b).nextTicket = s.nextTicket := rfl
@[simp] theorem State.releaseBin_trayIndex (s : State) (b : Nat) :
    (s.releaseBin b).trayIndex = s.trayIndex := rfl
@[simp] theorem State.releaseBin_gradeQueue (s : State) (b : Nat) :
    (s.releaseBin b).gradeQueue = s.gradeQueue := rfl
@[simp] theorem State.releaseBin_manifests (s : State) (b : Nat) :
    (s.releaseBin b).manifests = s.manifests := rfl
@[simp] theorem State.releaseBin_classes (s : State) (b : Nat) :
    (s.releaseBin b).classes = s.classes := rfl
@[simp] theorem State.releaseBin_line (s : State) (b : Nat) :
    (s.releaseBin b).line = s.line := rfl
@[simp] theorem State.releaseBin_zones (s : State) (b : Nat) :
    (s.releaseBin b).zones = s.zones := rfl
@[simp] theorem State.releaseBin_urgent (s : State) (b : Nat) :
    (s.releaseBin b).urgent = s.urgent := rfl
@[simp] theorem State.releaseBin_routine (s : State) (b : Nat) :
    (s.releaseBin b).routine = s.routine := rfl
@[simp] theorem State.releaseBin_waitList (s : State) (b : Nat) :
    (s.releaseBin b).waitList = s.waitList := rfl
@[simp] theorem State.releaseBin_arbiter (s : State) (b : Nat) :
    (s.releaseBin b).arbiter = s.arbiter := rfl
@[simp] theorem State.releaseBin_stations (s : State) (b : Nat) :
    (s.releaseBin b).stations = s.stations := rfl
@[simp] theorem State.releaseBin_link (s : State) (b : Nat) :
    (s.releaseBin b).link = s.link := rfl
@[simp] theorem State.releaseBin_schedule (s : State) (b : Nat) :
    (s.releaseBin b).schedule = s.schedule := rfl
@[simp] theorem State.releaseBin_controller (s : State) (b : Nat) :
    (s.releaseBin b).controller = s.controller := rfl
@[simp] theorem State.releaseBin_fifo (s : State) (b : Nat) :
    (s.releaseBin b).fifo = s.fifo := rfl
@[simp] theorem State.releaseBin_collector (s : State) (b : Nat) :
    (s.releaseBin b).collector = s.collector := rfl
@[simp] theorem State.releaseBin_settle (s : State) (b : Nat) :
    (s.releaseBin b).settle = s.settle := rfl
@[simp] theorem State.releaseBin_scan0 (s : State) (b : Nat) :
    (s.releaseBin b).scan0 = s.scan0 := rfl
@[simp] theorem State.releaseBin_scan1 (s : State) (b : Nat) :
    (s.releaseBin b).scan1 = s.scan1 := rfl
@[simp] theorem State.releaseBin_grader (s : State) (b : Nat) :
    (s.releaseBin b).grader = s.grader := rfl
@[simp] theorem State.releaseBin_linePort (s : State) (b : Nat) :
    (s.releaseBin b).linePort = s.linePort := rfl
@[simp] theorem State.releaseBin_sorterPort (s : State) (b : Nat) :
    (s.releaseBin b).sorterPort = s.sorterPort := rfl
@[simp] theorem State.releaseBin_sticky (s : State) (b : Nat) :
    (s.releaseBin b).sticky = s.sticky := rfl
@[simp] theorem State.releaseBin_counters (s : State) (b : Nat) :
    (s.releaseBin b).counters = s.counters := rfl
@[simp] theorem State.releaseBin_snapshot (s : State) (b : Nat) :
    (s.releaseBin b).snapshot = s.snapshot := rfl
@[simp] theorem State.releaseBin_lamps (s : State) (b : Nat) :
    (s.releaseBin b).lamps = s.lamps := rfl
@[simp] theorem State.releaseBin_blinkLit (s : State) (b : Nat) :
    (s.releaseBin b).blinkLit = s.blinkLit := rfl
@[simp] theorem State.releaseBin_linkTxd (s : State) (b : Nat) :
    (s.releaseBin b).linkTxd = s.linkTxd := rfl
@[simp] theorem State.releaseBin_freeReads (s : State) (b : Nat) :
    (s.releaseBin b).freeReads = s.freeReads := rfl
@[simp] theorem State.releaseBin_pending (s : State) (b : Nat) :
    (s.releaseBin b).pending = s.pending := rfl

/-! ### setPort -/

@[simp] theorem State.setPort_resetN (s : State) (p : Port) (e : PortEngine) :
    (s.setPort p e).resetN = s.resetN := by cases p <;> rfl
@[simp] theorem State.setPort_mode (s : State) (p : Port) (e : PortEngine) :
    (s.setPort p e).mode = s.mode := by cases p <;> rfl
@[simp] theorem State.setPort_items (s : State) (p : Port) (e : PortEngine) :
    (s.setPort p e).items = s.items := by cases p <;> rfl
@[simp] theorem State.setPort_nextTicket (s : State) (p : Port) (e : PortEngine) :
    (s.setPort p e).nextTicket = s.nextTicket := by cases p <;> rfl
@[simp] theorem State.setPort_trayIndex (s : State) (p : Port) (e : PortEngine) :
    (s.setPort p e).trayIndex = s.trayIndex := by cases p <;> rfl
@[simp] theorem State.setPort_gradeQueue (s : State) (p : Port) (e : PortEngine) :
    (s.setPort p e).gradeQueue = s.gradeQueue := by cases p <;> rfl
@[simp] theorem State.setPort_manifests (s : State) (p : Port) (e : PortEngine) :
    (s.setPort p e).manifests = s.manifests := by cases p <;> rfl
@[simp] theorem State.setPort_classes (s : State) (p : Port) (e : PortEngine) :
    (s.setPort p e).classes = s.classes := by cases p <;> rfl
@[simp] theorem State.setPort_line (s : State) (p : Port) (e : PortEngine) :
    (s.setPort p e).line = s.line := by cases p <;> rfl
@[simp] theorem State.setPort_bins (s : State) (p : Port) (e : PortEngine) :
    (s.setPort p e).bins = s.bins := by cases p <;> rfl
@[simp] theorem State.setPort_zones (s : State) (p : Port) (e : PortEngine) :
    (s.setPort p e).zones = s.zones := by cases p <;> rfl
@[simp] theorem State.setPort_urgent (s : State) (p : Port) (e : PortEngine) :
    (s.setPort p e).urgent = s.urgent := by cases p <;> rfl
@[simp] theorem State.setPort_routine (s : State) (p : Port) (e : PortEngine) :
    (s.setPort p e).routine = s.routine := by cases p <;> rfl
@[simp] theorem State.setPort_waitList (s : State) (p : Port) (e : PortEngine) :
    (s.setPort p e).waitList = s.waitList := by cases p <;> rfl
@[simp] theorem State.setPort_arbiter (s : State) (p : Port) (e : PortEngine) :
    (s.setPort p e).arbiter = s.arbiter := by cases p <;> rfl
@[simp] theorem State.setPort_stations (s : State) (p : Port) (e : PortEngine) :
    (s.setPort p e).stations = s.stations := by cases p <;> rfl
@[simp] theorem State.setPort_link (s : State) (p : Port) (e : PortEngine) :
    (s.setPort p e).link = s.link := by cases p <;> rfl
@[simp] theorem State.setPort_schedule (s : State) (p : Port) (e : PortEngine) :
    (s.setPort p e).schedule = s.schedule := by cases p <;> rfl
@[simp] theorem State.setPort_controller (s : State) (p : Port) (e : PortEngine) :
    (s.setPort p e).controller = s.controller := by cases p <;> rfl
@[simp] theorem State.setPort_fifo (s : State) (p : Port) (e : PortEngine) :
    (s.setPort p e).fifo = s.fifo := by cases p <;> rfl
@[simp] theorem State.setPort_collector (s : State) (p : Port) (e : PortEngine) :
    (s.setPort p e).collector = s.collector := by cases p <;> rfl
@[simp] theorem State.setPort_settle (s : State) (p : Port) (e : PortEngine) :
    (s.setPort p e).settle = s.settle := by cases p <;> rfl
@[simp] theorem State.setPort_scan0 (s : State) (p : Port) (e : PortEngine) :
    (s.setPort p e).scan0 = s.scan0 := by cases p <;> rfl
@[simp] theorem State.setPort_scan1 (s : State) (p : Port) (e : PortEngine) :
    (s.setPort p e).scan1 = s.scan1 := by cases p <;> rfl
@[simp] theorem State.setPort_grader (s : State) (p : Port) (e : PortEngine) :
    (s.setPort p e).grader = s.grader := by cases p <;> rfl
@[simp] theorem State.setPort_sticky (s : State) (p : Port) (e : PortEngine) :
    (s.setPort p e).sticky = s.sticky := by cases p <;> rfl
@[simp] theorem State.setPort_counters (s : State) (p : Port) (e : PortEngine) :
    (s.setPort p e).counters = s.counters := by cases p <;> rfl
@[simp] theorem State.setPort_snapshot (s : State) (p : Port) (e : PortEngine) :
    (s.setPort p e).snapshot = s.snapshot := by cases p <;> rfl
@[simp] theorem State.setPort_lamps (s : State) (p : Port) (e : PortEngine) :
    (s.setPort p e).lamps = s.lamps := by cases p <;> rfl
@[simp] theorem State.setPort_blinkLit (s : State) (p : Port) (e : PortEngine) :
    (s.setPort p e).blinkLit = s.blinkLit := by cases p <;> rfl
@[simp] theorem State.setPort_linkTxd (s : State) (p : Port) (e : PortEngine) :
    (s.setPort p e).linkTxd = s.linkTxd := by cases p <;> rfl
@[simp] theorem State.setPort_freeReads (s : State) (p : Port) (e : PortEngine) :
    (s.setPort p e).freeReads = s.freeReads := by cases p <;> rfl
@[simp] theorem State.setPort_pending (s : State) (p : Port) (e : PortEngine) :
    (s.setPort p e).pending = s.pending := by cases p <;> rfl

/-! ### respond -/

@[simp] theorem State.respond_resetN (s : State) (p : Port) (tag rq : Nat) (a : Answer) :
    (s.respond p tag rq a).resetN = s.resetN := by cases p <;> rfl
@[simp] theorem State.respond_mode (s : State) (p : Port) (tag rq : Nat) (a : Answer) :
    (s.respond p tag rq a).mode = s.mode := by cases p <;> rfl
@[simp] theorem State.respond_items (s : State) (p : Port) (tag rq : Nat) (a : Answer) :
    (s.respond p tag rq a).items = s.items := by cases p <;> rfl
@[simp] theorem State.respond_nextTicket (s : State) (p : Port) (tag rq : Nat) (a : Answer) :
    (s.respond p tag rq a).nextTicket = s.nextTicket := by cases p <;> rfl
@[simp] theorem State.respond_trayIndex (s : State) (p : Port) (tag rq : Nat) (a : Answer) :
    (s.respond p tag rq a).trayIndex = s.trayIndex := by cases p <;> rfl
@[simp] theorem State.respond_gradeQueue (s : State) (p : Port) (tag rq : Nat) (a : Answer) :
    (s.respond p tag rq a).gradeQueue = s.gradeQueue := by cases p <;> rfl
@[simp] theorem State.respond_manifests (s : State) (p : Port) (tag rq : Nat) (a : Answer) :
    (s.respond p tag rq a).manifests = s.manifests := by cases p <;> rfl
@[simp] theorem State.respond_classes (s : State) (p : Port) (tag rq : Nat) (a : Answer) :
    (s.respond p tag rq a).classes = s.classes := by cases p <;> rfl
@[simp] theorem State.respond_line (s : State) (p : Port) (tag rq : Nat) (a : Answer) :
    (s.respond p tag rq a).line = s.line := by cases p <;> rfl
@[simp] theorem State.respond_bins (s : State) (p : Port) (tag rq : Nat) (a : Answer) :
    (s.respond p tag rq a).bins = s.bins := by cases p <;> rfl
@[simp] theorem State.respond_zones (s : State) (p : Port) (tag rq : Nat) (a : Answer) :
    (s.respond p tag rq a).zones = s.zones := by cases p <;> rfl
@[simp] theorem State.respond_urgent (s : State) (p : Port) (tag rq : Nat) (a : Answer) :
    (s.respond p tag rq a).urgent = s.urgent := by cases p <;> rfl
@[simp] theorem State.respond_routine (s : State) (p : Port) (tag rq : Nat) (a : Answer) :
    (s.respond p tag rq a).routine = s.routine := by cases p <;> rfl
@[simp] theorem State.respond_waitList (s : State) (p : Port) (tag rq : Nat) (a : Answer) :
    (s.respond p tag rq a).waitList = s.waitList := by cases p <;> rfl
@[simp] theorem State.respond_arbiter (s : State) (p : Port) (tag rq : Nat) (a : Answer) :
    (s.respond p tag rq a).arbiter = s.arbiter := by cases p <;> rfl
@[simp] theorem State.respond_stations (s : State) (p : Port) (tag rq : Nat) (a : Answer) :
    (s.respond p tag rq a).stations = s.stations := by cases p <;> rfl
@[simp] theorem State.respond_link (s : State) (p : Port) (tag rq : Nat) (a : Answer) :
    (s.respond p tag rq a).link = s.link := by cases p <;> rfl
@[simp] theorem State.respond_schedule (s : State) (p : Port) (tag rq : Nat) (a : Answer) :
    (s.respond p tag rq a).schedule = s.schedule := by cases p <;> rfl
@[simp] theorem State.respond_controller (s : State) (p : Port) (tag rq : Nat) (a : Answer) :
    (s.respond p tag rq a).controller = s.controller := by cases p <;> rfl
@[simp] theorem State.respond_fifo (s : State) (p : Port) (tag rq : Nat) (a : Answer) :
    (s.respond p tag rq a).fifo = s.fifo := by cases p <;> rfl
@[simp] theorem State.respond_collector (s : State) (p : Port) (tag rq : Nat) (a : Answer) :
    (s.respond p tag rq a).collector = s.collector := by cases p <;> rfl
@[simp] theorem State.respond_settle (s : State) (p : Port) (tag rq : Nat) (a : Answer) :
    (s.respond p tag rq a).settle = s.settle := by cases p <;> rfl
@[simp] theorem State.respond_scan0 (s : State) (p : Port) (tag rq : Nat) (a : Answer) :
    (s.respond p tag rq a).scan0 = s.scan0 := by cases p <;> rfl
@[simp] theorem State.respond_scan1 (s : State) (p : Port) (tag rq : Nat) (a : Answer) :
    (s.respond p tag rq a).scan1 = s.scan1 := by cases p <;> rfl
@[simp] theorem State.respond_grader (s : State) (p : Port) (tag rq : Nat) (a : Answer) :
    (s.respond p tag rq a).grader = s.grader := by cases p <;> rfl
@[simp] theorem State.respond_sticky (s : State) (p : Port) (tag rq : Nat) (a : Answer) :
    (s.respond p tag rq a).sticky = s.sticky := by cases p <;> rfl
@[simp] theorem State.respond_counters (s : State) (p : Port) (tag rq : Nat) (a : Answer) :
    (s.respond p tag rq a).counters = s.counters := by cases p <;> rfl
@[simp] theorem State.respond_snapshot (s : State) (p : Port) (tag rq : Nat) (a : Answer) :
    (s.respond p tag rq a).snapshot = s.snapshot := by cases p <;> rfl
@[simp] theorem State.respond_lamps (s : State) (p : Port) (tag rq : Nat) (a : Answer) :
    (s.respond p tag rq a).lamps = s.lamps := by cases p <;> rfl
@[simp] theorem State.respond_blinkLit (s : State) (p : Port) (tag rq : Nat) (a : Answer) :
    (s.respond p tag rq a).blinkLit = s.blinkLit := by cases p <;> rfl
@[simp] theorem State.respond_linkTxd (s : State) (p : Port) (tag rq : Nat) (a : Answer) :
    (s.respond p tag rq a).linkTxd = s.linkTxd := by cases p <;> rfl
@[simp] theorem State.respond_freeReads (s : State) (p : Port) (tag rq : Nat) (a : Answer) :
    (s.respond p tag rq a).freeReads = s.freeReads := by cases p <;> rfl
@[simp] theorem State.respond_pending (s : State) (p : Port) (tag rq : Nat) (a : Answer) :
    (s.respond p tag rq a).pending = s.pending := by cases p <;> rfl

/-! ### executing -/

@[simp] theorem State.executing_resetN (s : State) (p : Port) (tag : Nat) (r : Request) :
    (s.executing p tag r).resetN = s.resetN := by cases p <;> rfl
@[simp] theorem State.executing_mode (s : State) (p : Port) (tag : Nat) (r : Request) :
    (s.executing p tag r).mode = s.mode := by cases p <;> rfl
@[simp] theorem State.executing_items (s : State) (p : Port) (tag : Nat) (r : Request) :
    (s.executing p tag r).items = s.items := by cases p <;> rfl
@[simp] theorem State.executing_nextTicket (s : State) (p : Port) (tag : Nat) (r : Request) :
    (s.executing p tag r).nextTicket = s.nextTicket := by cases p <;> rfl
@[simp] theorem State.executing_trayIndex (s : State) (p : Port) (tag : Nat) (r : Request) :
    (s.executing p tag r).trayIndex = s.trayIndex := by cases p <;> rfl
@[simp] theorem State.executing_gradeQueue (s : State) (p : Port) (tag : Nat) (r : Request) :
    (s.executing p tag r).gradeQueue = s.gradeQueue := by cases p <;> rfl
@[simp] theorem State.executing_manifests (s : State) (p : Port) (tag : Nat) (r : Request) :
    (s.executing p tag r).manifests = s.manifests := by cases p <;> rfl
@[simp] theorem State.executing_classes (s : State) (p : Port) (tag : Nat) (r : Request) :
    (s.executing p tag r).classes = s.classes := by cases p <;> rfl
@[simp] theorem State.executing_line (s : State) (p : Port) (tag : Nat) (r : Request) :
    (s.executing p tag r).line = s.line := by cases p <;> rfl
@[simp] theorem State.executing_bins (s : State) (p : Port) (tag : Nat) (r : Request) :
    (s.executing p tag r).bins = s.bins := by cases p <;> rfl
@[simp] theorem State.executing_zones (s : State) (p : Port) (tag : Nat) (r : Request) :
    (s.executing p tag r).zones = s.zones := by cases p <;> rfl
@[simp] theorem State.executing_urgent (s : State) (p : Port) (tag : Nat) (r : Request) :
    (s.executing p tag r).urgent = s.urgent := by cases p <;> rfl
@[simp] theorem State.executing_routine (s : State) (p : Port) (tag : Nat) (r : Request) :
    (s.executing p tag r).routine = s.routine := by cases p <;> rfl
@[simp] theorem State.executing_waitList (s : State) (p : Port) (tag : Nat) (r : Request) :
    (s.executing p tag r).waitList = s.waitList := by cases p <;> rfl
@[simp] theorem State.executing_arbiter (s : State) (p : Port) (tag : Nat) (r : Request) :
    (s.executing p tag r).arbiter = s.arbiter := by cases p <;> rfl
@[simp] theorem State.executing_stations (s : State) (p : Port) (tag : Nat) (r : Request) :
    (s.executing p tag r).stations = s.stations := by cases p <;> rfl
@[simp] theorem State.executing_link (s : State) (p : Port) (tag : Nat) (r : Request) :
    (s.executing p tag r).link = s.link := by cases p <;> rfl
@[simp] theorem State.executing_schedule (s : State) (p : Port) (tag : Nat) (r : Request) :
    (s.executing p tag r).schedule = s.schedule := by cases p <;> rfl
@[simp] theorem State.executing_controller (s : State) (p : Port) (tag : Nat) (r : Request) :
    (s.executing p tag r).controller = s.controller := by cases p <;> rfl
@[simp] theorem State.executing_fifo (s : State) (p : Port) (tag : Nat) (r : Request) :
    (s.executing p tag r).fifo = s.fifo := by cases p <;> rfl
@[simp] theorem State.executing_collector (s : State) (p : Port) (tag : Nat) (r : Request) :
    (s.executing p tag r).collector = s.collector := by cases p <;> rfl
@[simp] theorem State.executing_settle (s : State) (p : Port) (tag : Nat) (r : Request) :
    (s.executing p tag r).settle = s.settle := by cases p <;> rfl
@[simp] theorem State.executing_scan0 (s : State) (p : Port) (tag : Nat) (r : Request) :
    (s.executing p tag r).scan0 = s.scan0 := by cases p <;> rfl
@[simp] theorem State.executing_scan1 (s : State) (p : Port) (tag : Nat) (r : Request) :
    (s.executing p tag r).scan1 = s.scan1 := by cases p <;> rfl
@[simp] theorem State.executing_grader (s : State) (p : Port) (tag : Nat) (r : Request) :
    (s.executing p tag r).grader = s.grader := by cases p <;> rfl
@[simp] theorem State.executing_sticky (s : State) (p : Port) (tag : Nat) (r : Request) :
    (s.executing p tag r).sticky = s.sticky := by cases p <;> rfl
@[simp] theorem State.executing_counters (s : State) (p : Port) (tag : Nat) (r : Request) :
    (s.executing p tag r).counters = s.counters := by cases p <;> rfl
@[simp] theorem State.executing_snapshot (s : State) (p : Port) (tag : Nat) (r : Request) :
    (s.executing p tag r).snapshot = s.snapshot := by cases p <;> rfl
@[simp] theorem State.executing_lamps (s : State) (p : Port) (tag : Nat) (r : Request) :
    (s.executing p tag r).lamps = s.lamps := by cases p <;> rfl
@[simp] theorem State.executing_blinkLit (s : State) (p : Port) (tag : Nat) (r : Request) :
    (s.executing p tag r).blinkLit = s.blinkLit := by cases p <;> rfl
@[simp] theorem State.executing_linkTxd (s : State) (p : Port) (tag : Nat) (r : Request) :
    (s.executing p tag r).linkTxd = s.linkTxd := by cases p <;> rfl
@[simp] theorem State.executing_freeReads (s : State) (p : Port) (tag : Nat) (r : Request) :
    (s.executing p tag r).freeReads = s.freeReads := by cases p <;> rfl
@[simp] theorem State.executing_pending (s : State) (p : Port) (tag : Nat) (r : Request) :
    (s.executing p tag r).pending = s.pending := by cases p <;> rfl

/-! ### setSettle -/

@[simp] theorem State.setSettle_resetN (s : State) (a : Nat) (c : Option SettleContext) :
    (s.setSettle a c).resetN = s.resetN := by cases c <;> rfl
@[simp] theorem State.setSettle_mode (s : State) (a : Nat) (c : Option SettleContext) :
    (s.setSettle a c).mode = s.mode := by cases c <;> rfl
@[simp] theorem State.setSettle_items (s : State) (a : Nat) (c : Option SettleContext) :
    (s.setSettle a c).items = s.items := by cases c <;> rfl
@[simp] theorem State.setSettle_nextTicket (s : State) (a : Nat) (c : Option SettleContext) :
    (s.setSettle a c).nextTicket = s.nextTicket := by cases c <;> rfl
@[simp] theorem State.setSettle_trayIndex (s : State) (a : Nat) (c : Option SettleContext) :
    (s.setSettle a c).trayIndex = s.trayIndex := by cases c <;> rfl
@[simp] theorem State.setSettle_gradeQueue (s : State) (a : Nat) (c : Option SettleContext) :
    (s.setSettle a c).gradeQueue = s.gradeQueue := by cases c <;> rfl
@[simp] theorem State.setSettle_manifests (s : State) (a : Nat) (c : Option SettleContext) :
    (s.setSettle a c).manifests = s.manifests := by cases c <;> rfl
@[simp] theorem State.setSettle_classes (s : State) (a : Nat) (c : Option SettleContext) :
    (s.setSettle a c).classes = s.classes := by cases c <;> rfl
@[simp] theorem State.setSettle_line (s : State) (a : Nat) (c : Option SettleContext) :
    (s.setSettle a c).line = s.line := by cases c <;> rfl
@[simp] theorem State.setSettle_bins (s : State) (a : Nat) (c : Option SettleContext) :
    (s.setSettle a c).bins = s.bins := by cases c <;> rfl
@[simp] theorem State.setSettle_zones (s : State) (a : Nat) (c : Option SettleContext) :
    (s.setSettle a c).zones = s.zones := by cases c <;> rfl
@[simp] theorem State.setSettle_urgent (s : State) (a : Nat) (c : Option SettleContext) :
    (s.setSettle a c).urgent = s.urgent := by cases c <;> rfl
@[simp] theorem State.setSettle_routine (s : State) (a : Nat) (c : Option SettleContext) :
    (s.setSettle a c).routine = s.routine := by cases c <;> rfl
@[simp] theorem State.setSettle_waitList (s : State) (a : Nat) (c : Option SettleContext) :
    (s.setSettle a c).waitList = s.waitList := by cases c <;> rfl
@[simp] theorem State.setSettle_arbiter (s : State) (a : Nat) (c : Option SettleContext) :
    (s.setSettle a c).arbiter = s.arbiter := by cases c <;> rfl
@[simp] theorem State.setSettle_stations (s : State) (a : Nat) (c : Option SettleContext) :
    (s.setSettle a c).stations = s.stations := by cases c <;> rfl
@[simp] theorem State.setSettle_link (s : State) (a : Nat) (c : Option SettleContext) :
    (s.setSettle a c).link = s.link := by cases c <;> rfl
@[simp] theorem State.setSettle_schedule (s : State) (a : Nat) (c : Option SettleContext) :
    (s.setSettle a c).schedule = s.schedule := by cases c <;> rfl
@[simp] theorem State.setSettle_controller (s : State) (a : Nat) (c : Option SettleContext) :
    (s.setSettle a c).controller = s.controller := by cases c <;> rfl
@[simp] theorem State.setSettle_fifo (s : State) (a : Nat) (c : Option SettleContext) :
    (s.setSettle a c).fifo = s.fifo := by cases c <;> rfl
@[simp] theorem State.setSettle_collector (s : State) (a : Nat) (c : Option SettleContext) :
    (s.setSettle a c).collector = s.collector := by cases c <;> rfl
@[simp] theorem State.setSettle_scan0 (s : State) (a : Nat) (c : Option SettleContext) :
    (s.setSettle a c).scan0 = s.scan0 := by cases c <;> rfl
@[simp] theorem State.setSettle_scan1 (s : State) (a : Nat) (c : Option SettleContext) :
    (s.setSettle a c).scan1 = s.scan1 := by cases c <;> rfl
@[simp] theorem State.setSettle_grader (s : State) (a : Nat) (c : Option SettleContext) :
    (s.setSettle a c).grader = s.grader := by cases c <;> rfl
@[simp] theorem State.setSettle_linePort (s : State) (a : Nat) (c : Option SettleContext) :
    (s.setSettle a c).linePort = s.linePort := by cases c <;> rfl
@[simp] theorem State.setSettle_sorterPort (s : State) (a : Nat) (c : Option SettleContext) :
    (s.setSettle a c).sorterPort = s.sorterPort := by cases c <;> rfl
@[simp] theorem State.setSettle_sticky (s : State) (a : Nat) (c : Option SettleContext) :
    (s.setSettle a c).sticky = s.sticky := by cases c <;> rfl
@[simp] theorem State.setSettle_counters (s : State) (a : Nat) (c : Option SettleContext) :
    (s.setSettle a c).counters = s.counters := by cases c <;> rfl
@[simp] theorem State.setSettle_snapshot (s : State) (a : Nat) (c : Option SettleContext) :
    (s.setSettle a c).snapshot = s.snapshot := by cases c <;> rfl
@[simp] theorem State.setSettle_lamps (s : State) (a : Nat) (c : Option SettleContext) :
    (s.setSettle a c).lamps = s.lamps := by cases c <;> rfl
@[simp] theorem State.setSettle_blinkLit (s : State) (a : Nat) (c : Option SettleContext) :
    (s.setSettle a c).blinkLit = s.blinkLit := by cases c <;> rfl
@[simp] theorem State.setSettle_linkTxd (s : State) (a : Nat) (c : Option SettleContext) :
    (s.setSettle a c).linkTxd = s.linkTxd := by cases c <;> rfl
@[simp] theorem State.setSettle_freeReads (s : State) (a : Nat) (c : Option SettleContext) :
    (s.setSettle a c).freeReads = s.freeReads := by cases c <;> rfl
@[simp] theorem State.setSettle_pending (s : State) (a : Nat) (c : Option SettleContext) :
    (s.setSettle a c).pending = s.pending := by cases c <;> rfl

/-! ### setScheduleEntry -/

@[simp] theorem State.setScheduleEntry_resetN (s : State) (i : Nat) (p : Option Poll) :
    (s.setScheduleEntry i p).resetN = s.resetN := by cases p <;> rfl
@[simp] theorem State.setScheduleEntry_mode (s : State) (i : Nat) (p : Option Poll) :
    (s.setScheduleEntry i p).mode = s.mode := by cases p <;> rfl
@[simp] theorem State.setScheduleEntry_items (s : State) (i : Nat) (p : Option Poll) :
    (s.setScheduleEntry i p).items = s.items := by cases p <;> rfl
@[simp] theorem State.setScheduleEntry_nextTicket (s : State) (i : Nat) (p : Option Poll) :
    (s.setScheduleEntry i p).nextTicket = s.nextTicket := by cases p <;> rfl
@[simp] theorem State.setScheduleEntry_trayIndex (s : State) (i : Nat) (p : Option Poll) :
    (s.setScheduleEntry i p).trayIndex = s.trayIndex := by cases p <;> rfl
@[simp] theorem State.setScheduleEntry_gradeQueue (s : State) (i : Nat) (p : Option Poll) :
    (s.setScheduleEntry i p).gradeQueue = s.gradeQueue := by cases p <;> rfl
@[simp] theorem State.setScheduleEntry_manifests (s : State) (i : Nat) (p : Option Poll) :
    (s.setScheduleEntry i p).manifests = s.manifests := by cases p <;> rfl
@[simp] theorem State.setScheduleEntry_classes (s : State) (i : Nat) (p : Option Poll) :
    (s.setScheduleEntry i p).classes = s.classes := by cases p <;> rfl
@[simp] theorem State.setScheduleEntry_line (s : State) (i : Nat) (p : Option Poll) :
    (s.setScheduleEntry i p).line = s.line := by cases p <;> rfl
@[simp] theorem State.setScheduleEntry_bins (s : State) (i : Nat) (p : Option Poll) :
    (s.setScheduleEntry i p).bins = s.bins := by cases p <;> rfl
@[simp] theorem State.setScheduleEntry_zones (s : State) (i : Nat) (p : Option Poll) :
    (s.setScheduleEntry i p).zones = s.zones := by cases p <;> rfl
@[simp] theorem State.setScheduleEntry_urgent (s : State) (i : Nat) (p : Option Poll) :
    (s.setScheduleEntry i p).urgent = s.urgent := by cases p <;> rfl
@[simp] theorem State.setScheduleEntry_routine (s : State) (i : Nat) (p : Option Poll) :
    (s.setScheduleEntry i p).routine = s.routine := by cases p <;> rfl
@[simp] theorem State.setScheduleEntry_waitList (s : State) (i : Nat) (p : Option Poll) :
    (s.setScheduleEntry i p).waitList = s.waitList := by cases p <;> rfl
@[simp] theorem State.setScheduleEntry_arbiter (s : State) (i : Nat) (p : Option Poll) :
    (s.setScheduleEntry i p).arbiter = s.arbiter := by cases p <;> rfl
@[simp] theorem State.setScheduleEntry_stations (s : State) (i : Nat) (p : Option Poll) :
    (s.setScheduleEntry i p).stations = s.stations := by cases p <;> rfl
@[simp] theorem State.setScheduleEntry_link (s : State) (i : Nat) (p : Option Poll) :
    (s.setScheduleEntry i p).link = s.link := by cases p <;> rfl
@[simp] theorem State.setScheduleEntry_controller (s : State) (i : Nat) (p : Option Poll) :
    (s.setScheduleEntry i p).controller = s.controller := by cases p <;> rfl
@[simp] theorem State.setScheduleEntry_fifo (s : State) (i : Nat) (p : Option Poll) :
    (s.setScheduleEntry i p).fifo = s.fifo := by cases p <;> rfl
@[simp] theorem State.setScheduleEntry_collector (s : State) (i : Nat) (p : Option Poll) :
    (s.setScheduleEntry i p).collector = s.collector := by cases p <;> rfl
@[simp] theorem State.setScheduleEntry_settle (s : State) (i : Nat) (p : Option Poll) :
    (s.setScheduleEntry i p).settle = s.settle := by cases p <;> rfl
@[simp] theorem State.setScheduleEntry_scan0 (s : State) (i : Nat) (p : Option Poll) :
    (s.setScheduleEntry i p).scan0 = s.scan0 := by cases p <;> rfl
@[simp] theorem State.setScheduleEntry_scan1 (s : State) (i : Nat) (p : Option Poll) :
    (s.setScheduleEntry i p).scan1 = s.scan1 := by cases p <;> rfl
@[simp] theorem State.setScheduleEntry_grader (s : State) (i : Nat) (p : Option Poll) :
    (s.setScheduleEntry i p).grader = s.grader := by cases p <;> rfl
@[simp] theorem State.setScheduleEntry_linePort (s : State) (i : Nat) (p : Option Poll) :
    (s.setScheduleEntry i p).linePort = s.linePort := by cases p <;> rfl
@[simp] theorem State.setScheduleEntry_sorterPort (s : State) (i : Nat) (p : Option Poll) :
    (s.setScheduleEntry i p).sorterPort = s.sorterPort := by cases p <;> rfl
@[simp] theorem State.setScheduleEntry_sticky (s : State) (i : Nat) (p : Option Poll) :
    (s.setScheduleEntry i p).sticky = s.sticky := by cases p <;> rfl
@[simp] theorem State.setScheduleEntry_counters (s : State) (i : Nat) (p : Option Poll) :
    (s.setScheduleEntry i p).counters = s.counters := by cases p <;> rfl
@[simp] theorem State.setScheduleEntry_snapshot (s : State) (i : Nat) (p : Option Poll) :
    (s.setScheduleEntry i p).snapshot = s.snapshot := by cases p <;> rfl
@[simp] theorem State.setScheduleEntry_lamps (s : State) (i : Nat) (p : Option Poll) :
    (s.setScheduleEntry i p).lamps = s.lamps := by cases p <;> rfl
@[simp] theorem State.setScheduleEntry_blinkLit (s : State) (i : Nat) (p : Option Poll) :
    (s.setScheduleEntry i p).blinkLit = s.blinkLit := by cases p <;> rfl
@[simp] theorem State.setScheduleEntry_linkTxd (s : State) (i : Nat) (p : Option Poll) :
    (s.setScheduleEntry i p).linkTxd = s.linkTxd := by cases p <;> rfl
@[simp] theorem State.setScheduleEntry_freeReads (s : State) (i : Nat) (p : Option Poll) :
    (s.setScheduleEntry i p).freeReads = s.freeReads := by cases p <;> rfl
@[simp] theorem State.setScheduleEntry_pending (s : State) (i : Nat) (p : Option Poll) :
    (s.setScheduleEntry i p).pending = s.pending := by cases p <;> rfl

/-! ### setScan -/

@[simp] theorem State.setScan_resetN (s : State) (second : Bool) (c : ScanContext) :
    (s.setScan second c).resetN = s.resetN := by cases second <;> rfl
@[simp] theorem State.setScan_mode (s : State) (second : Bool) (c : ScanContext) :
    (s.setScan second c).mode = s.mode := by cases second <;> rfl
@[simp] theorem State.setScan_items (s : State) (second : Bool) (c : ScanContext) :
    (s.setScan second c).items = s.items := by cases second <;> rfl
@[simp] theorem State.setScan_nextTicket (s : State) (second : Bool) (c : ScanContext) :
    (s.setScan second c).nextTicket = s.nextTicket := by cases second <;> rfl
@[simp] theorem State.setScan_trayIndex (s : State) (second : Bool) (c : ScanContext) :
    (s.setScan second c).trayIndex = s.trayIndex := by cases second <;> rfl
@[simp] theorem State.setScan_gradeQueue (s : State) (second : Bool) (c : ScanContext) :
    (s.setScan second c).gradeQueue = s.gradeQueue := by cases second <;> rfl
@[simp] theorem State.setScan_manifests (s : State) (second : Bool) (c : ScanContext) :
    (s.setScan second c).manifests = s.manifests := by cases second <;> rfl
@[simp] theorem State.setScan_classes (s : State) (second : Bool) (c : ScanContext) :
    (s.setScan second c).classes = s.classes := by cases second <;> rfl
@[simp] theorem State.setScan_line (s : State) (second : Bool) (c : ScanContext) :
    (s.setScan second c).line = s.line := by cases second <;> rfl
@[simp] theorem State.setScan_bins (s : State) (second : Bool) (c : ScanContext) :
    (s.setScan second c).bins = s.bins := by cases second <;> rfl
@[simp] theorem State.setScan_zones (s : State) (second : Bool) (c : ScanContext) :
    (s.setScan second c).zones = s.zones := by cases second <;> rfl
@[simp] theorem State.setScan_urgent (s : State) (second : Bool) (c : ScanContext) :
    (s.setScan second c).urgent = s.urgent := by cases second <;> rfl
@[simp] theorem State.setScan_routine (s : State) (second : Bool) (c : ScanContext) :
    (s.setScan second c).routine = s.routine := by cases second <;> rfl
@[simp] theorem State.setScan_waitList (s : State) (second : Bool) (c : ScanContext) :
    (s.setScan second c).waitList = s.waitList := by cases second <;> rfl
@[simp] theorem State.setScan_arbiter (s : State) (second : Bool) (c : ScanContext) :
    (s.setScan second c).arbiter = s.arbiter := by cases second <;> rfl
@[simp] theorem State.setScan_stations (s : State) (second : Bool) (c : ScanContext) :
    (s.setScan second c).stations = s.stations := by cases second <;> rfl
@[simp] theorem State.setScan_link (s : State) (second : Bool) (c : ScanContext) :
    (s.setScan second c).link = s.link := by cases second <;> rfl
@[simp] theorem State.setScan_schedule (s : State) (second : Bool) (c : ScanContext) :
    (s.setScan second c).schedule = s.schedule := by cases second <;> rfl
@[simp] theorem State.setScan_controller (s : State) (second : Bool) (c : ScanContext) :
    (s.setScan second c).controller = s.controller := by cases second <;> rfl
@[simp] theorem State.setScan_fifo (s : State) (second : Bool) (c : ScanContext) :
    (s.setScan second c).fifo = s.fifo := by cases second <;> rfl
@[simp] theorem State.setScan_collector (s : State) (second : Bool) (c : ScanContext) :
    (s.setScan second c).collector = s.collector := by cases second <;> rfl
@[simp] theorem State.setScan_settle (s : State) (second : Bool) (c : ScanContext) :
    (s.setScan second c).settle = s.settle := by cases second <;> rfl
@[simp] theorem State.setScan_grader (s : State) (second : Bool) (c : ScanContext) :
    (s.setScan second c).grader = s.grader := by cases second <;> rfl
@[simp] theorem State.setScan_linePort (s : State) (second : Bool) (c : ScanContext) :
    (s.setScan second c).linePort = s.linePort := by cases second <;> rfl
@[simp] theorem State.setScan_sorterPort (s : State) (second : Bool) (c : ScanContext) :
    (s.setScan second c).sorterPort = s.sorterPort := by cases second <;> rfl
@[simp] theorem State.setScan_sticky (s : State) (second : Bool) (c : ScanContext) :
    (s.setScan second c).sticky = s.sticky := by cases second <;> rfl
@[simp] theorem State.setScan_counters (s : State) (second : Bool) (c : ScanContext) :
    (s.setScan second c).counters = s.counters := by cases second <;> rfl
@[simp] theorem State.setScan_snapshot (s : State) (second : Bool) (c : ScanContext) :
    (s.setScan second c).snapshot = s.snapshot := by cases second <;> rfl
@[simp] theorem State.setScan_lamps (s : State) (second : Bool) (c : ScanContext) :
    (s.setScan second c).lamps = s.lamps := by cases second <;> rfl
@[simp] theorem State.setScan_blinkLit (s : State) (second : Bool) (c : ScanContext) :
    (s.setScan second c).blinkLit = s.blinkLit := by cases second <;> rfl
@[simp] theorem State.setScan_linkTxd (s : State) (second : Bool) (c : ScanContext) :
    (s.setScan second c).linkTxd = s.linkTxd := by cases second <;> rfl
@[simp] theorem State.setScan_freeReads (s : State) (second : Bool) (c : ScanContext) :
    (s.setScan second c).freeReads = s.freeReads := by cases second <;> rfl
@[simp] theorem State.setScan_pending (s : State) (second : Bool) (c : ScanContext) :
    (s.setScan second c).pending = s.pending := by cases second <;> rfl

/-! ### queueReport -/

@[simp] theorem State.queueReport_resetN (s : State) (r : Report) :
    (s.queueReport r).resetN = s.resetN := by unfold State.queueReport; split <;> rfl
@[simp] theorem State.queueReport_mode (s : State) (r : Report) :
    (s.queueReport r).mode = s.mode := by unfold State.queueReport; split <;> rfl
@[simp] theorem State.queueReport_items (s : State) (r : Report) :
    (s.queueReport r).items = s.items := by unfold State.queueReport; split <;> rfl
@[simp] theorem State.queueReport_nextTicket (s : State) (r : Report) :
    (s.queueReport r).nextTicket = s.nextTicket := by unfold State.queueReport; split <;> rfl
@[simp] theorem State.queueReport_trayIndex (s : State) (r : Report) :
    (s.queueReport r).trayIndex = s.trayIndex := by unfold State.queueReport; split <;> rfl
@[simp] theorem State.queueReport_gradeQueue (s : State) (r : Report) :
    (s.queueReport r).gradeQueue = s.gradeQueue := by unfold State.queueReport; split <;> rfl
@[simp] theorem State.queueReport_manifests (s : State) (r : Report) :
    (s.queueReport r).manifests = s.manifests := by unfold State.queueReport; split <;> rfl
@[simp] theorem State.queueReport_classes (s : State) (r : Report) :
    (s.queueReport r).classes = s.classes := by unfold State.queueReport; split <;> rfl
@[simp] theorem State.queueReport_line (s : State) (r : Report) :
    (s.queueReport r).line = s.line := by unfold State.queueReport; split <;> rfl
@[simp] theorem State.queueReport_bins (s : State) (r : Report) :
    (s.queueReport r).bins = s.bins := by unfold State.queueReport; split <;> rfl
@[simp] theorem State.queueReport_zones (s : State) (r : Report) :
    (s.queueReport r).zones = s.zones := by unfold State.queueReport; split <;> rfl
@[simp] theorem State.queueReport_waitList (s : State) (r : Report) :
    (s.queueReport r).waitList = s.waitList := by unfold State.queueReport; split <;> rfl
@[simp] theorem State.queueReport_arbiter (s : State) (r : Report) :
    (s.queueReport r).arbiter = s.arbiter := by unfold State.queueReport; split <;> rfl
@[simp] theorem State.queueReport_stations (s : State) (r : Report) :
    (s.queueReport r).stations = s.stations := by unfold State.queueReport; split <;> rfl
@[simp] theorem State.queueReport_link (s : State) (r : Report) :
    (s.queueReport r).link = s.link := by unfold State.queueReport; split <;> rfl
@[simp] theorem State.queueReport_schedule (s : State) (r : Report) :
    (s.queueReport r).schedule = s.schedule := by unfold State.queueReport; split <;> rfl
@[simp] theorem State.queueReport_controller (s : State) (r : Report) :
    (s.queueReport r).controller = s.controller := by unfold State.queueReport; split <;> rfl
@[simp] theorem State.queueReport_fifo (s : State) (r : Report) :
    (s.queueReport r).fifo = s.fifo := by unfold State.queueReport; split <;> rfl
@[simp] theorem State.queueReport_collector (s : State) (r : Report) :
    (s.queueReport r).collector = s.collector := by unfold State.queueReport; split <;> rfl
@[simp] theorem State.queueReport_settle (s : State) (r : Report) :
    (s.queueReport r).settle = s.settle := by unfold State.queueReport; split <;> rfl
@[simp] theorem State.queueReport_scan0 (s : State) (r : Report) :
    (s.queueReport r).scan0 = s.scan0 := by unfold State.queueReport; split <;> rfl
@[simp] theorem State.queueReport_scan1 (s : State) (r : Report) :
    (s.queueReport r).scan1 = s.scan1 := by unfold State.queueReport; split <;> rfl
@[simp] theorem State.queueReport_grader (s : State) (r : Report) :
    (s.queueReport r).grader = s.grader := by unfold State.queueReport; split <;> rfl
@[simp] theorem State.queueReport_linePort (s : State) (r : Report) :
    (s.queueReport r).linePort = s.linePort := by unfold State.queueReport; split <;> rfl
@[simp] theorem State.queueReport_sorterPort (s : State) (r : Report) :
    (s.queueReport r).sorterPort = s.sorterPort := by unfold State.queueReport; split <;> rfl
@[simp] theorem State.queueReport_sticky (s : State) (r : Report) :
    (s.queueReport r).sticky = s.sticky := by unfold State.queueReport; split <;> rfl
@[simp] theorem State.queueReport_counters (s : State) (r : Report) :
    (s.queueReport r).counters = s.counters := by unfold State.queueReport; split <;> rfl
@[simp] theorem State.queueReport_snapshot (s : State) (r : Report) :
    (s.queueReport r).snapshot = s.snapshot := by unfold State.queueReport; split <;> rfl
@[simp] theorem State.queueReport_lamps (s : State) (r : Report) :
    (s.queueReport r).lamps = s.lamps := by unfold State.queueReport; split <;> rfl
@[simp] theorem State.queueReport_blinkLit (s : State) (r : Report) :
    (s.queueReport r).blinkLit = s.blinkLit := by unfold State.queueReport; split <;> rfl
@[simp] theorem State.queueReport_linkTxd (s : State) (r : Report) :
    (s.queueReport r).linkTxd = s.linkTxd := by unfold State.queueReport; split <;> rfl
@[simp] theorem State.queueReport_freeReads (s : State) (r : Report) :
    (s.queueReport r).freeReads = s.freeReads := by unfold State.queueReport; split <;> rfl
@[simp] theorem State.queueReport_pending (s : State) (r : Report) :
    (s.queueReport r).pending = s.pending := by unfold State.queueReport; split <;> rfl

/-! ### releaseReservation -/

@[simp] theorem State.releaseReservation_resetN (s : State) (it : Item) :
    (s.releaseReservation it).resetN = s.resetN := by unfold State.releaseReservation; split <;> rfl
@[simp] theorem State.releaseReservation_mode (s : State) (it : Item) :
    (s.releaseReservation it).mode = s.mode := by unfold State.releaseReservation; split <;> rfl
@[simp] theorem State.releaseReservation_items (s : State) (it : Item) :
    (s.releaseReservation it).items = s.items := by unfold State.releaseReservation; split <;> rfl
@[simp] theorem State.releaseReservation_nextTicket (s : State) (it : Item) :
    (s.releaseReservation it).nextTicket = s.nextTicket := by unfold State.releaseReservation; split <;> rfl
@[simp] theorem State.releaseReservation_trayIndex (s : State) (it : Item) :
    (s.releaseReservation it).trayIndex = s.trayIndex := by unfold State.releaseReservation; split <;> rfl
@[simp] theorem State.releaseReservation_gradeQueue (s : State) (it : Item) :
    (s.releaseReservation it).gradeQueue = s.gradeQueue := by unfold State.releaseReservation; split <;> rfl
@[simp] theorem State.releaseReservation_manifests (s : State) (it : Item) :
    (s.releaseReservation it).manifests = s.manifests := by unfold State.releaseReservation; split <;> rfl
@[simp] theorem State.releaseReservation_classes (s : State) (it : Item) :
    (s.releaseReservation it).classes = s.classes := by unfold State.releaseReservation; split <;> rfl
@[simp] theorem State.releaseReservation_line (s : State) (it : Item) :
    (s.releaseReservation it).line = s.line := by unfold State.releaseReservation; split <;> rfl
@[simp] theorem State.releaseReservation_zones (s : State) (it : Item) :
    (s.releaseReservation it).zones = s.zones := by unfold State.releaseReservation; split <;> rfl
@[simp] theorem State.releaseReservation_urgent (s : State) (it : Item) :
    (s.releaseReservation it).urgent = s.urgent := by unfold State.releaseReservation; split <;> rfl
@[simp] theorem State.releaseReservation_routine (s : State) (it : Item) :
    (s.releaseReservation it).routine = s.routine := by unfold State.releaseReservation; split <;> rfl
@[simp] theorem State.releaseReservation_waitList (s : State) (it : Item) :
    (s.releaseReservation it).waitList = s.waitList := by unfold State.releaseReservation; split <;> rfl
@[simp] theorem State.releaseReservation_arbiter (s : State) (it : Item) :
    (s.releaseReservation it).arbiter = s.arbiter := by unfold State.releaseReservation; split <;> rfl
@[simp] theorem State.releaseReservation_stations (s : State) (it : Item) :
    (s.releaseReservation it).stations = s.stations := by unfold State.releaseReservation; split <;> rfl
@[simp] theorem State.releaseReservation_link (s : State) (it : Item) :
    (s.releaseReservation it).link = s.link := by unfold State.releaseReservation; split <;> rfl
@[simp] theorem State.releaseReservation_schedule (s : State) (it : Item) :
    (s.releaseReservation it).schedule = s.schedule := by unfold State.releaseReservation; split <;> rfl
@[simp] theorem State.releaseReservation_controller (s : State) (it : Item) :
    (s.releaseReservation it).controller = s.controller := by unfold State.releaseReservation; split <;> rfl
@[simp] theorem State.releaseReservation_fifo (s : State) (it : Item) :
    (s.releaseReservation it).fifo = s.fifo := by unfold State.releaseReservation; split <;> rfl
@[simp] theorem State.releaseReservation_collector (s : State) (it : Item) :
    (s.releaseReservation it).collector = s.collector := by unfold State.releaseReservation; split <;> rfl
@[simp] theorem State.releaseReservation_settle (s : State) (it : Item) :
    (s.releaseReservation it).settle = s.settle := by unfold State.releaseReservation; split <;> rfl
@[simp] theorem State.releaseReservation_scan0 (s : State) (it : Item) :
    (s.releaseReservation it).scan0 = s.scan0 := by unfold State.releaseReservation; split <;> rfl
@[simp] theorem State.releaseReservation_scan1 (s : State) (it : Item) :
    (s.releaseReservation it).scan1 = s.scan1 := by unfold State.releaseReservation; split <;> rfl
@[simp] theorem State.releaseReservation_grader (s : State) (it : Item) :
    (s.releaseReservation it).grader = s.grader := by unfold State.releaseReservation; split <;> rfl
@[simp] theorem State.releaseReservation_linePort (s : State) (it : Item) :
    (s.releaseReservation it).linePort = s.linePort := by unfold State.releaseReservation; split <;> rfl
@[simp] theorem State.releaseReservation_sorterPort (s : State) (it : Item) :
    (s.releaseReservation it).sorterPort = s.sorterPort := by unfold State.releaseReservation; split <;> rfl
@[simp] theorem State.releaseReservation_sticky (s : State) (it : Item) :
    (s.releaseReservation it).sticky = s.sticky := by unfold State.releaseReservation; split <;> rfl
@[simp] theorem State.releaseReservation_counters (s : State) (it : Item) :
    (s.releaseReservation it).counters = s.counters := by unfold State.releaseReservation; split <;> rfl
@[simp] theorem State.releaseReservation_snapshot (s : State) (it : Item) :
    (s.releaseReservation it).snapshot = s.snapshot := by unfold State.releaseReservation; split <;> rfl
@[simp] theorem State.releaseReservation_lamps (s : State) (it : Item) :
    (s.releaseReservation it).lamps = s.lamps := by unfold State.releaseReservation; split <;> rfl
@[simp] theorem State.releaseReservation_blinkLit (s : State) (it : Item) :
    (s.releaseReservation it).blinkLit = s.blinkLit := by unfold State.releaseReservation; split <;> rfl
@[simp] theorem State.releaseReservation_linkTxd (s : State) (it : Item) :
    (s.releaseReservation it).linkTxd = s.linkTxd := by unfold State.releaseReservation; split <;> rfl
@[simp] theorem State.releaseReservation_freeReads (s : State) (it : Item) :
    (s.releaseReservation it).freeReads = s.freeReads := by unfold State.releaseReservation; split <;> rfl
@[simp] theorem State.releaseReservation_pending (s : State) (it : Item) :
    (s.releaseReservation it).pending = s.pending := by unfold State.releaseReservation; split <;> rfl

/-! ### closeRaises -/

@[simp] theorem State.closeRaises_resetN (s : State) : s.closeRaises.resetN = s.resetN := rfl
@[simp] theorem State.closeRaises_mode (s : State) : s.closeRaises.mode = s.mode := rfl
@[simp] theorem State.closeRaises_items (s : State) : s.closeRaises.items = s.items := rfl
@[simp] theorem State.closeRaises_nextTicket (s : State) : s.closeRaises.nextTicket = s.nextTicket := rfl
@[simp] theorem State.closeRaises_trayIndex (s : State) : s.closeRaises.trayIndex = s.trayIndex := rfl
@[simp] theorem State.closeRaises_gradeQueue (s : State) : s.closeRaises.gradeQueue = s.gradeQueue := rfl
@[simp] theorem State.closeRaises_manifests (s : State) : s.closeRaises.manifests = s.manifests := rfl
@[simp] theorem State.closeRaises_classes (s : State) : s.closeRaises.classes = s.classes := rfl
@[simp] theorem State.closeRaises_line (s : State) : s.closeRaises.line = s.line := rfl
@[simp] theorem State.closeRaises_bins (s : State) : s.closeRaises.bins = s.bins := rfl
@[simp] theorem State.closeRaises_zones (s : State) : s.closeRaises.zones = s.zones := rfl
@[simp] theorem State.closeRaises_urgent (s : State) : s.closeRaises.urgent = s.urgent := rfl
@[simp] theorem State.closeRaises_routine (s : State) : s.closeRaises.routine = s.routine := rfl
@[simp] theorem State.closeRaises_waitList (s : State) : s.closeRaises.waitList = s.waitList := rfl
@[simp] theorem State.closeRaises_arbiter (s : State) : s.closeRaises.arbiter = s.arbiter := rfl
@[simp] theorem State.closeRaises_stations (s : State) : s.closeRaises.stations = s.stations := rfl
@[simp] theorem State.closeRaises_link (s : State) : s.closeRaises.link = s.link := rfl
@[simp] theorem State.closeRaises_schedule (s : State) : s.closeRaises.schedule = s.schedule := rfl
@[simp] theorem State.closeRaises_controller (s : State) : s.closeRaises.controller = s.controller := rfl
@[simp] theorem State.closeRaises_fifo (s : State) : s.closeRaises.fifo = s.fifo := rfl
@[simp] theorem State.closeRaises_collector (s : State) : s.closeRaises.collector = s.collector := rfl
@[simp] theorem State.closeRaises_settle (s : State) : s.closeRaises.settle = s.settle := rfl
@[simp] theorem State.closeRaises_scan0 (s : State) : s.closeRaises.scan0 = s.scan0 := rfl
@[simp] theorem State.closeRaises_scan1 (s : State) : s.closeRaises.scan1 = s.scan1 := rfl
@[simp] theorem State.closeRaises_grader (s : State) : s.closeRaises.grader = s.grader := rfl
@[simp] theorem State.closeRaises_linePort (s : State) : s.closeRaises.linePort = s.linePort := rfl
@[simp] theorem State.closeRaises_sorterPort (s : State) : s.closeRaises.sorterPort = s.sorterPort := rfl
@[simp] theorem State.closeRaises_sticky (s : State) : s.closeRaises.sticky = s.sticky := rfl
@[simp] theorem State.closeRaises_counters (s : State) : s.closeRaises.counters = s.counters.fold := rfl
@[simp] theorem State.closeRaises_snapshot (s : State) : s.closeRaises.snapshot = s.snapshot := rfl
@[simp] theorem State.closeRaises_lamps (s : State) : s.closeRaises.lamps = s.lamps := rfl
@[simp] theorem State.closeRaises_blinkLit (s : State) : s.closeRaises.blinkLit = s.blinkLit := rfl
@[simp] theorem State.closeRaises_linkTxd (s : State) : s.closeRaises.linkTxd = s.linkTxd := rfl
@[simp] theorem State.closeRaises_freeReads (s : State) : s.closeRaises.freeReads = s.freeReads := rfl
@[simp] theorem State.closeRaises_pending (s : State) : s.closeRaises.pending = s.pending := rfl
@[simp] theorem State.closeRaises_port (s : State) (p : Port) : s.closeRaises.port p = s.port p := by
  cases p <;> rfl

/-! ### granted -/

@[simp] theorem State.granted_resetN (s : State) (c : Client) : (s.granted c).resetN = s.resetN := rfl
@[simp] theorem State.granted_mode (s : State) (c : Client) : (s.granted c).mode = s.mode := rfl
@[simp] theorem State.granted_items (s : State) (c : Client) : (s.granted c).items = s.items := rfl
@[simp] theorem State.granted_nextTicket (s : State) (c : Client) : (s.granted c).nextTicket = s.nextTicket := rfl
@[simp] theorem State.granted_trayIndex (s : State) (c : Client) : (s.granted c).trayIndex = s.trayIndex := rfl
@[simp] theorem State.granted_gradeQueue (s : State) (c : Client) : (s.granted c).gradeQueue = s.gradeQueue := rfl
@[simp] theorem State.granted_manifests (s : State) (c : Client) : (s.granted c).manifests = s.manifests := rfl
@[simp] theorem State.granted_classes (s : State) (c : Client) : (s.granted c).classes = s.classes := rfl
@[simp] theorem State.granted_line (s : State) (c : Client) : (s.granted c).line = s.line := rfl
@[simp] theorem State.granted_bins (s : State) (c : Client) : (s.granted c).bins = s.bins := rfl
@[simp] theorem State.granted_zones (s : State) (c : Client) : (s.granted c).zones = s.zones := rfl
@[simp] theorem State.granted_urgent (s : State) (c : Client) : (s.granted c).urgent = s.urgent := rfl
@[simp] theorem State.granted_routine (s : State) (c : Client) : (s.granted c).routine = s.routine := rfl
@[simp] theorem State.granted_waitList (s : State) (c : Client) : (s.granted c).waitList = s.waitList := rfl
@[simp] theorem State.granted_stations (s : State) (c : Client) : (s.granted c).stations = s.stations := rfl
@[simp] theorem State.granted_link (s : State) (c : Client) : (s.granted c).link = s.link := rfl
@[simp] theorem State.granted_schedule (s : State) (c : Client) : (s.granted c).schedule = s.schedule := rfl
@[simp] theorem State.granted_controller (s : State) (c : Client) : (s.granted c).controller = s.controller := rfl
@[simp] theorem State.granted_fifo (s : State) (c : Client) : (s.granted c).fifo = s.fifo := rfl
@[simp] theorem State.granted_collector (s : State) (c : Client) : (s.granted c).collector = s.collector := rfl
@[simp] theorem State.granted_settle (s : State) (c : Client) : (s.granted c).settle = s.settle := rfl
@[simp] theorem State.granted_scan0 (s : State) (c : Client) : (s.granted c).scan0 = s.scan0 := rfl
@[simp] theorem State.granted_scan1 (s : State) (c : Client) : (s.granted c).scan1 = s.scan1 := rfl
@[simp] theorem State.granted_grader (s : State) (c : Client) : (s.granted c).grader = s.grader := rfl
@[simp] theorem State.granted_linePort (s : State) (c : Client) : (s.granted c).linePort = s.linePort := rfl
@[simp] theorem State.granted_sorterPort (s : State) (c : Client) : (s.granted c).sorterPort = s.sorterPort := rfl
@[simp] theorem State.granted_sticky (s : State) (c : Client) : (s.granted c).sticky = s.sticky := rfl
@[simp] theorem State.granted_counters (s : State) (c : Client) : (s.granted c).counters = s.counters := rfl
@[simp] theorem State.granted_snapshot (s : State) (c : Client) : (s.granted c).snapshot = s.snapshot := rfl
@[simp] theorem State.granted_lamps (s : State) (c : Client) : (s.granted c).lamps = s.lamps := rfl
@[simp] theorem State.granted_blinkLit (s : State) (c : Client) : (s.granted c).blinkLit = s.blinkLit := rfl
@[simp] theorem State.granted_linkTxd (s : State) (c : Client) : (s.granted c).linkTxd = s.linkTxd := rfl
@[simp] theorem State.granted_freeReads (s : State) (c : Client) : (s.granted c).freeReads = s.freeReads := rfl
@[simp] theorem State.granted_pending (s : State) (c : Client) : (s.granted c).pending = s.pending := rfl

/-! ### foldRaises -/

@[simp] theorem State.foldRaises_resetN (s : State) (p : Port) :
    (s.foldRaises p).resetN = s.resetN := by cases p <;> rfl
@[simp] theorem State.foldRaises_mode (s : State) (p : Port) :
    (s.foldRaises p).mode = s.mode := by cases p <;> rfl
@[simp] theorem State.foldRaises_items (s : State) (p : Port) :
    (s.foldRaises p).items = s.items := by cases p <;> rfl
@[simp] theorem State.foldRaises_nextTicket (s : State) (p : Port) :
    (s.foldRaises p).nextTicket = s.nextTicket := by cases p <;> rfl
@[simp] theorem State.foldRaises_trayIndex (s : State) (p : Port) :
    (s.foldRaises p).trayIndex = s.trayIndex := by cases p <;> rfl
@[simp] theorem State.foldRaises_gradeQueue (s : State) (p : Port) :
    (s.foldRaises p).gradeQueue = s.gradeQueue := by cases p <;> rfl
@[simp] theorem State.foldRaises_manifests (s : State) (p : Port) :
    (s.foldRaises p).manifests = s.manifests := by cases p <;> rfl
@[simp] theorem State.foldRaises_classes (s : State) (p : Port) :
    (s.foldRaises p).classes = s.classes := by cases p <;> rfl
@[simp] theorem State.foldRaises_line (s : State) (p : Port) :
    (s.foldRaises p).line = s.line := by cases p <;> rfl
@[simp] theorem State.foldRaises_bins (s : State) (p : Port) :
    (s.foldRaises p).bins = s.bins := by cases p <;> rfl
@[simp] theorem State.foldRaises_zones (s : State) (p : Port) :
    (s.foldRaises p).zones = s.zones := by cases p <;> rfl
@[simp] theorem State.foldRaises_urgent (s : State) (p : Port) :
    (s.foldRaises p).urgent = s.urgent := by cases p <;> rfl
@[simp] theorem State.foldRaises_routine (s : State) (p : Port) :
    (s.foldRaises p).routine = s.routine := by cases p <;> rfl
@[simp] theorem State.foldRaises_waitList (s : State) (p : Port) :
    (s.foldRaises p).waitList = s.waitList := by cases p <;> rfl
@[simp] theorem State.foldRaises_arbiter (s : State) (p : Port) :
    (s.foldRaises p).arbiter = s.arbiter := by cases p <;> rfl
@[simp] theorem State.foldRaises_stations (s : State) (p : Port) :
    (s.foldRaises p).stations = s.stations := by cases p <;> rfl
@[simp] theorem State.foldRaises_link (s : State) (p : Port) :
    (s.foldRaises p).link = s.link := by cases p <;> rfl
@[simp] theorem State.foldRaises_schedule (s : State) (p : Port) :
    (s.foldRaises p).schedule = s.schedule := by cases p <;> rfl
@[simp] theorem State.foldRaises_controller (s : State) (p : Port) :
    (s.foldRaises p).controller = s.controller := by cases p <;> rfl
@[simp] theorem State.foldRaises_fifo (s : State) (p : Port) :
    (s.foldRaises p).fifo = s.fifo := by cases p <;> rfl
@[simp] theorem State.foldRaises_collector (s : State) (p : Port) :
    (s.foldRaises p).collector = s.collector := by cases p <;> rfl
@[simp] theorem State.foldRaises_settle (s : State) (p : Port) :
    (s.foldRaises p).settle = s.settle := by cases p <;> rfl
@[simp] theorem State.foldRaises_scan0 (s : State) (p : Port) :
    (s.foldRaises p).scan0 = s.scan0 := by cases p <;> rfl
@[simp] theorem State.foldRaises_scan1 (s : State) (p : Port) :
    (s.foldRaises p).scan1 = s.scan1 := by cases p <;> rfl
@[simp] theorem State.foldRaises_grader (s : State) (p : Port) :
    (s.foldRaises p).grader = s.grader := by cases p <;> rfl
@[simp] theorem State.foldRaises_linePort (s : State) (p : Port) :
    (s.foldRaises p).linePort = s.linePort := by cases p <;> rfl
@[simp] theorem State.foldRaises_sorterPort (s : State) (p : Port) :
    (s.foldRaises p).sorterPort = s.sorterPort := by cases p <;> rfl
@[simp] theorem State.foldRaises_sticky (s : State) (p : Port) :
    (s.foldRaises p).sticky = s.sticky := by cases p <;> rfl
@[simp] theorem State.foldRaises_snapshot (s : State) (p : Port) :
    (s.foldRaises p).snapshot = s.snapshot := by cases p <;> rfl
@[simp] theorem State.foldRaises_lamps (s : State) (p : Port) :
    (s.foldRaises p).lamps = s.lamps := by cases p <;> rfl
@[simp] theorem State.foldRaises_blinkLit (s : State) (p : Port) :
    (s.foldRaises p).blinkLit = s.blinkLit := by cases p <;> rfl
@[simp] theorem State.foldRaises_linkTxd (s : State) (p : Port) :
    (s.foldRaises p).linkTxd = s.linkTxd := by cases p <;> rfl
@[simp] theorem State.foldRaises_freeReads (s : State) (p : Port) :
    (s.foldRaises p).freeReads = s.freeReads := by cases p <;> rfl
@[simp] theorem State.foldRaises_pending (s : State) (p : Port) :
    (s.foldRaises p).pending = s.pending := by cases p <;> rfl

/-! ### written -/

@[simp] theorem State.written_resetN (s : State) (p : Port) :
    (s.written p).resetN = s.resetN := by cases p <;> rfl
@[simp] theorem State.written_mode (s : State) (p : Port) :
    (s.written p).mode = s.mode := by cases p <;> rfl
@[simp] theorem State.written_items (s : State) (p : Port) :
    (s.written p).items = s.items := by cases p <;> rfl
@[simp] theorem State.written_nextTicket (s : State) (p : Port) :
    (s.written p).nextTicket = s.nextTicket := by cases p <;> rfl
@[simp] theorem State.written_trayIndex (s : State) (p : Port) :
    (s.written p).trayIndex = s.trayIndex := by cases p <;> rfl
@[simp] theorem State.written_gradeQueue (s : State) (p : Port) :
    (s.written p).gradeQueue = s.gradeQueue := by cases p <;> rfl
@[simp] theorem State.written_manifests (s : State) (p : Port) :
    (s.written p).manifests = s.manifests := by cases p <;> rfl
@[simp] theorem State.written_classes (s : State) (p : Port) :
    (s.written p).classes = s.classes := by cases p <;> rfl
@[simp] theorem State.written_line (s : State) (p : Port) :
    (s.written p).line = s.line := by cases p <;> rfl
@[simp] theorem State.written_bins (s : State) (p : Port) :
    (s.written p).bins = s.bins := by cases p <;> rfl
@[simp] theorem State.written_zones (s : State) (p : Port) :
    (s.written p).zones = s.zones := by cases p <;> rfl
@[simp] theorem State.written_urgent (s : State) (p : Port) :
    (s.written p).urgent = s.urgent := by cases p <;> rfl
@[simp] theorem State.written_routine (s : State) (p : Port) :
    (s.written p).routine = s.routine := by cases p <;> rfl
@[simp] theorem State.written_waitList (s : State) (p : Port) :
    (s.written p).waitList = s.waitList := by cases p <;> rfl
@[simp] theorem State.written_arbiter (s : State) (p : Port) :
    (s.written p).arbiter = s.arbiter := by cases p <;> rfl
@[simp] theorem State.written_stations (s : State) (p : Port) :
    (s.written p).stations = s.stations := by cases p <;> rfl
@[simp] theorem State.written_link (s : State) (p : Port) :
    (s.written p).link = s.link := by cases p <;> rfl
@[simp] theorem State.written_schedule (s : State) (p : Port) :
    (s.written p).schedule = s.schedule := by cases p <;> rfl
@[simp] theorem State.written_controller (s : State) (p : Port) :
    (s.written p).controller = s.controller := by cases p <;> rfl
@[simp] theorem State.written_fifo (s : State) (p : Port) :
    (s.written p).fifo = s.fifo := by cases p <;> rfl
@[simp] theorem State.written_collector (s : State) (p : Port) :
    (s.written p).collector = s.collector := by cases p <;> rfl
@[simp] theorem State.written_settle (s : State) (p : Port) :
    (s.written p).settle = s.settle := by cases p <;> rfl
@[simp] theorem State.written_scan0 (s : State) (p : Port) :
    (s.written p).scan0 = s.scan0 := by cases p <;> rfl
@[simp] theorem State.written_scan1 (s : State) (p : Port) :
    (s.written p).scan1 = s.scan1 := by cases p <;> rfl
@[simp] theorem State.written_grader (s : State) (p : Port) :
    (s.written p).grader = s.grader := by cases p <;> rfl
@[simp] theorem State.written_sticky (s : State) (p : Port) :
    (s.written p).sticky = s.sticky := by cases p <;> rfl
@[simp] theorem State.written_snapshot (s : State) (p : Port) :
    (s.written p).snapshot = s.snapshot := by cases p <;> rfl
@[simp] theorem State.written_lamps (s : State) (p : Port) :
    (s.written p).lamps = s.lamps := by cases p <;> rfl
@[simp] theorem State.written_blinkLit (s : State) (p : Port) :
    (s.written p).blinkLit = s.blinkLit := by cases p <;> rfl
@[simp] theorem State.written_linkTxd (s : State) (p : Port) :
    (s.written p).linkTxd = s.linkTxd := by cases p <;> rfl
@[simp] theorem State.written_freeReads (s : State) (p : Port) :
    (s.written p).freeReads = s.freeReads := by cases p <;> rfl
@[simp] theorem State.written_pending (s : State) (p : Port) :
    (s.written p).pending = s.pending := by cases p <;> rfl

/-! ### What the end of a transaction does to its own fields -/

@[simp] theorem State.foldRaises_line_counters (s : State) :
    (s.foldRaises .line).counters = s.counters.fold := rfl
@[simp] theorem State.foldRaises_sorter (s : State) : s.foldRaises .sorter = s := rfl
@[simp] theorem State.foldRaises_port (s : State) (p q : Port) :
    (s.foldRaises p).port q = s.port q := by cases p <;> cases q <;> rfl
@[simp] theorem State.written_counters (s : State) (p : Port) :
    (s.written p).counters = (s.foldRaises p).counters := by cases p <;> rfl
@[simp] theorem State.written_port_self (s : State) (p : Port) :
    (s.written p).port p = { s.port p with miso := [] } := by cases p <;> rfl
theorem State.written_port_of_ne (s : State) {p q : Port} (h : q ≠ p) :
    (s.written p).port q = s.port q := by cases p <;> cases q <;> first | rfl | exact absurd rfl h

end Sys2Proof.Machine
end

