-- ==== Sys2Proof/Laws/Table.lean ====
section
/-! SUPPORT. The laws of the numbered tables: reading after writing, and the canonical form kept by every
write. -/

namespace Sys2Proof.Machine

variable {α : Type}

/-! ### Reading after writing -/

theorem tfind_terase (t : Table α) (k j : Nat) :
    tfind (terase t k) j = if j = k then none else tfind t j := by
  induction t with
  | nil => simp [tfind, terase]
  | cons e t ih =>
    obtain ⟨i, v⟩ := e
    by_cases h : i = k
    · subst h
      by_cases hj : j = i
      · simp_all [terase]
      · simp [tfind, terase, ih, hj, Ne.symm hj]
    · by_cases hi : i = j
      · subst hi; simp [tfind, terase, h]
      · simp [tfind, terase, h, hi, ih]

theorem tfind_tinsert (t : Table α) (k j : Nat) (v : α) (h : tfind t k = none) :
    tfind (tinsert t k v) j = if j = k then some v else tfind t j := by
  induction t with
  | nil =>
    by_cases hj : j = k
    · simp [tfind, tinsert, hj]
    · simp [tfind, tinsert, hj, Ne.symm hj]
  | cons e t ih =>
    obtain ⟨i, w⟩ := e
    have hik : i ≠ k := by rintro rfl; simp [tfind] at h
    have ht : tfind t k = none := by simpa [tfind, hik] using h
    by_cases hlt : k < i
    · by_cases hj : j = k
      · simp [tfind, tinsert, hlt, hj]
      · simp [tfind, tinsert, hlt, hj, Ne.symm hj]
    · by_cases hi : i = j
      · subst hi; simp [tfind, tinsert, hlt, hik]
      · simp [tfind, tinsert, hlt, hi, ih ht]

theorem tfind_tset (t : Table α) (k j : Nat) (v : α) :
    tfind (tset t k v) j = if j = k then some v else tfind t j := by
  rw [tset, tfind_tinsert _ _ _ _ (by simp [tfind_terase]), tfind_terase]
  by_cases h : j = k <;> simp [h]

theorem tget_tput [DecidableEq α] (d : α) (t : Table α) (k j : Nat) (v : α) :
    tget d (tput d t k v) j = if j = k then v else tget d t j := by
  unfold tget tput
  by_cases hv : v = d
  · by_cases h : j = k <;> simp [hv, tfind_terase, h]
  · by_cases h : j = k <;> simp [hv, tfind_tset, h]

theorem tget_tupdate [DecidableEq α] (d : α) (f : α → α) (n : Nat) (t : Table α) (j : Nat) :
    tget d (tupdate d f n t) j = if j < n then f (tget d t j) else tget d t j := by
  induction n with
  | zero => simp [tupdate]
  | succ n ih =>
    simp only [tupdate, tget_tput]
    by_cases h : j = n
    · subst h
      have hj : tget d (tupdate d f j t) j = tget d t j := by simpa using ih
      simp [hj]
    · have : (j < n + 1) = (j < n) := by simp; omega
      simp [h, ih, this]

/-! ### The canonical form -/

theorem mem_terase {t : Table α} {k : Nat} {e : Nat × α} :
    e ∈ terase t k ↔ e ∈ t ∧ e.1 ≠ k := by
  induction t with
  | nil => simp [terase]
  | cons a t ih =>
    obtain ⟨i, v⟩ := a
    by_cases h : i = k
    · subst h
      simp only [terase, if_true, ih, List.mem_cons]
      constructor
      · rintro ⟨h1, h2⟩; exact ⟨Or.inr h1, h2⟩
      · rintro ⟨rfl | h1, h2⟩
        · simp at h2
        · exact ⟨h1, h2⟩
    · simp only [terase, if_neg h, List.mem_cons, ih]
      constructor
      · rintro (rfl | ⟨h1, h2⟩)
        · exact ⟨Or.inl rfl, h⟩
        · exact ⟨Or.inr h1, h2⟩
      · rintro ⟨rfl | h1, h2⟩
        · exact Or.inl rfl
        · exact Or.inr ⟨h1, h2⟩

theorem mem_tinsert {t : Table α} {k : Nat} {v : α} {e : Nat × α} :
    e ∈ tinsert t k v ↔ e = (k, v) ∨ e ∈ t := by
  induction t with
  | nil => simp [tinsert]
  | cons a t ih =>
    obtain ⟨i, w⟩ := a
    by_cases h : k < i
    · simp [tinsert, h]
    · simp only [tinsert, if_neg h, List.mem_cons, ih]
      tauto

theorem tsorted_terase {t : Table α} (h : tsorted t) (k : Nat) : tsorted (terase t k) := by
  induction t with
  | nil => simp [terase, tsorted]
  | cons a t ih =>
    obtain ⟨i, v⟩ := a
    simp only [tsorted, List.map_cons, List.pairwise_cons] at h
    have ht := ih h.2
    by_cases hk : i = k
    · simpa [terase, hk] using ht
    · simp only [terase, if_neg hk, tsorted, List.map_cons, List.pairwise_cons]
      refine ⟨?_, ht⟩
      intro j hj
      obtain ⟨e, he, rfl⟩ := List.mem_map.1 hj
      exact h.1 _ (List.mem_map.2 ⟨e, (mem_terase.1 he).1, rfl⟩)

theorem tsorted_tinsert {t : Table α} (h : tsorted t) (k : Nat) (v : α)
    (hk : ∀ e ∈ t, e.1 ≠ k) : tsorted (tinsert t k v) := by
  induction t with
  | nil => simp [tinsert, tsorted]
  | cons a t ih =>
    obtain ⟨i, w⟩ := a
    have h' := h
    simp only [tsorted, List.map_cons, List.pairwise_cons] at h
    by_cases hlt : k < i
    · simp only [tinsert, if_pos hlt, tsorted, List.map_cons, List.pairwise_cons]
      refine ⟨?_, h⟩
      intro j hj
      rcases List.mem_cons.1 hj with rfl | hj
      · exact hlt
      · exact lt_trans hlt (h.1 _ hj)
    · have hik : i ≠ k := hk (i, w) (List.mem_cons_self ..)
      simp only [tinsert, if_neg hlt, tsorted, List.map_cons, List.pairwise_cons]
      refine ⟨?_, ih h.2 fun e he => hk e (by simp [he])⟩
      intro j hj
      obtain ⟨e, he, rfl⟩ := List.mem_map.1 hj
      rcases mem_tinsert.1 he with rfl | he
      · simp only; omega
      · exact h.1 _ (List.mem_map.2 ⟨e, he, rfl⟩)

theorem tsorted_tset {t : Table α} (h : tsorted t) (k : Nat) (v : α) : tsorted (tset t k v) :=
  tsorted_tinsert (tsorted_terase h k) k v fun _ he => (mem_terase.1 he).2

theorem tcanonical_tput [DecidableEq α] {d : α} {t : Table α} (h : tcanonical d t) (k : Nat)
    (v : α) : tcanonical d (tput d t k v) := by
  unfold tput
  by_cases hv : v = d
  · rw [if_pos hv]
    exact ⟨tsorted_terase h.1 k, fun e he => h.2 e (mem_terase.1 he).1⟩
  · rw [if_neg hv]
    refine ⟨tsorted_tset h.1 k v, fun e he => ?_⟩
    rcases mem_tinsert.1 he with rfl | he
    · exact hv
    · exact h.2 e (mem_terase.1 he).1

theorem tcanonical_tupdate [DecidableEq α] {d : α} (f : α → α) (n : Nat) {t : Table α}
    (h : tcanonical d t) : tcanonical d (tupdate d f n t) := by
  induction n with
  | zero => exact h
  | succ n ih => exact tcanonical_tput ih n _

/-! ### Counting -/

/-- Counting numbers below `n` when one number's answer changes. -/
theorem countP_range_change (n k : Nat) (p q : Nat → Bool) (h : ∀ j, j ≠ k → p j = q j) :
    (List.range n).countP p + (if k < n ∧ q k = true then 1 else 0) =
      (List.range n).countP q + (if k < n ∧ p k = true then 1 else 0) := by
  induction n with
  | zero => simp
  | succ n ih =>
    simp only [List.range_succ, List.countP_append, List.countP_cons, List.countP_nil]
    by_cases hk : k = n
    · subst hk
      have h0 : (List.range k).countP p = (List.range k).countP q :=
        List.countP_congr fun j hj => by
          have := List.mem_range.1 hj
          rw [h j (by omega)]
      have h1 : ¬ k < k := lt_irrefl k
      simp only [h0]
      cases hp : p k <;> cases hq : q k <;> simp
    · have hn := h n (Ne.symm hk)
      have hlt : (k < n + 1) = (k < n) := by simp; omega
      simp only [hlt, hn]
      omega

theorem tcount_tput [DecidableEq α] (d : α) (t : Table α) (k n : Nat) (v : α) (p : α → Bool) :
    tcount d (tput d t k v) n p + (if k < n ∧ p (tget d t k) = true then 1 else 0) =
      tcount d t n p + (if k < n ∧ p v = true then 1 else 0) := by
  have := countP_range_change n k (fun j => p (tget d (tput d t k v) j))
    (fun j => p (tget d t j)) (fun j hj => by simp [tget_tput, hj])
  simpa [tcount, tget_tput] using this

/-! ### The tables of the part -/

@[simp] theorem State.item_setItem (s : State) (i j : Nat) (it : Item) :
    (s.setItem i it).item j = if j = i then it else s.item j := tget_tput _ _ _ _ _

@[simp] theorem State.bin_setBin (s : State) (b j : Nat) (r : Bin) :
    (s.setBin b r).bin j = if j = b then r else s.bin j := tget_tput _ _ _ _ _

@[simp] theorem State.zone_setZone (s : State) (z j : Nat) (r : Zone) :
    (s.setZone z r).zone j = if j = z then r else s.zone j := tget_tput _ _ _ _ _

@[simp] theorem State.station_setStation (s : State) (a j : Nat) (e : Station) :
    (s.setStation a e).station j = if j = a then e else s.station j := tget_tput _ _ _ _ _

@[simp] theorem State.zone_updateZones (s : State) (f : Zone → Zone) (z : Nat) :
    (s.updateZones f).zone z = if z < Config.zoneEntries then f (s.zone z) else s.zone z :=
  tget_tupdate _ _ _ _ _

@[simp] theorem State.classValid_setClass (s : State) (k j : Nat) (r : ClassRecord) :
    (s.setClass k r).classValid j = (decide (j = k) || s.classValid j) := by
  by_cases h : j = k <;> simp [State.classValid, State.setClass, tfind_tset, h]

@[simp] theorem State.classRecord_setClass (s : State) (k j : Nat) (r : ClassRecord) :
    (s.setClass k r).classRecord j = if j = k then r else s.classRecord j := by
  by_cases h : j = k <;> simp [State.classRecord, State.setClass, tget, tfind_tset, h]

@[simp] theorem State.classValid_clearClass (s : State) (k j : Nat) :
    (s.clearClass k).classValid j = (!decide (j = k) && s.classValid j) := by
  by_cases h : j = k <;> simp [State.classValid, State.clearClass, tfind_terase, h]

@[simp] theorem State.classRecord_clearClass (s : State) (k j : Nat) :
    (s.clearClass k).classRecord j = if j = k then ClassRecord.cleared else s.classRecord j := by
  by_cases h : j = k <;> simp [State.classRecord, State.clearClass, tget, tfind_terase, h]

@[simp] theorem State.manifest_setManifest (s : State) (l j : Nat) (m : Manifest) :
    (s.setManifest l m).manifest j = if j = l then some m else s.manifest j := tfind_tset _ _ _ _

@[simp] theorem State.manifest_removeManifest (s : State) (l j : Nat) :
    (s.removeManifest l).manifest j = if j = l then none else s.manifest j := tfind_terase _ _ _

@[simp] theorem State.trayEntry_setTray (s : State) (tray j : Nat) (e : TrayEntry) :
    (s.setTray tray e).trayEntry j = if j = tray then some e else s.trayEntry j :=
  tfind_tset _ _ _ _

@[simp] theorem State.trayEntry_clearTray (s : State) (tray j : Nat) :
    (s.clearTray tray).trayEntry j = if j = tray then none else s.trayEntry j := tfind_terase _ _ _

@[simp] theorem State.settleContext_setSettle (s : State) (a j : Nat) (c : Option SettleContext) :
    (s.setSettle a c).settleContext j = if j = a then c else s.settleContext j := by
  cases c <;> simp [State.settleContext, State.setSettle, tfind_tset, tfind_terase]

@[simp] theorem State.scheduleEntry_setScheduleEntry (s : State) (i j : Nat) (p : Option Poll) :
    (s.setScheduleEntry i p).scheduleEntry j = if j = i then p else s.scheduleEntry j := by
  cases p <;> simp [State.scheduleEntry, State.setScheduleEntry, tfind_tset, tfind_terase]

/-- Reading a table that an update leaves alone. -/
theorem State.item_congr {s t : State} (h : t.items = s.items) (i : Nat) : t.item i = s.item i := by
  simp [State.item, h]

theorem State.bin_congr {s t : State} (h : t.bins = s.bins) (b : Nat) : t.bin b = s.bin b := by
  simp [State.bin, h]

theorem State.zone_congr {s t : State} (h : t.zones = s.zones) (z : Nat) : t.zone z = s.zone z := by
  simp [State.zone, h]

theorem State.station_congr {s t : State} (h : t.stations = s.stations) (a : Nat) :
    t.station a = s.station a := by simp [State.station, h]

theorem State.trayEntry_congr {s t : State} (h : t.trayIndex = s.trayIndex) (tray : Nat) :
    t.trayEntry tray = s.trayEntry tray := by simp [State.trayEntry, h]

/-! ### Ports -/

@[simp] theorem State.port_setPort (s : State) (p q : Port) (e : PortEngine) :
    (s.setPort p e).port q = if q = p then e else s.port q := by
  cases p <;> cases q <;> rfl

@[simp] theorem State.phase_respond (s : State) (p : Port) (tag rq : Nat) (a : Answer) :
    ((s.respond p tag rq a).port p).phase =
      .responseReady { code := a.code, request := rq, tag := tag, held := a.held,
                       results := a.results } := by
  cases p <;> rfl

theorem State.respond_executing (s : State) (p : Port) (tag tag' rq : Nat) (r : Request)
    (a : Answer) : (s.executing p tag' r).respond p tag rq a = s.respond p tag rq a := by
  cases p <;> rfl

end Sys2Proof.Machine
end

