-- ==== Sys2Proof/Laws/Ops.lean ====
section
/-! SUPPORT. What the shared operations do, said once: a request command taken, posted, refused or
overrun; the grant that serves a port; the counters. -/

namespace Sys2Proof.Machine

/-! ### Counters -/

theorem Counters.live_raise (k : Counters) (i j : Fin 24) (n : Nat) :
    (k.raise i n).live j = if j = i then min Config.counterMax (k.live i + n) else k.live j := by
  by_cases h : j = i
  · subst h
    simp only [Counters.live, Counters.raise, Fin.getElem_fin, Vector.getElem_set_self, if_true,
      Config.counterMax]
    omega
  · have hi : ¬ (i : Nat) = j := fun e => h (Fin.ext e.symm)
    simp [Counters.live, Counters.raise, h, hi]

/-- Raises that can no longer fall after a snapshot leave every counter as it is. -/
@[simp] theorem Counters.live_fold (k : Counters) (i : Fin 24) : k.fold.live i = k.live i := by
  simp [Counters.live, Counters.fold]

theorem Counters.recent_fold (k : Counters) (i : Fin 24) : k.fold.recent[i] = 0 := by
  simp [Counters.fold]

theorem Counters.base_fold (k : Counters) (i : Fin 24) : k.fold.base[i] = k.live i := by
  simp [Counters.fold]

/-- Two counters with the same parts are equal. -/
theorem Counters.ext_parts {k l : Counters} (hb : ∀ i : Fin 24, k.base[i] = l.base[i])
    (hr : ∀ i : Fin 24, k.recent[i] = l.recent[i]) : k = l := by
  cases k; cases l
  simp only [Counters.mk.injEq]
  exact ⟨Vector.ext fun i hi => hb ⟨i, hi⟩, Vector.ext fun i hi => hr ⟨i, hi⟩⟩

/-- Closing the raises of an event twice closes them once. -/
@[simp] theorem Counters.fold_fold (k : Counters) : k.fold.fold = k.fold :=
  Counters.ext_parts (fun i => by rw [base_fold, base_fold, live_fold])
    (fun i => by rw [recent_fold, recent_fold])

/-- Raises closed before more are made and closed are closed with them. -/
theorem Counters.fold_raise_fold (k : Counters) (i : Fin 24) (n : Nat) :
    (k.fold.raise i n).fold = (k.raise i n).fold :=
  Counters.ext_parts (fun j => by simp only [base_fold, live_raise, live_fold])
    (fun j => by rw [recent_fold, recent_fold])

@[simp] theorem Counters.fold_zero : Counters.zero.fold = .zero := by decide +kernel

/-- The raises a snapshot leaves out are raises of the event taken last. -/
theorem State.lateRaises_le (s : State) (i : Fin 24) : s.lateRaises[i] ≤ s.counters.recent[i] := by
  simp only [State.lateRaises, Fin.getElem_fin, Vector.getElem_ofFn]
  exact Nat.min_le_left _ _

/-- What a snapshot holds for a counter. -/
theorem State.snapshotValues_get (s : State) (i : Fin 24) : s.snapshotValues[i] =
    min Config.counterMax (s.counters.base[i] + (s.counters.recent[i] - s.lateRaises[i])) := by
  simp [State.snapshotValues]

/-- Closing the raises of an event moves no counter. -/
@[simp] theorem State.counter_closeRaises (s : State) (d : Counter) :
    s.closeRaises.counter d = s.counter d := Counters.live_fold _ _

@[simp] theorem State.counter_markGranted (s : State) (c : Client) (d : Counter) :
    (s.markGranted c).counter d = s.counter d := Counters.live_fold _ _

@[simp] theorem State.closeRaises_closeRaises (s : State) : s.closeRaises.closeRaises = s.closeRaises := by
  simp [State.closeRaises]

/-- The end of a transaction moves no counter. -/
@[simp] theorem State.counter_foldRaises (s : State) (p : Port) (d : Counter) :
    (s.foldRaises p).counter d = s.counter d := by
  cases p
  · exact s.counter_closeRaises d
  · rfl

theorem State.counter_bumpBy (s : State) (c d : Counter) (n : Nat) :
    (s.bumpBy c n).counter d =
      if d = c then min Config.counterMax (s.counter c + n) else s.counter d := by
  have inj : d.index = c.index ↔ d = c := by cases c <;> cases d <;> decide
  simp only [State.counter, State.bumpBy, Counters.live_raise, inj]

theorem State.counter_bump (s : State) (c d : Counter) :
    (s.bump c).counter d =
      if d = c then min Config.counterMax (s.counter c + 1) else s.counter d :=
  s.counter_bumpBy c d 1

/-! ### The ports -/

/-- The moment of a request changes only the counters a snapshot finds. -/
@[simp] theorem State.atMoment_mode (s : State) (r : Request) (m : Moment) :
    (s.atMoment r m).mode = s.mode := by
  unfold State.atMoment; split <;> rfl

/-- A frame taken on a port that is not IDLE is an overrun (R168). -/
theorem writeRequest_overrun {p : Port} {m : Moment} {f : FrameTaken} {s : State}
    (hr : s.resetN = true) (hb : (s.port p).phase ≠ .idle) :
    writeRequest p m f s = (s.overrun p).written p := by
  unfold writeRequest takeFrameOnPort
  cases h : (s.port p).phase <;> simp_all

/-- A well-formed frame taken in IDLE. -/
theorem writeRequest_idle {p : Port} {m : Moment} {tag : Nat} {r : Request} {s : State}
    (hr : s.resetN = true) (hi : (s.port p).phase = .idle) :
    writeRequest p m (.request tag r) s = (takeRequest p m tag r s).written p := by
  simp [writeRequest, takeFrameOnPort, hr, hi]

/-- A frame refused in IDLE (R166 checks 1 and 2, R197). -/
theorem writeRequest_refused {p : Port} {m : Moment} {code : Code} {rq tag : Nat} {s : State}
    (hr : s.resetN = true) (hi : (s.port p).phase = .idle) :
    writeRequest p m (.refused code rq tag) s =
      (s.respond p tag rq { code := code }).written p := by
  simp [writeRequest, takeFrameOnPort, hr, hi]

@[simp] theorem State.port_executing (s : State) (p : Port) (tag : Nat) (r : Request) :
    ((s.executing p tag r).port p).phase = .executing tag r := by cases p <;> rfl

@[simp] theorem State.port_markGranted (s : State) (p : Port) (c : Client) :
    (s.markGranted c).port p = s.port p := by cases p <;> rfl

/-- A request command is its request at its header's port. -/
theorem exec_request {c : Instr} {h : Header} {r : Request} (hc : c.request? = some (h, r))
    (s : State) : exec c s = request h r s := by
  cases c <;> simp only [Instr.request?, Option.some.injEq, Prod.mk.injEq, reduceCtorEq] at hc <;>
    (obtain ⟨rfl, rfl⟩ := hc; rfl)

/-- What a request taken and done in its own step does: its work, and its answer. -/
theorem request_taken {h : Header} {p : Port} {tag : Nat} {r : Request} {s : State}
    (ht : Taken h p tag r s) :
    request h r s =
      .next (((workOf p r (s.atWork h tag r)).2.respond p tag (requestCode r)
        (workOf p r (s.atWork h tag r)).1).written p) := by
  obtain ⟨rfl, hf, hr, hi, hp, hm, ha, hx⟩ := ht
  have hm' : refusedInMode (s.atWork h tag r).mode r = false := by
    unfold State.atWork; split <;> simpa using hm
  unfold request
  rw [hf, writeRequest_idle hr hi]
  unfold takeRequest
  by_cases hacc : takesAccess r = true
  · obtain ⟨hg, hs⟩ := ha hacc
    have hh : ¬ (h.port = .sorter ∧ s.arbiter.hold.isSome = true) := by
      rintro ⟨h1, h2⟩; rw [hs h1] at h2; cases h2
    have hg' : (s.executing h.port tag r).arbiter.grantsAtOnce (clientOf h.port) h.moment = true := by
      simpa using hg
    have hw : s.atWork h tag r = (s.executing h.port tag r).markGranted (clientOf h.port) := by
      simp [State.atWork, hacc]
    simp only [hp, Bool.not_true, Bool.false_eq_true, if_false, hacc, if_true, hh, postClient, hg']
    rw [← hw]
    have hsv : ∀ p, runAccess (clientOf p) = servePort p := by
      intro p; cases p <;> rfl
    have hph : ((s.atWork h tag r).port h.port).phase = .executing tag r := by rw [hw]; simp
    rw [hsv]
    simp [servePort, hph, perform, hm']
  · have hw : s.atWork h tag r = s.atMoment r h.moment := by simp [State.atWork, hacc]
    have hx' : ¬ ((r = .fullReset ∨ r = .lineRestart) ∧ s.arbiter.holder.isSome = true) := by
      rintro ⟨h1, h2⟩; rw [hx h1] at h2; cases h2
    rw [hw] at hm' ⊢
    simp [hp, hacc, hx', perform, hm]

end Sys2Proof.Machine
end

