-- ==== Sys2Proof/Laws/Items.lean ====
section
/-! SUPPORT. What the tray lookup, the Grade Queue and retirement do, said once (R3, R23, R105). -/

namespace Sys2Proof.Machine

/-! ### The tray lookup -/

/-- The item on a tray that carries one. -/
theorem State.itemOnTray_of_carries {s : State} (h : s.TrayLaw) {tray i : Nat}
    (hc : s.carries tray i) : s.itemOnTray tray = some (i, s.item i) := by
  obtain ⟨ha, ht⟩ := hc
  have he := h.2 i ha
  rw [ht] at he
  unfold State.itemOnTray
  rw [he]
  unfold Item.active at ha
  cases hs : (s.item i).state <;> simp_all

/-- A tray that carries no active item has none. -/
theorem State.itemOnTray_of_not_carries {s : State} (h : s.TrayLaw) {tray : Nat}
    (hc : ¬ ∃ i, s.carries tray i) : s.itemOnTray tray = none := by
  unfold State.itemOnTray
  cases he : s.trayEntry tray with
  | none => rfl
  | some e => exact absurd ⟨e.index, (h.1 tray e he).1, (h.1 tray e he).2.1⟩ hc

/-- What the lookup finds is an active item on that tray. -/
theorem State.carries_of_itemOnTray {s : State} (h : s.TrayLaw) {tray i : Nat} {it : Item}
    (hf : s.itemOnTray tray = some (i, it)) : s.carries tray i ∧ it = s.item i := by
  by_cases hc : ∃ j, s.carries tray j
  · obtain ⟨j, hj⟩ := hc
    rw [State.itemOnTray_of_carries h hj] at hf
    cases hf
    exact ⟨hj, rfl⟩
  · rw [State.itemOnTray_of_not_carries h hc] at hf
    cases hf

/-- The lookup reads the Tray Index and the Item Table alone. -/
theorem State.itemOnTray_congr {s t : State} (h1 : t.trayIndex = s.trayIndex)
    (h2 : t.items = s.items) (tray : Nat) : t.itemOnTray tray = s.itemOnTray tray := by
  simp only [State.itemOnTray, State.trayEntry, State.item, h1, h2]

/-! ### Joining the Grade Queue -/

/-- What joining the Grade Queue does (R105, R106). -/
theorem State.enqueue_eq (s : State) (i : Nat) (it : Item) :
    s.enqueue i it =
      { s.setItem i { it with state := .queued } with
        gradeQueue := s.gradeQueue ++ [i]
        grader := if s.grader = .idle then .fetchWait else s.grader
        arbiter := if s.grader = .idle then
            { s.arbiter with waiting := s.arbiter.waiting.put true .gc } else s.arbiter } := by
  unfold State.enqueue
  cases hg : s.grader <;> simp [hg, State.setItem, State.postWaiting]

/-! ### Retirement -/

/-- Retirement with a free report record (R23). -/
theorem State.retire_of_free {s : State} {i : Nat} {it : Item}
    (h : s.urgent.length + s.routine.length < Config.reportRecords) :
    s.retire i it =
      ((s.clearTray it.tray).queueReport (Report.ofItem s.mode it)).setItem i Item.empty := by
  have : (s.clearTray it.tray).freeRecords ≠ 0 := by
    simp only [State.freeRecords, State.clearTray]; omega
  unfold State.retire
  rw [if_neg this]
  rfl

/-- Retirement with no free report record (R23). -/
theorem State.retire_of_full {s : State} {i : Nat} {it : Item}
    (h : Config.reportRecords ≤ s.urgent.length + s.routine.length) :
    s.retire i it =
      { (s.clearTray it.tray).setItem i { it with state := .retiring } with
        waitList := s.waitList ++ [i] } := by
  have : (s.clearTray it.tray).freeRecords = 0 := by
    simp only [State.freeRecords, State.clearTray]; omega
  unfold State.retire
  rw [if_pos this]
  rfl

end Sys2Proof.Machine
end

