-- ==== Sys2Proof/Laws/Link.lean ====
section
/-! SUPPORT. What the walk of a schedule and a round end do, said once (R53, R54). -/

namespace Sys2Proof.Machine

/-- The state after `i` entries have been passed over: SKIPPED_POLLS counted for each. -/
def State.skipped (s : State) : Nat → State
  | 0 => s
  | i + 1 => (s.skipped i).bump .skippedPolls

theorem State.skipped_bump (s : State) (i : Nat) :
    (s.bump .skippedPolls).skipped i = s.skipped (i + 1) := by
  induction i with
  | zero => rfl
  | succ n ih => show ((s.bump .skippedPolls).skipped n).bump _ = (s.skipped (n + 1)).bump _; rw [ih]

/-- Passing entries over changes the counters alone. -/
theorem State.skipped_eq (s : State) (i : Nat) :
    s.skipped i = { s with counters := (s.skipped i).counters } := by
  induction i with
  | zero => rfl
  | succ n ih =>
    show (s.skipped n).bump _ = { s with counters := ((s.skipped n).bump _).counters }
    rw [ih]; rfl

/-- A counter is held at 65535 (R180). -/
theorem State.counter_le (s : State) (d : Counter) : s.counter d ≤ 65535 := Nat.min_le_left ..

theorem State.counter_skipped (s : State) (i : Nat) :
    (s.skipped i).counter .skippedPolls = min 65535 (s.counter .skippedPolls + i) := by
  induction i with
  | zero => have := s.counter_le .skippedPolls; show s.counter .skippedPolls = _; omega
  | succ n ih =>
    show ((s.skipped n).bump _).counter _ = _
    rw [State.counter_bump, if_pos rfl, ih]; simp only [Config.counterMax]; omega

theorem State.counter_skipped_of_ne (s : State) (i : Nat) {d : Counter} (h : d ≠ .skippedPolls) :
    (s.skipped i).counter d = s.counter d := by
  induction i with
  | zero => rfl
  | succ n ih => show ((s.skipped n).bump _).counter _ = _; rw [State.counter_bump, if_neg h, ih]

/-- A counter is read from the counters alone. -/
theorem State.counter_congr {s t : State} (h : t.counters = s.counters) (d : Counter) :
    t.counter d = s.counter d := by simp only [State.counter, h]

/-- The first poll of a walk depends on the schedule and the stations alone. -/
theorem State.firstPoll_congr {s t : State} (h1 : t.schedule = s.schedule)
    (h2 : t.stations = s.stations) (b n i : Nat) (p : Poll) :
    t.firstPoll b n i p ↔ s.firstPoll b n i p := by
  simp only [State.firstPoll, State.scheduleEntry, State.station, h1, h2]

/-- A walk over `n` entries that finds a poll sends it, the entries before it passed over. -/
theorem State.walkEntries_of_firstPoll : ∀ (n pos i : Nat) (p : Poll) (s : State),
    s.firstPoll pos n i p →
    State.walkEntries n pos s =
      (false, ((s.skipped i).withController fun c =>
        { c with walkPos := some (pos + i + 1) }).sendPoll p false .round) := by
  intro n
  induction n with
  | zero => intro pos i p s h; exact absurd h.1 (by omega)
  | succ n ih =>
    intro pos i p s h
    obtain ⟨h1, h2, h3, h4⟩ := h
    cases i with
    | zero =>
      simp only [State.walkEntries]
      rw [show s.scheduleEntry pos = some p from h2]
      simp only [h3, if_true]
      rfl
    | succ i =>
      have hrec := ih (pos + 1) i p (s.bump .skippedPolls)
        ((State.firstPoll_congr (s := s) rfl rfl _ _ _ _).2 ⟨by omega,
          by rw [← h2]; congr 1; omega, h3,
          fun j q hj hq => h4 (j + 1) q (by omega) (by rw [← hq]; congr 1; omega)⟩)
      rw [State.skipped_bump, show pos + 1 + i + 1 = pos + (i + 1) + 1 by omega] at hrec
      simp only [State.walkEntries]
      cases he : s.scheduleEntry pos with
      | none => exact hrec
      | some q =>
        have := h4 0 q (by omega) he
        simp only [this]
        exact hrec

/-- A walk over `n` entries that finds no poll passes them all over. -/
theorem State.walkEntries_of_no_poll : ∀ (n pos : Nat) (s : State),
    (¬ ∃ i p, s.firstPoll pos n i p) → State.walkEntries n pos s = (true, s.skipped n) := by
  intro n
  induction n with
  | zero => intro pos s h; rfl
  | succ n ih =>
    intro pos s h
    simp only [State.walkEntries]
    by_cases hp : ∃ p, s.scheduleEntry pos = some p ∧
        (s.station p.station).config.configured = true
    · obtain ⟨p, h1, h2⟩ := hp
      exact absurd ⟨0, p, by omega, h1, h2, fun j r hj => absurd hj (by omega)⟩ h
    · have hrec : State.walkEntries n (pos + 1) (s.bump .skippedPolls) =
          (true, s.skipped (n + 1)) := by
        rw [ih (pos + 1) (s.bump .skippedPolls), State.skipped_bump]
        rintro ⟨i, p, hh⟩
        rw [State.firstPoll_congr (s := s) (t := s.bump .skippedPolls) rfl rfl] at hh
        obtain ⟨h1, h2, h3, h4⟩ := hh
        exact h ⟨i + 1, p, by omega, by rw [← h2]; congr 1; omega, h3, by
          intro j q hj hq
          cases j with
          | zero =>
            by_contra hc
            exact hp ⟨q, hq, by simpa using hc⟩
          | succ j => exact h4 j q (by omega) (by rw [← hq]; congr 1; omega)⟩
      cases he : s.scheduleEntry pos with
      | none => exact hrec
      | some q =>
        by_cases hq : (s.station q.station).config.configured = true
        · exact absurd ⟨q, he, hq⟩ hp
        · simp only [hq]; exact hrec

/-- The state in which poll `p`, found `i` entries on from `pos`, has been sent. -/
def State.walkedTo (s : State) (pos i : Nat) (p : Poll) : State :=
  { s with
    linkTxd := pollFrame p.station (s.sentKind p) (s.holdFlag p)
    counters := (s.skipped i).counters
    controller :=
      { s.controller with
        state := .awaitReply
        walkPos := some (pos + i + 1)
        inFlight := some { station := p.station, kind := s.sentKind p, hold := s.holdFlag p,
                           timeout := s.link.timeout, returnPoint := .round, single := false,
                           phase := .transmitting } } }

/-- The counters after entries are passed over depend on the counters alone. -/
theorem State.skipped_counters_congr {s t : State} (h : t.counters = s.counters) (i : Nat) :
    (t.skipped i).counters = (s.skipped i).counters := by
  induction i with
  | zero => exact h
  | succ n ih =>
    show ((t.skipped n).bump _).counters = ((s.skipped n).bump _).counters
    simp only [State.bump, State.bumpBy, ih]

/-- A walk that finds a poll. -/
theorem State.walkOnce_of_firstPoll {s : State} {a : Schedule} {pos i : Nat} {p : Poll}
    (ha : s.controller.active = some a) (hp : s.controller.walkPos.getD a.base = pos)
    (hf : s.firstPoll pos (a.base + a.length - pos) i p) :
    s.walkOnce = (false, s.walkedTo pos i p) := by
  unfold State.walkOnce
  rw [ha]
  simp only [hp]
  generalize hw : (s.withController fun c => { c with state := .walking }) = w
  have hf' : w.firstPoll pos (a.base + a.length - pos) i p :=
    (State.firstPoll_congr (by rw [← hw]; rfl) (by rw [← hw]; rfl) _ _ _ _).2 hf
  rw [State.walkEntries_of_firstPoll _ _ _ _ _ hf']
  simp only [Bool.false_eq_true, if_false]
  rw [State.skipped_eq, State.skipped_counters_congr (s := s) (by rw [← hw]; rfl), ← hw]
  rfl

/-- A walk that finds no poll, the single-poll slot being empty, comes to the round's end. -/
theorem State.walkOnce_of_no_poll {s : State} {a : Schedule} {pos : Nat}
    (ha : s.controller.active = some a) (hp : s.controller.walkPos.getD a.base = pos)
    (hs : s.controller.slot = none)
    (hf : ¬ ∃ i p, s.firstPoll pos (a.base + a.length - pos) i p) :
    s.walkOnce = (true,
      { s with
        counters := (s.skipped (a.base + a.length - pos)).counters
        controller := { s.controller with state := .walking } }) := by
  unfold State.walkOnce
  rw [ha]
  simp only [hp]
  generalize hw : (s.withController fun c => { c with state := .walking }) = w
  have hf' : ¬ ∃ i p, w.firstPoll pos (a.base + a.length - pos) i p := by
    rintro ⟨i, p, h⟩
    exact hf ⟨i, p, (State.firstPoll_congr (by rw [← hw]; rfl) (by rw [← hw]; rfl) _ _ _ _).1 h⟩
  rw [State.walkEntries_of_no_poll _ _ _ hf']
  have hsl : w.controller.slot = none := by rw [← hw]; exact hs
  rw [State.skipped_eq, State.skipped_counters_congr (s := s) (by rw [← hw]; rfl)]
  simp only [hsl, if_true]
  rw [← hw]
  rfl

/-- A walk that finds a poll ends with it. -/
theorem State.walk_of_firstPoll {s : State} {a : Schedule} {pos i : Nat} {p : Poll}
    (ha : s.controller.active = some a) (hp : s.controller.walkPos.getD a.base = pos)
    (hf : s.firstPoll pos (a.base + a.length - pos) i p) : s.walk = s.walkedTo pos i p := by
  unfold State.walk
  rw [State.walkOnce_of_firstPoll ha hp hf]
  rfl

/-- A walk begun at the base that finds a poll. -/
theorem State.beginWalk_of_firstPoll {s : State} {a : Schedule} {i : Nat} {p : Poll}
    (ha : s.controller.active = some a) (hf : s.firstPoll a.base a.length i p) :
    s.beginWalk =
      { s with controller := { s.controller with pendingStart := none } }.walkedTo a.base i p := by
  unfold State.beginWalk
  generalize hw : (s.withController fun c =>
    { c with state := .walking, pendingStart := none, walkPos := c.active.map (·.base) }) = w
  have h : w.firstPoll a.base (a.base + a.length - a.base) i p := by
    rw [Nat.add_sub_cancel_left]
    exact (State.firstPoll_congr (by rw [← hw]; rfl) (by rw [← hw]; rfl) _ _ _ _).2 hf
  rw [State.walk_of_firstPoll (by rw [← hw]; exact ha)
    (by rw [← hw]; simp only [State.withController, ha]; rfl) h]
  have hk : (w.skipped i).counters = (s.skipped i).counters :=
    State.skipped_counters_congr (by rw [← hw]; rfl) i
  have hk' : ({ s with controller := { s.controller with pendingStart := none } }.skipped i).counters
      = (s.skipped i).counters := State.skipped_counters_congr (by rfl) i
  unfold State.walkedTo
  rw [hk, hk', ← hw]
  rfl

/-- A walk begun at the base that finds no poll: the round ends, and a schedule staged NOW is walked. -/
theorem State.walk_of_no_poll {s : State} {a : Schedule} {pos : Nat}
    (ha : s.controller.active = some a) (hp : s.controller.walkPos.getD a.base = pos)
    (hs : s.controller.slot = none)
    (hf : ¬ ∃ i p, s.firstPoll pos (a.base + a.length - pos) i p) :
    s.walk =
      (let b := State.endRound
        { s with
          counters := (s.skipped (a.base + a.length - pos)).counters
          controller := { s.controller with state := .walking } }
      if !b.1 then b.2
      else (let c := b.2.walkOnce; if c.1 then c.2.endRound.2 else c.2)) := by
  unfold State.walk
  rw [State.walkOnce_of_no_poll ha hp hs hf]
  rfl

end Sys2Proof.Machine
end

