-- ==== Sys2Proof/Laws/PerInstr.lean ====
section
/-! SUPPORT. The family RequestFrame, per instruction: a request command's code is one of the forty of the
permission table, and its frame is as long as its operands and six bytes more (R196). -/

namespace Sys2Proof.Laws

open Sys2Proof Sys2Proof.Machine

/-- The property of the family. -/
def RequestFrame.Statement (i : Instr) : Prop :=
  ∀ h r, i.request? = some (h, r) →
    1 ≤ requestCode r ∧ requestCode r ≤ 40 ∧
    (requestFrame h.tag r).length = (operandBytes r).length + 6

theorem bytesOf_length (w n : Nat) : (bytesOf w n).length = w := by
  induction w generalizing n with
  | zero => rfl
  | succ w ih => simp [bytesOf, ih]

/-- A frame is its operands and six bytes more. -/
theorem requestFrame_length (tag : Nat) (r : Request) :
    (requestFrame tag r).length = (operandBytes r).length + 6 := by
  simp only [requestFrame, closeFrame, List.length_append, bytesOf_length, List.length_cons,
    List.length_nil]
  omega

theorem request_code_range (r : Request) : 1 ≤ requestCode r ∧ requestCode r ≤ 40 := by
  cases r <;> simp [requestCode]

/-- Every command has the property. -/
theorem request_frame (i : Instr) : RequestFrame.Statement i := by
  intro h r hr
  exact ⟨(request_code_range r).1, (request_code_range r).2, requestFrame_length _ _⟩

theorem RequestFrame.writeRequestOverrun (port : Port) (moment : Moment) (frame : List Byte) :
    RequestFrame.Statement (.writeRequestOverrun port moment frame) := request_frame _

theorem RequestFrame.readResponse (port : Port) (reading : Reading) :
    RequestFrame.Statement (.readResponse port reading) := request_frame _

theorem RequestFrame.induct (h : Header) (tray label : Nat) :
    RequestFrame.Statement (.induct h tray label) := request_frame _

theorem RequestFrame.destination (h : Header) (tray : Nat) :
    RequestFrame.Statement (.destination h tray) := request_frame _

theorem RequestFrame.diverted (h : Header) (tray chute : Nat) :
    RequestFrame.Statement (.diverted h tray chute) := request_frame _

theorem RequestFrame.divertFailed (h : Header) (tray cause : Nat) :
    RequestFrame.Statement (.divertFailed h tray cause) := request_frame _

theorem RequestFrame.trayCleared (h : Header) (tray : Nat) :
    RequestFrame.Statement (.trayCleared h tray) := request_frame _

theorem RequestFrame.chuteClear (h : Header) (chute : Nat) :
    RequestFrame.Statement (.chuteClear h chute) := request_frame _

theorem RequestFrame.itemQuery (h : Header) (selector value : Nat) :
    RequestFrame.Statement (.itemQuery h selector value) := request_frame _

theorem RequestFrame.status (h : Header) :
    RequestFrame.Statement (.status h) := request_frame _

theorem RequestFrame.tableLimits (h : Header) :
    RequestFrame.Statement (.tableLimits h) := request_frame _

theorem RequestFrame.attentionMask (h : Header) (mask : Nat) :
    RequestFrame.Statement (.attentionMask h mask) := request_frame _

theorem RequestFrame.modeSet (h : Header) (mode : Nat) :
    RequestFrame.Statement (.modeSet h mode) := request_frame _

theorem RequestFrame.fullReset (h : Header) :
    RequestFrame.Statement (.fullReset h) := request_frame _

theorem RequestFrame.lineRestart (h : Header) :
    RequestFrame.Statement (.lineRestart h) := request_frame _

theorem RequestFrame.statusClear (h : Header) (conditions : Nat) :
    RequestFrame.Statement (.statusClear h conditions) := request_frame _

theorem RequestFrame.arbiterSet (h : Header) (strategy holdLimit : Nat) :
    RequestFrame.Statement (.arbiterSet h strategy holdLimit) := request_frame _

theorem RequestFrame.holdBegin (h : Header) :
    RequestFrame.Statement (.holdBegin h) := request_frame _

theorem RequestFrame.holdEnd (h : Header) :
    RequestFrame.Statement (.holdEnd h) := request_frame _

theorem RequestFrame.lineSet (h : Header) (settings : LineOperands) :
    RequestFrame.Statement (.lineSet h settings) := request_frame _

theorem RequestFrame.stationSet (h : Header) (address : Nat) (entry : StationOperands) :
    RequestFrame.Statement (.stationSet h address entry) := request_frame _

theorem RequestFrame.classWrite (h : Header) (cls : Nat) (record : ClassOperands) :
    RequestFrame.Statement (.classWrite h cls record) := request_frame _

theorem RequestFrame.classRead (h : Header) (cls : Nat) :
    RequestFrame.Statement (.classRead h cls) := request_frame _

theorem RequestFrame.classClear (h : Header) (cls : Nat) :
    RequestFrame.Statement (.classClear h cls) := request_frame _

theorem RequestFrame.manifestPost (h : Header) (entry : ManifestOperands) :
    RequestFrame.Statement (.manifestPost h entry) := request_frame _

theorem RequestFrame.manifestWithdraw (h : Header) (label : Nat) :
    RequestFrame.Statement (.manifestWithdraw h label) := request_frame _

theorem RequestFrame.manifestRead (h : Header) (label : Nat) :
    RequestFrame.Statement (.manifestRead h label) := request_frame _

theorem RequestFrame.zoneSet (h : Header) (zone chute zstate : Nat) :
    RequestFrame.Statement (.zoneSet h zone chute zstate) := request_frame _

theorem RequestFrame.slotSet (h : Header) (bin : Nat) (slot : SlotOperands) :
    RequestFrame.Statement (.slotSet h bin slot) := request_frame _

theorem RequestFrame.slotAdjust (h : Header) (bin counted cls : Nat) :
    RequestFrame.Statement (.slotAdjust h bin counted cls) := request_frame _

theorem RequestFrame.slotRelease (h : Header) (bin n : Nat) :
    RequestFrame.Statement (.slotRelease h bin n) := request_frame _

theorem RequestFrame.slotRead (h : Header) (bin : Nat) :
    RequestFrame.Statement (.slotRead h bin) := request_frame _

theorem RequestFrame.scheduleWrite (h : Header) (first : Nat) (entries : ListOperand (Nat × Nat)) :
    RequestFrame.Statement (.scheduleWrite h first entries) := request_frame _

theorem RequestFrame.linkSet (h : Header) (period timeout threshold : Nat) :
    RequestFrame.Statement (.linkSet h period timeout threshold) := request_frame _

theorem RequestFrame.scheduleStart (h : Header) (schedule : ScheduleOperands) :
    RequestFrame.Statement (.scheduleStart h schedule) := request_frame _

theorem RequestFrame.scheduleStage (h : Header) (schedule : ScheduleOperands) :
    RequestFrame.Statement (.scheduleStage h schedule) := request_frame _

theorem RequestFrame.scheduleCancel (h : Header) :
    RequestFrame.Statement (.scheduleCancel h) := request_frame _

theorem RequestFrame.singlePoll (h : Header) (station kind : Nat) :
    RequestFrame.Statement (.singlePoll h station kind) := request_frame _

theorem RequestFrame.collect (h : Header) :
    RequestFrame.Statement (.collect h) := request_frame _

theorem RequestFrame.countersSnapshot (h : Header) :
    RequestFrame.Statement (.countersSnapshot h) := request_frame _

theorem RequestFrame.countersRead (h : Header) :
    RequestFrame.Statement (.countersRead h) := request_frame _

theorem RequestFrame.lampSet (h : Header) (lamp source pattern : Nat) :
    RequestFrame.Statement (.lampSet h lamp source pattern) := request_frame _

theorem RequestFrame.storeAccessGrant :
    RequestFrame.Statement .storeAccessGrant := request_frame _

theorem RequestFrame.computationDone (moment : Moment) :
    RequestFrame.Statement (.computationDone moment) := request_frame _

theorem RequestFrame.evidenceFrameTaken (moment : Moment) :
    RequestFrame.Statement (.evidenceFrameTaken moment) := request_frame _

theorem RequestFrame.roundTimerExpiry :
    RequestFrame.Statement .roundTimerExpiry := request_frame _

theorem RequestFrame.pollTransmitted :
    RequestFrame.Statement .pollTransmitted := request_frame _

theorem RequestFrame.replyReceived (frame : List Byte) :
    RequestFrame.Statement (.replyReceived frame) := request_frame _

theorem RequestFrame.replyTimeout :
    RequestFrame.Statement .replyTimeout := request_frame _

theorem RequestFrame.frameIdleGap :
    RequestFrame.Statement .frameIdleGap := request_frame _

theorem RequestFrame.strayReplyBytes (bytes : List Byte) :
    RequestFrame.Statement (.strayReplyBytes bytes) := request_frame _

theorem RequestFrame.holdExpiry :
    RequestFrame.Statement .holdExpiry := request_frame _

theorem RequestFrame.resetAssert :
    RequestFrame.Statement .resetAssert := request_frame _

theorem RequestFrame.resetRelease :
    RequestFrame.Statement .resetRelease := request_frame _

theorem RequestFrame.blinkPhaseToggle :
    RequestFrame.Statement .blinkPhaseToggle := request_frame _

theorem RequestFrame.replyFirstByte (length : Byte) :
    RequestFrame.Statement (.replyFirstByte length) := request_frame _

end Sys2Proof.Laws
end

