-- ==== Sys2Proof/Tests/Slice0.lean ====
section
/-! SUPPORT. Tests. First the smoke tests of WellFormed and the spec's own worked cases and tables, each
expected result taken from the spec; then, for every statement with hypotheses, a witness that concrete
states and operands meet them, clause by clause. -/

namespace Sys2Proof.Tests

open Sys2Proof Sys2Proof.Machine

/-! ### WellFormed refuses what does not fit -/

theorem test_wf_one_byte : (Request.chuteClear 256).wf = false ∧ (Request.chuteClear 255).wf = true := by
  decide

theorem test_wf_two_bytes : (Request.destination 65536).wf = false ∧
    (Request.destination 65535).wf = true := by decide

theorem test_wf_six_bytes : (Request.manifestRead (2 ^ 48)).wf = false ∧
    (Request.manifestRead (2 ^ 48 - 1)).wf = true := by decide

/-- A list operand: the length byte, the number of elements carried, and the elements. -/
theorem test_wf_list : (Request.scheduleWrite 0 { count := 256, elems := [] }).wf = false ∧
    (Request.scheduleWrite 0 { count := 2, elems := [(0, 0)] }).wf = false ∧
    (Request.scheduleWrite 0 { count := 1, elems := [(0, 256)] }).wf = false ∧
    (Request.scheduleWrite 0 { count := 65, elems := [] }).wf = true := by decide

def cls0 : ClassOperands :=
  { required := 15, tolPermille := 20, tolFloor := 8, kw := 60, wCap := 300, grossFactor := 4,
    skip := 2, shadow := 3, threshold := 20, kDark := 6, kLight := 3, kx := 20, sCap := 600,
    uFree := 40, ku := 12, pPill := 90, uCap := 400, ptDet := 150, ptAbs := 250, limA := 120,
    limB := 300, limC := 600, mapA := 0, mapB := 1, mapC := 3, mapD := 4, highBand := 5,
    prefs := { count := 2, elems := [3, 5] } }

def station0 : StationOperands :=
  { configured := 0, kind := 0, holdAllowed := 0, fieldMap := { count := 4, elems := [0, 1, 2, 255] },
    code0 := 0, code1 := 1, code2 := 2, code3 := 3, band := 5, settleCount := 6, unsettleCount := 2,
    holdOnMotion := 0, holdOnOverload := 1, passes := 2, window := 16, badLimit := 4, recovery := 3 }

def line0 : LineOperands :=
  { maxLaps := 3, divertTries := 3, fallbackClass := 63, overflowZone := 31, reviewChute := 47,
    refurbishChute := 2, outletChute := 31, recycleChute := 4 }

def slot0 : SlotOperands := { zone := 3, lane := 1, capacity := 30, affinity := 255, enabled := 0 }

def manifest0 : ManifestOperands :=
  { label := 9, cls := 12, nominal := 640, band := 3, hygiene := 1, expected := 15 }

theorem test_wf_records : (Request.classWrite 0 { cls0 with highBand := 256 }).wf = false ∧
    (Request.stationSet 0 { station0 with fieldMap := { count := 4, elems := [0, 1, 2] } }).wf = false ∧
    (Request.lineSet { line0 with maxLaps := 256 }).wf = false ∧
    (Request.slotSet 65536 slot0).wf = false ∧
    (Request.manifestPost { manifest0 with nominal := 65536 }).wf = false ∧
    (Request.classWrite 0 cls0).wf = true ∧ (Request.stationSet 0 station0).wf = true := by decide

/-- The tag is one byte. -/
theorem test_wf_tag : (Instr.status { port := .line, tag := 256 }).wf = false := by decide

/-! ### Frames -/

/-- R193: over the nine bytes 31 to 39 the CRC is 29B1. -/
theorem test_crc_check_value :
    crc [0x31, 0x32, 0x33, 0x34, 0x35, 0x36, 0x37, 0x38, 0x39] = 0x29B1#16 := by decide +kernel

/-- STATUS with tag 1, INDUCT of tray 417 with label 9, and ZONE SET, written out from R196 and R197; their
CRCs were computed by a separate program that gives 29B1 on the check bytes. -/
theorem test_request_frames_read :
    readRequestFrame [0x00, 0x06, 0x07, 0x01, 0xBF, 0xD6] = .request 1 .status ∧
    readRequestFrame [0x00, 0x0E, 0x01, 0x07, 0x01, 0xA1, 0, 0, 0, 0, 0, 9, 0xA2, 0xF9] =
      .request 7 (.induct 417 9) ∧
    readRequestFrame [0x00, 0x09, 26, 0x07, 3, 9, 0, 0x49, 0x3D] = .request 7 (.zoneSet 3 9 0) := by
  decide +kernel

/-- SINGLE POLL read; and CLASS READ in a frame one byte too long, whose CRC holds, and in a frame cut
short (R197). -/
theorem test_request_frames_refused :
    readRequestFrame [0x00, 0x08, 36, 0x07, 2, 1, 0x02, 0x51] = .request 7 (.singlePoll 2 1) ∧
    readRequestFrame [0x00, 0x08, 21, 0x07, 12, 0x64, 0x47] = .refused .frameError 21 7 ∧
    readRequestFrame [0x00, 0x07, 21, 0x07, 12, 0xB0, 0xA8] = .refused .frameError 21 7 := by
  decide +kernel

/-- R194: an EVIDENCE poll to station 2, without and with HOLD. -/
theorem test_poll_frames :
    pollFrame 2 .evidence false = [0x05, 0x02, 0x01, 0x51, 0x2F] ∧
    pollFrame 2 .evidence true = [0x05, 0x02, 0x81, 0xC0, 0xA7] := by decide +kernel

/-! ### The weighing of the worked case "a garment weighed across three frames" -/

def weigher : StationConfig := { StationConfig.atReset with settleCount := 6, holdOnMotion := true }

def dry (v : Int) : Sample := { value := v, motion := false, overload := false }

def weighed : SettleContext :=
  ([{ value := 640, motion := true, overload := false }, dry 655, dry 661, dry 663, dry 662, dry 664,
    dry 661, dry 662] : List Sample).foldl (SettleContext.sample weigher)
    (SettleContext.openFor 417 (some 3012))

theorem test_settled_weight : weighed.settledWeight = some 662 ∧ weighed.sum = 3973 ∧
    ((weighed.sample weigher (dry 670)).sample weigher (dry 663)).settledWeight = some 662 := by
  decide

/-- With 671 in the place of 663 the run restarts at 671 and nothing is settled. -/
theorem test_unsettled : ((weighed.sample weigher (dry 670)).sample weigher (dry 671)) =
    { weighed with phase := .seeking, reference := some 671, count := 1, sum := 671,
                   settledWeight := none, outCount := 0 } := by decide

/-! ### Scans -/

/-- The table of R97. -/
theorem test_averages : [averageOf 2 (-91), averageOf 2 53, averageOf 4 10, averageOf 4 (-10),
    averageOf 4 6, averageOf 4 (-2), averageOf 4 1, averageOf 16 (-2032), averageOf 1 (-127)] =
    [-46, 27, 3, -3, 2, -1, 0, -127, -127] := by decide

def knitwear : ClassRecord := (readClassRecord cls0).getD ClassRecord.cleared

/-- The averaged profile of the worked case "a broken first run and a complete second run". -/
theorem test_extraction : extractPeaks knitwear
    [-48, 6, 2, -9, -23, -46, -38, -15, 21, 3, 0, -4, 5, 19, 24, 27, 22, 8, -2, 0, 1, -7, 0, 3] =
    { peaks := [{ pos := 5, amp := -46 }, { pos := 15, amp := 27 }], total := 2 } := by decide

/-- The worked case "more runs than kept peaks", with position 12 below the threshold: the case counts the
dark positions 11 to 14 as two runs, which by R99 are one (log 24). -/
theorem test_strongest_kept :
    extractPeaks { knitwear with skip := 0, shadow := 1, threshold := 10 }
      [0, 0, 0, -40, -31, 0, 0, 0, 25, 25, 18, -14, 0, -25, -20, 0, 0, 0, 0, 0, 60, 44, -15, 0, 0,
       0, 0, 0, 0, 0, 0, 0, 0, 25] =
    { peaks := [{ pos := 3, amp := -40 }, { pos := 8, amp := 25 }, { pos := 13, amp := -25 },
                { pos := 20, amp := 60 }], total := 5 } := by decide +kernel

/-! ### Grading: the worked cases "a knitted sweater", "a belt" and "saturation" -/

def sweater : GradeCopy :=
  { index := 5, ticket := 3012, tray := 417, cls := 12, nominal := some 640, band := some 3,
    hygiene := false, noManifest := false, excessUnit := false, weight := some 662,
    tag := some { tag := .intact, sku := some 12 },
    scan := some { peaks := [{ pos := 5, amp := -46 }, { pos := 15, amp := 27 }], total := 2 },
    wear := some { index := 71, pilling := false }, valid := true, record := knitwear }

theorem test_sweater : computeResult sweater = some { score := 250, grade := .b } ∧
    decideDisposition sweater (computeResult sweater) = (.restockSecond, .none) := by decide

def variant (c : GradeCopy) : Option GradeResult × Disposition × Reason :=
  (computeResult c, decideDisposition c (computeResult c))

/-- Its variations: pilling; price band 6; hygiene with the tag detached; SKU read 14. -/
theorem test_sweater_variations :
    variant { sweater with wear := some { index := 71, pilling := true } } =
      (some { score := 340, grade := .c }, .outlet, .none) ∧
    variant { sweater with band := some 6 } =
      (some { score := 250, grade := .b }, .review, .highValue) ∧
    variant { sweater with hygiene := true, tag := some { tag := .detached, sku := some 12 } } =
      (some { score := 400, grade := .c }, .recycle, .hygiene) ∧
    variant { sweater with tag := some { tag := .intact, sku := some 14 } } =
      (some { score := 250, grade := .b }, .review, .wrongItem) := by decide

def belt (w : Option Nat) : GradeCopy :=
  { sweater with
    nominal := some 40, band := some 2, weight := w, cls := 40, scan := none
    tag := some { tag := .intact, sku := some 40 }, wear := some { index := 200, pilling := true }
    record := { ClassRecord.cleared with
      required := 3, kw := 60, wCap := 300, grossFactor := 4, ptDet := 100, ptAbs := 200, limA := 50
      limB := 150, limC := 400, mapA := .restockNew, mapB := .refurbish, mapC := .outlet
      mapD := .recycle, highBand := 8 } }

theorem test_belt :
    variant (belt (some 41)) = (some { score := 0, grade := .a }, .restockNew, .none) ∧
    variant (belt (some 42)) = (some { score := 60, grade := .b }, .refurbish, .none) ∧
    variant (belt (some 44)) = (some { score := 180, grade := .c }, .outlet, .none) ∧
    variant (belt (some 45)) = (some { score := 240, grade := .c }, .review, .weightGross) ∧
    variant (belt (some 0)) = (some { score := 300, grade := .c }, .review, .weightGross) ∧
    variant (belt none) = (some { score := 300, grade := .c }, .outlet, .none) := by decide

theorem test_saturation :
    scanTerm { sweater with
      scan := some { peaks := [⟨0, -127⟩, ⟨2, -127⟩, ⟨4, -127⟩, ⟨6, -127⟩], total := 255 }
      record := { knitwear with sCap := 1000, kDark := 15, kx := 63, threshold := 1 } } = 1000 := by
  decide

/-! ### Bins: the worked case "one zone under pressure" -/

def secondBin (zone capacity committed reserved : Nat) (aff cls : Option Nat) : Bin :=
  { zone := zone, lane := .second, capacity := capacity, committed := committed, reserved := reserved,
    affinity := aff, cls := cls, enabled := true }

def pressed (b97 b98 : Bin) (zone3 : ZoneState) : State :=
  { State.reset with
    mode := .run
    line := { LineSettings.atReset with overflowZone := some 31, reviewChute := 47 }
    zones := [(3, { chute := 9, state := zone3 }), (5, { chute := 14, state := .opened }),
              (31, { chute := 40, state := .opened })]
    bins := [(96, secondBin 3 20 20 0 (some 12) (some 12)), (97, b97), (98, b98),
             (160, secondBin 5 40 0 0 none none), (161, secondBin 5 25 10 0 (some 20) (some 20))] }

theorem test_search :
    (pressed (secondBin 3 30 25 3 none (some 12)) (secondBin 3 40 0 0 none none) .opened).searchBin
      [3, 5] 12 .second = some 97 ∧
    (pressed (secondBin 3 30 25 5 none (some 12)) (secondBin 3 40 0 0 none none) .opened).searchBin
      [3, 5] 12 .second = some 98 ∧
    (pressed (secondBin 3 30 26 4 none (some 12)) (secondBin 3 40 0 0 none none) .blocked).searchBin
      [3, 5] 12 .second = some 160 := by decide +kernel

/-! ### The arbiter: the worked case "one set of requests under three strategies" -/

def three (strategy : Strategy) (pointer : Client) (w : WaitingSet) : Option Client :=
  ({ Arbiter.atReset with strategy := strategy, pointer := pointer, waiting := w } : Arbiter).choice

/-- Waiting sets are written LPE, SPE, EC, GC. -/
theorem test_grants :
    three .sorterFirst .lpe ⟨false, true, true, true⟩ = some .spe ∧
    three .sorterFirst .spe ⟨true, false, true, true⟩ = some .gc ∧
    three .sorterFirst .gc ⟨true, false, true, false⟩ = some .ec ∧
    three .rotate .lpe ⟨false, true, true, true⟩ = some .spe ∧
    three .rotate .spe ⟨true, false, true, true⟩ = some .ec ∧
    three .rotate .ec ⟨true, false, false, true⟩ = some .gc ∧
    three .chained .spe ⟨true, false, true, true⟩ = some .gc := by decide

/-! ### States for the witnesses -/

/-- Requests with tag 7, posted while the store is free. -/
def onLine : Header := { port := .line, tag := 7 }

def onSorter : Header := { port := .sorter, tag := 7 }

/-- RUN, with the round controller at rest. -/
def inRun : State :=
  { State.reset with mode := .run, controller := { RoundController.atReset with roundTimer := some 100 } }

/-- A store hold of 20 ms is open. -/
def held : State := { inRun with arbiter := { Arbiter.atReset with hold := some 20 } }

/-- One item, in entry 0. -/
def carrying (it : Item) (s : State) : State :=
  { s with
    items := [(0, it)], trayIndex := [(it.tray, { index := 0, ticket := it.ticket })]
    gradeQueue := if it.state = .queued then [0] else [], waitList := [] }

theorem carrying_item (it : Item) (s : State) (i : Nat) :
    (carrying it s).item i = if i = 0 then it else Item.empty := by
  by_cases h : i = 0
  · subst h
    rfl
  · simp [carrying, State.item, tget, tfind, h, Ne.symm h]

/-- One active item on its tray obeys the laws of the items. -/
theorem carrying_laws (it : Item) (s : State) (ha : it.active = true)
    (hb : it.bin = none ∨ it.state = .decided ∨ it.state = .routed) :
    (carrying it s).ItemLaws := by
  have hr : it.state ≠ .retiring := by
    intro h
    simp [Item.active, h] at ha
  have he : Item.empty.active = false ∧ Item.empty.state = .free ∧ Item.empty.bin = none :=
    ⟨rfl, rfl, rfl⟩
  have ht : ∀ t, (carrying it s).trayEntry t =
      if it.tray = t then some { index := 0, ticket := it.ticket } else none := fun t => rfl
  refine ⟨⟨?_, ?_⟩, ⟨?_, ?_⟩, ⟨?_, ?_⟩, ?_, ?_⟩
  · intro t e h
    rw [ht] at h
    split at h
    · cases h
      rw [carrying_item, if_pos rfl]
      exact ⟨ha, ‹_›, rfl⟩
    · cases h
  · intro i h
    rw [carrying_item] at h ⊢
    split at h
    · subst_vars
      simp [ht]
    · exact absurd h (by simp [he])
  · by_cases h : it.state = .queued <;> simp [carrying, h]
  · intro i
    rw [carrying_item]
    by_cases h : it.state = .queued <;> by_cases hi : i = 0 <;> simp [carrying, h, hi, he]
  · simp [carrying]
  · intro i
    rw [carrying_item]
    by_cases hi : i = 0 <;> simp [carrying, hi, he, hr]
  · intro i h
    rw [carrying_item, if_neg]
    intro h0
    simp [h0, Config.itemEntries] at h
  · intro i h
    rw [carrying_item] at h ⊢
    by_cases hi : i = 0
    · simp only [hi, if_true] at h ⊢
      rcases hb with hb | hb | hb <;> simp_all
    · simp [hi, he] at h

theorem carries_zero (it : Item) (s : State) (ha : it.active = true) :
    (carrying it s).carries it.tray 0 := ⟨ha, rfl⟩

theorem carrying_other (it : Item) (s : State) (t : Nat) (h : t ≠ it.tray) :
    ¬ ∃ i, (carrying it s).carries t i := by
  rintro ⟨i, h1, h2⟩
  rw [carrying_item] at h1 h2
  split at h1
  · exact h (by simp_all)
  · exact absurd h1 (by decide)

/-- An item of class 12 on tray 417, with the evidence knitwear requires but for its scan. -/
def garment : Item :=
  { Item.empty with
    state := .opened, ticket := 3012, tray := 417, cls := 12, weight := some 662
    tag := some { tag := .intact, sku := some 12 }, wear := some { index := 71, pilling := false } }

/-- The line of the restock worked case with knitwear as class 12. -/
def floor (zone3 : ZoneState) : State :=
  { pressed (secondBin 3 30 25 3 none (some 12)) (secondBin 3 40 0 0 none none) zone3 with
    classes := [(12, knitwear)], controller := { RoundController.atReset with roundTimer := some 100 } }

/-- The item decided for bin 97. -/
def decided : Item :=
  { garment with state := .decided, disposition := some .restockSecond, bin := some 97, chute := some 9 }

def routed : Item := { decided with state := .routed }

/-- The first `n` entries are taken, by items that wait for report records. -/
def crowd (n : Nat) : State :=
  { inRun with
    items := (List.range n).map fun i => (i, { Item.empty with state := .retiring })
    waitList := List.range n }

theorem tfind_map_range {α : Type} (v : α) : ∀ (l : List Nat) (k : Nat),
    tfind (l.map fun i => (i, v)) k = if k ∈ l then some v else none
  | [], k => rfl
  | a :: l, k => by
    by_cases h : a = k
    · simp [tfind, h]
    · simp [tfind, h, tfind_map_range v l k, Ne.symm h]

theorem crowd_item (n i : Nat) :
    (crowd n).item i = if i < n then { Item.empty with state := .retiring } else Item.empty := by
  unfold State.item tget
  rw [crowd, tfind_map_range]
  by_cases hi : i < n <;> simp [hi]

theorem crowd_laws (n : Nat) (hn : n ≤ 256) : (crowd n).ItemLaws := by
  have hi := crowd_item n
  have hw : (crowd n).waitList = List.range n := rfl
  have hq : (crowd n).gradeQueue = [] := rfl
  refine ⟨⟨?_, ?_⟩, ⟨?_, ?_⟩, ⟨?_, ?_⟩, ?_, ?_⟩
  · intro t e h
    have ht : (crowd n).trayEntry t = none := rfl
    rw [ht] at h
    cases h
  · intro i h
    rw [hi] at h
    split at h <;> exact absurd h (by decide)
  · exact List.nodup_nil
  · intro i
    rw [hi, hq]
    split <;> simp [Item.empty]
  · rw [hw]
    exact List.nodup_range
  · intro i
    rw [hi, hw, List.mem_range]
    by_cases h : i < n <;> simp [h, Item.empty]
  · intro i h
    have : 256 ≤ i := h
    rw [hi, if_neg (by omega)]
  · intro i h
    rw [hi] at h
    split at h <;> exact absurd h (by decide)

theorem crowd_carries_none (n t : Nat) : ¬ ∃ i, (crowd n).carries t i := by
  rintro ⟨i, h, -⟩
  rw [crowd_item] at h
  split at h <;> exact absurd h (by decide)

theorem crowd_full (i : Nat) (h : i < 256) : ((crowd 256).item i).state ≠ .free := by
  rw [crowd_item, if_pos h]
  decide

/-- A line with stations 2 (TAG) and 3 (WEIGH) configured, and the controller given. Schedule entry 10
polls station 2, entry 12 station 3; entry 11 polls station 9, which is not configured. -/
def linked (c : RoundController) : State :=
  { inRun with
    controller := c
    stations := [(2, { Station.atReset with config :=
                        { StationConfig.atReset with configured := true, kind := .tag } }),
                 (3, { Station.atReset with config :=
                        { StationConfig.atReset with configured := true, kind := .weigh } })]
    schedule := [(10, { station := 2, kind := .evidence }), (11, { station := 9, kind := .status }),
                 (12, { station := 3, kind := .evidence })] }

def schedule3 : Schedule := { base := 10, length := 3, rep := true }

def waiting (staged : Option StagedSchedule) (pendingStart : Option PendingStart) (a : Schedule) :
    RoundController :=
  { RoundController.atReset with
    state := .roundWait, active := some a, staged := staged, pendingStart := pendingStart
    roundTimer := some 100 }

theorem waiting_law (staged : Option StagedSchedule) (ps : Option PendingStart) (a : Schedule) :
    (linked (waiting staged ps a)).ControllerLaw := by
  simp [State.ControllerLaw, RoundController.ScheduleLaw, linked, waiting, inRun, RoundController.atReset]

def flying (r : ReturnPoint) (phase : PollPhase) : InFlight :=
  { station := 2, kind := .evidence, hold := false, timeout := 200, returnPoint := r, single := false,
    phase := phase }

/-- A poll in flight: a schedule is active exactly with a return point that needs one. -/
def polling (r : ReturnPoint) (phase : PollPhase) (slot : Option Poll) : RoundController :=
  { RoundController.atReset with
    state := .awaitReply
    active := if r = .round ∨ r = .roundWait then some schedule3 else none
    walkPos := if r = .round then some 11 else none
    slot := slot, inFlight := some (flying r phase), roundTimer := some 100 }

theorem polling_law (r : ReturnPoint) (phase : PollPhase) (slot : Option Poll) :
    (linked (polling r phase slot)).ControllerLaw := by
  cases r <;> simp [State.ControllerLaw, RoundController.ScheduleLaw, linked, polling, flying, inRun,
    RoundController.atReset]

theorem idle_law : (linked { RoundController.atReset with roundTimer := some 100 }).ControllerLaw := by
  simp [State.ControllerLaw, RoundController.ScheduleLaw, linked, inRun, RoundController.atReset]

theorem reset_law : State.reset.ControllerLaw := by
  simp [State.ControllerLaw, RoundController.ScheduleLaw, State.reset, RoundController.atReset]

theorem first_of (s : State) (base length : Nat) (p : Poll) (h : 0 < length)
    (he : s.scheduleEntry base = some p) (hc : (s.station p.station).config.configured = true) :
    s.firstPoll base length 0 p := ⟨h, he, hc, fun _ _ hj => absurd hj (Nat.not_lt_zero _)⟩

theorem no_first (s : State) (h : s.schedule = []) (base length : Nat) :
    ¬ ∃ i p, s.firstPoll base length i p := by
  rintro ⟨i, p, -, he, -⟩
  simp [State.scheduleEntry, h, tfind] at he

/-- The conditions of `Taken` for a frame that is the request's own, as one check. -/
def takenHere (p : Port) (r : Request) (s : State) : Bool :=
  s.resetN && (s.port p).phase == .idle && permitted r p && !refusedInMode s.mode r &&
    (!takesAccess r ||
      (s.arbiter.grantsAtOnce (clientOf p) .storeFree && (p == .line || s.arbiter.hold == none))) &&
    ((r != .fullReset && r != .lineRestart) || s.arbiter.holder == none)

theorem taken_of {h : Header} {p : Port} {r : Request} {s : State} (hp : h.port = p)
    (hr : h.received = none) (hm : h.moment = .storeFree) (ok : takenHere p r s = true) :
    Taken h p h.tag r s := by
  simp only [takenHere, Bool.and_eq_true, Bool.or_eq_true, beq_iff_eq, bne_iff_ne,
    Bool.not_eq_true'] at ok
  obtain ⟨⟨⟨⟨⟨h1, h2⟩, h3⟩, h4⟩, h5⟩, h6⟩ := ok
  refine ⟨hp, ?_, h1, h2, h3, h4, fun ht => ?_, fun hx => ?_⟩
  · simp [frameTaken, hr]
  · rcases h5 with h5 | ⟨h5, h7⟩
    · simp [ht] at h5
    · refine ⟨hm ▸ h5, fun hs => ?_⟩
      rcases h7 with h7 | h7
      · simp [hs] at h7
      · exact h7
  · rcases h6 with h6 | h6
    · rcases hx with hx | hx
      · exact absurd hx h6.1
      · exact absurd hx h6.2
    · exact h6

theorem taken_line {r : Request} {s : State} (ok : takenHere .line r s = true) :
    Taken onLine .line 7 r s := taken_of rfl rfl rfl ok

theorem taken_sorter {r : Request} {s : State} (ok : takenHere .sorter r s = true) :
    Taken onSorter .sorter 7 r s := taken_of rfl rfl rfl ok

/-! ### Witnesses: the queue and the frames -/

theorem witness_StepRunsFrontCommand :
    { State.reset with pending := [.status onLine, .holdExpiry] }.pending =
      [.status onLine, .holdExpiry] ∧ State.reset.pending = [] := by decide

theorem witness_RequestFrameRoundTrip :
    (255 < 256 ∧ (Request.classWrite 255 cls0).wf = true ∧
      (Request.induct 65535 (2 ^ 48 - 1)).wf = true) ∧
    ((Instr.induct onSorter 417 9).request? = some (onSorter, .induct 417 9) ∧
      onSorter.received = none ∧ onSorter.tag < 256 ∧ (Request.induct 417 9).wf = true) := by decide

theorem witness_ResponseFrameForm :
    255 < 256 ∧ 40 < 256 ∧
      (resultBytes (.classRecord true { knitwear with prefs := [3, 5, 7, 9] })).length + 8 < 65536 := by
  decide +kernel

/-- Frames cut short, of length 5 and 601, with a CRC fault, with codes 0 and 41, and with operands of a
wrong length. -/
theorem witness_FaultyFramesAnswered :
    ([0x00] : List Byte).length < 2 ∧
    wordAt [0x00, 0x05, 7, 1, 0] 0 < 6 ∧ 600 < wordAt [0x02, 0x59] 0 ∧
    ([0x00, 0x06, 7, 1] : List Byte).length < wordAt [0x00, 0x06, 7, 1] 0 ∧
    crcHolds ([0x00, 0x06, 7, 1, 0, 0].take (wordAt [0x00, 0x06, 7, 1, 0, 0] 0)) = false ∧
    (∀ code : Byte, code = 0 ∨ code = 41 →
      6 ≤ wordAt (closeFrame [0x00, 0x06, code, 1]) 0 ∧
      wordAt (closeFrame [0x00, 0x06, code, 1]) 0 ≤ 600 ∧
      wordAt (closeFrame [0x00, 0x06, code, 1]) 0 ≤ (closeFrame [0x00, 0x06, code, 1]).length ∧
      crcHolds ((closeFrame [0x00, 0x06, code, 1]).take (wordAt (closeFrame [0x00, 0x06, code, 1]) 0))
        = true ∧
      (byteAt (closeFrame [0x00, 0x06, code, 1]) 2 = 0 ∨
        40 < byteAt (closeFrame [0x00, 0x06, code, 1]) 2)) ∧
    (crcHolds ((closeFrame [0x00, 0x07, 40, 1, 9]).take 7) = true ∧
      readOperands 40 (((closeFrame [0x00, 0x07, 40, 1, 9]).take 7).take 5 |>.drop 4) = none) ∧
    (Instr.status onLine).request? = some (onLine, .status) ∧
    frameTaken { onLine with received := some [0x00] } .status = .refused .frameError 0 0 ∧
    State.reset.resetN = true ∧ (State.reset.port .line).phase = .idle := by
  refine ⟨by decide, by decide, by decide, by decide, by decide +kernel, ?_, by decide +kernel,
    by decide, by decide, by decide, by decide⟩
  rintro code (rfl | rfl) <;> decide +kernel

theorem witness_PermissionTable :
    (Instr.chuteClear onLine 1).request? = some (onLine, .chuteClear 1) ∧
    frameTaken onLine (.chuteClear 1) = .request 7 (.chuteClear 1) ∧ State.reset.resetN = true ∧
    (State.reset.port onLine.port).phase = .idle ∧ permitted (.chuteClear 1) .line = false ∧
    permitted (.modeSet 0) .sorter = false := by decide

/-- A request that takes no access, one under a hold, and one granted at once, each in CONFIGURE. -/
theorem witness_ModeCheck :
    (State.reset.resetN = true ∧ (∀ p, (State.reset.port p).phase = .idle)) ∧
    (frameTaken onLine .scheduleCancel = .request 7 .scheduleCancel ∧
      permitted .scheduleCancel .line = true ∧
      refusedInMode State.reset.mode .scheduleCancel = true ∧ takesAccess .scheduleCancel = false) ∧
    (permitted (.destination 1) .sorter = true ∧
      refusedInMode { held with mode := .configure }.mode (.destination 1) = true ∧
      { held with mode := .configure }.arbiter.hold.isSome = true ∧
      { held with mode := .configure }.sorterPort.phase = .idle) ∧
    (refusedInMode State.reset.mode (.chuteClear 1) = true ∧ takesAccess (.chuteClear 1) = true ∧
      State.reset.arbiter.hold.isSome = false ∧
      permitted (.chuteClear 1) .sorter = true ∧
      State.reset.arbiter.grantsAtOnce (clientOf .sorter) .storeFree = true) := by
  refine ⟨⟨by decide, fun p => ?_⟩, by decide, by decide, by decide⟩
  cases p <;> rfl

/-- The Line Port executes a CLASS READ, and the Sorter Port holds a response. -/
def busyPorts : State :=
  { inRun with
    linePort := { PortEngine.atReset with phase := .executing 1 (.classRead 12) }
    sorterPort := { PortEngine.atReset with
      phase := .responseReady { code := .ok, request := 6, tag := 2, held := false,
                                results := .reopened 1 } } }

theorem witness_OverrunDiscarded :
    (Instr.status onLine).request? = some (onLine, .status) ∧ busyPorts.resetN = true ∧
    (busyPorts.port .line).phase ≠ .idle ∧ (busyPorts.port .sorter).phase ≠ .idle := by decide

/-- The response of busyPorts has 9 bytes: read whole in 9, cut short in 8. -/
theorem witness_ReadResponse :
    busyPorts.resetN = true ∧
    (busyPorts.port .sorter).phase =
      .responseReady { code := .ok, request := 6, tag := 2, held := false, results := .reopened 1 } ∧
    (responseFrame { code := .ok, request := 6, tag := 2, held := false, results := .reopened 1 }
      false).length = 9 ∧
    (∀ r, (busyPorts.port .line).phase ≠ .responseReady r) ∧ (busyPorts.port .line).phase ≠ .idle := by
  refine ⟨by decide, by decide, by decide +kernel, fun r h => ?_, by decide⟩
  cases h

/-- A FULL RESET has discarded the response a read was shifting out at the Sorter Port. -/
def readCut : State :=
  { inRun with
    sorterPort := { PortEngine.atReset with discarded := some [0, 9, 1, 6, 2, 0, 1, 0xAB, 0xCD] } }

/-- A read that was cut and one that was not, on an IDLE port; and kind bytes that are ignored. -/
theorem witness_ReadResponse_cut :
    readCut.resetN = true ∧ (readCut.port .sorter).phase = .idle ∧
    (readCut.port .sorter).discarded = some [0, 9, 1, 6, 2, 0, 1, 0xAB, 0xCD] ∧
    (readCut.port .line).phase = .idle ∧ (readCut.port .line).discarded = none ∧
    (0xC0#8 : Byte) ≠ 0xC1 ∧ (0xC0#8 : Byte) ≠ 0xC2 ∧ (0xC3#8 : Byte) ≠ 0xC1 ∧
    (0xC3#8 : Byte) ≠ 0xC2 := by decide

/-! ### Witnesses: the arbiter -/

/-- ROTATE with the pointer at GC: a HOLD BEGIN waits at the Line Port, a DESTINATION at the Sorter Port
(SLOT READ would do for another request). -/
def rivals (q : Request) : State :=
  { inRun with
    arbiter := { Arbiter.atReset with
      strategy := .rotate, waiting := { lpe := true, spe := true, ec := false, gc := false } }
    linePort := { PortEngine.atReset with phase := .executing 1 .holdBegin }
    sorterPort := { PortEngine.atReset with phase := .executing 2 q } }

/-- A DESTINATION that waits in CONFIGURE, ahead of every other client. -/
def earlyDestination : State :=
  { rivals (.destination 1) with
    mode := .configure
    arbiter := { Arbiter.atReset with waiting := { lpe := true, spe := true, ec := true, gc := true } } }

/-- A request arrives while an access is in progress; a HOLD BEGIN is granted; a DESTINATION is granted in
CONFIGURE. -/
theorem witness_RequestWaitsAndGrantServes :
    ((Instr.classRead { onLine with moment := .duringAccess } 12).request? =
        some ({ onLine with moment := .duringAccess }, .classRead 12) ∧
      permitted (.classRead 12) .line = true ∧ takesAccess (.classRead 12) = true ∧
      inRun.resetN = true ∧ (inRun.port .line).phase = .idle ∧ inRun.arbiter.hold.isSome = false ∧
      inRun.arbiter.grantsAtOnce .lpe .duringAccess = false) ∧
    ((rivals (.destination 1)).resetN = true ∧ (rivals (.destination 1)).arbiter.holder = none ∧
      (rivals (.destination 1)).arbiter.choice = some (clientOf .line) ∧
      ((rivals (.destination 1)).port .line).phase = .executing 1 .holdBegin ∧
      refusedInMode (rivals (.destination 1)).mode .holdBegin = false) ∧
    (earlyDestination.resetN = true ∧ earlyDestination.arbiter.holder = none ∧
      earlyDestination.arbiter.choice = some (clientOf .sorter) ∧
      (earlyDestination.port .sorter).phase = .executing 2 (.destination 1) ∧
      refusedInMode earlyDestination.mode (.destination 1) = true) := by decide

theorem witness_GrantOrder :
    Arbiter.atReset.hold = none ∧ Arbiter.atReset.strategy ≠ .rotate ∧
    (rivals (.destination 1)).arbiter.strategy = .rotate ∧ held.arbiter.hold.isSome = true ∧
    (rivals (.destination 1)).arbiter.choice = some .lpe ∧
    (rivals (.destination 1)).ClientLaw ∧ inRun.arbiter.choice = none ∧
    { Arbiter.atReset with holder := some .gc, chain := true }.holder ≠ none := by
  refine ⟨by decide, by decide, by decide, by decide, by decide, ?_, by decide, by decide⟩
  simp [State.ClientLaw, rivals, inRun, State.reset, Grader.waits, Collector.waits,
    PortEngine.executing, Arbiter.atReset, PortEngine.atReset, takesAccess]

/-- LPE waits throughout while the three others are granted first. -/
theorem witness_RotateGrantsWithinFour :
    ∀ k, k < 4 →
      (WaitingSet.mk true true true true).has .lpe = true ∧
      (WaitingSet.mk true true true true).rotate (([.lpe, .spe, .ec, .gc, .lpe] : List Client).getD k .lpe)
        = some (([.lpe, .spe, .ec, .gc, .lpe] : List Client).getD (k + 1) .lpe) := by decide

theorem witness_SorterRequestsDuringHold :
    frameTaken onSorter (.destination 5000) = .request 7 (.destination 5000) ∧ held.resetN = true ∧
    held.sorterPort.phase = .idle ∧ permitted (.destination 5000) .sorter = true ∧
    takesAccess (.destination 5000) = true ∧ refusedInMode held.mode (.destination 5000) = false ∧
    held.arbiter.hold.isSome = true ∧ requestCode (.destination 5000) = 2 ∧
    permitted .tableLimits .sorter = true ∧ takesAccess .tableLimits = true ∧
    refusedInMode held.mode .tableLimits = false ∧ requestCode .tableLimits ≠ 2 := by decide

theorem witness_HoldBegin :
    (Taken onLine .line 7 .holdBegin inRun ∧ inRun.arbiter.hold = none ∧
      inRun.sorterPort.executing = false) ∧
    (Taken onLine .line 7 .holdBegin held ∧ held.arbiter.hold.isSome = true) ∧
    (∀ q, q = .destination 1 ∨ q = .tableLimits →
      (rivals q).resetN = true ∧ (rivals q).arbiter.holder = none ∧ (rivals q).arbiter.hold = none ∧
      (rivals q).arbiter.choice = some .lpe ∧ (rivals q).linePort.phase = .executing 1 .holdBegin ∧
      (rivals q).sorterPort.phase = .executing 2 q ∧ refusedInMode (rivals q).mode q = false) := by
  refine ⟨⟨taken_line (by decide), by decide⟩, ⟨taken_line (by decide), by decide⟩, ?_⟩
  rintro q (rfl | rfl) <;> decide

theorem witness_HoldEnds :
    (Taken onLine .line 7 .holdEnd held ∧ held.arbiter.hold = some 20) ∧
    (Taken onLine .line 7 .holdEnd inRun ∧ inRun.arbiter.hold = none) ∧
    held.resetN = true ∧ inRun.resetN = true := by
  and_intros <;> first
    | exact taken_line (by decide) | exact taken_sorter (by decide) | decide

/-- The limits 1 and 250 are in the range, 0 and 251 and strategy 3 are refused. -/
theorem witness_ArbiterSet :
    Taken onLine .line 7 (.arbiterSet 2 1) held ∧ 2 = strategyCode .chained ∧
    Taken onLine .line 7 (.arbiterSet 0 250) inRun ∧ 0 = strategyCode .sorterFirst ∧
    Taken onLine .line 7 (.arbiterSet 3 20) held ∧ Taken onLine .line 7 (.arbiterSet 0 0) inRun ∧
    Taken onLine .line 7 (.arbiterSet 0 251) inRun := by
  and_intros <;> first
    | exact taken_line (by decide) | exact taken_sorter (by decide) | decide

/-! ### Witnesses: status, counters, lamps, reports -/

theorem witness_StatusWord :
    Taken onLine .line 7 .status State.reset ∧ Taken onSorter .sorter 7 .status held := by
  and_intros <;> first
    | exact taken_line (by decide) | exact taken_sorter (by decide) | decide

/-- The sets 0 and 1984 (bits 6 to 10) are taken, 1984 + 32 and 2048 refused; the masks 0 and 2047 are
taken, 65535 keeps, 2048 and 65534 are refused. -/
theorem witness_StatusClearAndAttentionMask :
    Taken onLine .line 7 (.statusClear 0) inRun ∧ Taken onLine .line 7 (.statusClear 1984) inRun ∧
    1984 % 64 = 0 ∧ 1984 < 2048 ∧ Taken onLine .line 7 (.statusClear 2016) inRun ∧ 2016 % 64 ≠ 0 ∧
    Taken onLine .line 7 (.statusClear 2048) inRun ∧
    Taken onSorter .sorter 7 (.attentionMask 2047) inRun ∧
    Taken onLine .line 7 (.attentionMask 65535) inRun ∧
    Taken onLine .line 7 (.attentionMask 2048) inRun ∧
    Taken onLine .line 7 (.attentionMask 65534) inRun := by
  and_intros <;> first
    | exact taken_line (by decide) | exact taken_sorter (by decide) | decide

theorem witness_CountersSnapshotAndRead :
    Taken onLine .line 7 .countersSnapshot inRun ∧ Taken onLine .line 7 .countersRead inRun ∧
    Taken { onLine with moment := .duringAccess } .line 7 .countersSnapshot inRun ∧
    (Instr.status onLine).request? = some (onLine, .status) ∧ inRun.resetN = true ∧
    (∃ t, exec (.status onLine) inRun = .next t) ∧
    (∃ t, exec (.readResponse .sorter { count := 9, cut := none }) busyPorts = .next t) ∧
    ((Instr.chuteClear onSorter 1).request? = some (onSorter, .chuteClear 1) ∧
      busyPorts.resetN = true ∧ busyPorts.sorterPort.phase ≠ .idle ∧
      ∃ t, exec (.chuteClear onSorter 1) busyPorts = .next t) := by
  refine ⟨taken_line (by decide), taken_line (by decide), ⟨rfl, by decide, by decide, by decide, by decide,
    by decide, by decide, by decide⟩, rfl, rfl, ⟨_, rfl⟩, ⟨_, rfl⟩, rfl, rfl, by decide, ⟨_, rfl⟩⟩

/-- A write-back has raised NO_SLOT and REVIEWED (R181's own case), after a missort long ended. -/
def raised : State := (((inRun.bump .missorted).closeRaises.bump .noSlot).bump .reviewed)

/-- A snapshot while no event is in progress holds all three raises, and leaves no live counter above 0. -/
theorem test_snapshot_no_event :
    ∃ t, exec (.countersSnapshot onLine) raised = .next t ∧
      t.snapshot[Counter.missorted.index] = 1 ∧ t.snapshot[Counter.noSlot.index] = 1 ∧
      t.snapshot[Counter.reviewed.index] = 1 ∧ t.counter .noSlot = 0 ∧ t.counter .reviewed = 0 :=
  ⟨_, rfl, by decide +kernel⟩

/-- A snapshot inside the write-back holds the missort all the same: only the write-back is divided. -/
theorem test_snapshot_inside_event :
    ∃ t, exec (.countersSnapshot { onLine with moment := .duringAccess }) raised = .next t ∧
      t.snapshot[Counter.missorted.index] = 1 ∧ t.counter .missorted = 0 :=
  ⟨_, rfl, by decide +kernel⟩

theorem witness_Lamps :
    Taken onLine .line 7 (.lampSet 4 0 0) inRun ∧ Taken onLine .line 7 (.lampSet 0 10 0) inRun ∧
    Taken onLine .line 7 (.lampSet 0 0 2) inRun ∧ Taken onLine .line 7 (.lampSet 3 9 1) inRun ∧
    3 = (3 : Fin 4).val ∧ 9 = lampSourceCode .poolEmpty ∧ 1 = lampPatternCode .blink ∧
    inRun.resetN = true := by
  and_intros <;> first
    | exact taken_line (by decide) | exact taken_sorter (by decide) | decide

theorem witness_TableLimits :
    Taken onLine .line 7 .tableLimits held ∧ Taken onSorter .sorter 7 .tableLimits inRun := by
  and_intros <;> first
    | exact taken_line (by decide) | exact taken_sorter (by decide) | decide

/-- A report waits in each queue; or in the routine queue alone; with an item that waits for a record. -/
def reports (u r : List Report) : State := { crowd 1 with urgent := u, routine := r }

theorem witness_Collect :
    (Taken onLine .line 7 .collect inRun ∧ inRun.urgent = [] ∧ inRun.routine = []) ∧
    (Taken onLine .line 7 .collect (reports [.ofItem .run routed] [.ofItem .run garment]) ∧
      (reports [.ofItem .run routed] [.ofItem .run garment]).urgent = [.ofItem .run routed]) ∧
    (Taken onLine .line 7 .collect (reports [] [.ofItem .run garment]) ∧
      (reports [] [.ofItem .run garment]).urgent = [] ∧
      (reports [] [.ofItem .run garment]).routine = [.ofItem .run garment] ∧
      (reports [] [.ofItem .run garment]).waitList = [0] ∧ inRun.waitList = []) ∧
    (decided.disposition = some .restockSecond ∧ decided.chute = some 9 ∧ decided.scan = none ∧
      Item.empty.chute = none ∧
      { decided with scan := some { peaks := [], total := 0 } }.scan = some { peaks := [], total := 0 })
      := by
  and_intros <;> first
    | exact taken_line (by decide) | exact taken_sorter (by decide) | decide

/-! ### Witnesses: modes and resets -/

theorem witness_ModeSet :
    Taken onLine .line 7 (.modeSet 3) State.reset ∧ Taken onLine .line 7 (.modeSet 2) (crowd 1) ∧
    2 = modeCode .run ∧ 0 = modeCode .configure ∧ (crowd 1).liveItems ≠ 0 ∧
    (Taken onLine .line 7 (.modeSet 2) State.reset ∧ State.reset.liveItems = 0 ∧
      State.reset.mode = .configure ∧ State.reset.line.reviewChute = 0) ∧
    (Taken onLine .line 7 (.modeSet 0) inRun ∧ inRun.liveItems = 0 ∧ inRun.mode ≠ .configure) := by
  and_intros <;> first
    | exact taken_line (by decide) | exact taken_sorter (by decide) | decide +kernel

/-- MODE SET brings RUN to CONFIGURE on an empty line. -/
theorem witness_ModeChangesOnEmptyLine :
    ∃ t, exec (.modeSet onLine 0) inRun = .next t ∧ t.mode ≠ inRun.mode :=
  ⟨_, rfl, by decide +kernel⟩

theorem witness_FullReset : Taken onLine .line 7 .fullReset (floor .blocked) := by
  and_intros <;> first
    | exact taken_line (by decide) | exact taken_sorter (by decide) | decide

theorem witness_LineRestart :
    Taken onLine .line 7 .lineRestart
      { floor .opened with waitList := [3], sorterPort := (rivals (.destination 1)).sorterPort } := by
  and_intros <;> first
    | exact taken_line (by decide) | exact taken_sorter (by decide) | decide

/-- The Grade Computer computes in a chain; the Line Port is idle, or a FULL RESET is in hand there. -/
def chained (line : PortPhase) : State :=
  { inRun with
    grader := .computing sweater
    linePort := { PortEngine.atReset with phase := line }
    arbiter := { Arbiter.atReset with strategy := .chained, holder := some .gc, chain := true } }

theorem witness_ResetWaitsForChain :
    ((Instr.lineRestart onLine).request? = some (onLine, .lineRestart) ∧ onLine.port = .line ∧
      frameTaken onLine .lineRestart = .request 7 .lineRestart ∧
      (chained .idle).resetN = true ∧ (chained .idle).linePort.phase = .idle ∧
      (chained .idle).arbiter.holder.isSome = true) ∧
    (∀ r, r = .fullReset ∨ r = .lineRestart →
      (chained (.executing 1 r)).resetN = true ∧ (chained (.executing 1 r)).grader = .computing sweater ∧
      (chained (.executing 1 r)).arbiter.chain = true ∧
      (chained (.executing 1 r)).linePort.phase = .executing 1 r) := by
  refine ⟨by decide, ?_⟩
  rintro r (rfl | rfl) <;> decide

theorem witness_ResetPin :
    { inRun with resetN := false }.resetN = false ∧ inRun.resetN = true ∧
    Instr.holdExpiry ≠ .resetAssert ∧ Instr.holdExpiry ≠ .resetRelease := by decide

/-! ### Witnesses: manifests, classes, line settings -/

/-- Label 9 has a manifest with a unit received, label 10 one with none. -/
def noticed : State :=
  { inRun with
    manifests :=
      [(9, { cls := 12, nominal := 640, band := 3, hygiene := false, expected := 2, received := 1 }),
       (10, { cls := 12, nominal := 640, band := 3, hygiene := false, expected := 2, received := 0 })] }

/-- The Manifest Table holds `n` entries, from label 101 on. -/
def notices (n : Nat) : State :=
  { inRun with
    manifests := (List.range n).map fun i =>
      (i + 101, { cls := 0, nominal := 1, band := 0, hygiene := false, expected := 1, received := 0 }) }

theorem tfind_shifted {α : Type} (v : α) : ∀ (l : List Nat) (k d : Nat), k < d →
    tfind (l.map fun i => (i + d, v)) k = none
  | [], _, _, _ => rfl
  | a :: l, k, d, h => by
    rw [List.map_cons, tfind, if_neg (by omega)]
    exact tfind_shifted v l k d h

theorem notices_manifest (n : Nat) : (notices n).manifest 11 = none :=
  tfind_shifted _ _ 11 101 (by decide)

theorem notices_length (n : Nat) : (notices n).manifests.length = n := by simp [notices]

/-- Label 0 and the label 2^48, class 64, weights 0 and 20001, band 8, hygiene 2 and counts 0 and 16 are
outside the ranges; label 9 is in use; label 11 finds the table full, or a place; label 10 is replaced. -/
theorem witness_ManifestPost :
    (∀ o ∈ ([{ manifest0 with label := 0 }, { manifest0 with label := 2 ^ 48 },
        { manifest0 with cls := 64 }, { manifest0 with nominal := 0 }, { manifest0 with nominal := 20001 },
        { manifest0 with band := 8 }, { manifest0 with hygiene := 2 }, { manifest0 with expected := 0 },
        { manifest0 with expected := 16 }] : List ManifestOperands),
      Taken onLine .line 7 (.manifestPost o) noticed ∧
      (o.label = 0 ∨ 2 ^ 48 ≤ o.label ∨ 63 < o.cls ∨ o.nominal = 0 ∨ 20000 < o.nominal ∨ 7 < o.band ∨
        1 < o.hygiene ∨ o.expected = 0 ∨ 15 < o.expected)) ∧
    (Taken onLine .line 7 (.manifestPost manifest0) noticed ∧ 1 ≤ manifest0.label ∧
      manifest0.label < 2 ^ 48 ∧ manifest0.cls ≤ 63 ∧ 1 ≤ manifest0.nominal ∧
      manifest0.nominal ≤ 20000 ∧ manifest0.band ≤ 7 ∧ manifest0.hygiene ≤ 1 ∧
      1 ≤ manifest0.expected ∧ manifest0.expected ≤ 15 ∧
      ((noticed.manifest 9).map (·.received)) = some 1) ∧
    (Taken onLine .line 7 (.manifestPost { manifest0 with label := 11 }) (notices 4096) ∧
      (notices 4096).manifest 11 = none ∧ 4096 ≤ (notices 4096).manifests.length) ∧
    (noticed.manifest 11 = none ∧ noticed.manifests.length < 4096) ∧
    (noticed.manifest 10).map (·.received) = some 0 := by
  refine ⟨?_, ?_, ⟨taken_line (by decide), ?_, ?_⟩, ?_, by decide⟩
  · intro o ho
    exact ⟨taken_line rfl, by
      simp only [List.mem_cons, List.not_mem_nil, or_false] at ho
      rcases ho with rfl | rfl | rfl | rfl | rfl | rfl | rfl | rfl | rfl <;> decide⟩
  · and_intros <;> first | exact taken_line (by decide) | decide
  · exact notices_manifest 4096
  · rw [notices_length]
  · decide

theorem witness_ManifestWithdrawAndRead :
    Taken onLine .line 7 (.manifestWithdraw 0) noticed ∧
    (Taken onLine .line 7 (.manifestWithdraw 11) noticed ∧ noticed.manifest 11 = none) ∧
    (Taken onLine .line 7 (.manifestWithdraw 9) noticed ∧ (noticed.manifest 9).isSome = true) ∧
    Taken onLine .line 7 (.manifestRead 0) noticed ∧ Taken onLine .line 7 (.manifestRead 11) noticed ∧
    Taken onLine .line 7 (.manifestRead 9) noticed := by
  and_intros <;> first | exact taken_line (by decide) | decide

theorem witness_ClassWriteAndClear :
    Taken onLine .line 7 (.classWrite 64 cls0) inRun ∧
    (Taken onLine .line 7 (.classWrite 63 { cls0 with limA := 1001 }) inRun ∧
      readClassRecord { cls0 with limA := 1001 } = none) ∧
    (Taken onLine .line 7 (.classWrite 63 { cls0 with limA := 301 }) inRun ∧
      ((readClassRecord { cls0 with limA := 301 }).map fun r => decide (r.limB < r.limA)) = some true) ∧
    (Taken onLine .line 7 (.classWrite 63 cls0) inRun ∧ readClassRecord cls0 = some knitwear ∧
      knitwear.limA ≤ knitwear.limB ∧ knitwear.limB ≤ knitwear.limC) ∧
    Taken onLine .line 7 (.classClear 64) inRun ∧ Taken onLine .line 7 (.classClear 63) inRun := by
  and_intros <;> first | exact taken_line (by decide) | decide

theorem witness_ClassRead :
    Taken onLine .line 7 (.classRead 64) inRun ∧
    (Taken onLine .line 7 (.classRead 63) inRun ∧ inRun.classValid 63 = false) ∧
    Taken onLine .line 7 (.classRead 12) (floor .opened) := by
  and_intros <;> first | exact taken_line (by decide) | decide

theorem witness_LineSet :
    (Taken onLine .line 7 (.lineSet line0) inRun ∧ inRun.mode ≠ .configure) ∧
    (∀ o ∈ ([{ line0 with maxLaps := 0 }, { line0 with maxLaps := 9 }, { line0 with divertTries := 0 },
        { line0 with divertTries := 8 }, { line0 with fallbackClass := 64 },
        { line0 with overflowZone := 32 }, { line0 with overflowZone := 254 },
        { line0 with reviewChute := 48 }, { line0 with refurbishChute := 48 },
        { line0 with outletChute := 48 }, { line0 with recycleChute := 48 }] : List LineOperands),
      Taken onLine .line 7 (.lineSet o) State.reset ∧
      (o.maxLaps = 0 ∨ 8 < o.maxLaps ∨ o.divertTries = 0 ∨ 7 < o.divertTries ∨
        63 < o.fallbackClass ∨ (31 < o.overflowZone ∧ o.overflowZone ≠ 255) ∨
        47 < o.reviewChute ∨ 47 < o.refurbishChute ∨ 47 < o.outletChute ∨ 47 < o.recycleChute)) ∧
    (∀ o ∈ ([line0, { line0 with overflowZone := 255, maxLaps := 8, divertTries := 7 }] :
        List LineOperands),
      Taken onLine .line 7 (.lineSet o) State.reset ∧ 1 ≤ o.maxLaps ∧ o.maxLaps ≤ 8 ∧
      1 ≤ o.divertTries ∧ o.divertTries ≤ 7 ∧ o.fallbackClass ≤ 63 ∧
      (o.overflowZone ≤ 31 ∨ o.overflowZone = 255) ∧ o.reviewChute ≤ 47 ∧ o.refurbishChute ≤ 47 ∧
      o.outletChute ≤ 47 ∧ o.recycleChute ≤ 47) := by
  refine ⟨⟨taken_line (by decide), by decide⟩, fun o ho => ⟨taken_line rfl, ?_⟩,
    fun o ho => ⟨taken_line rfl, ?_⟩⟩
  · revert o
    decide
  · revert o
    decide

/-! ### Witnesses: zones and bins -/

theorem witness_ZoneSet :
    Taken onLine .line 7 (.zoneSet 32 9 0) inRun ∧ Taken onLine .line 7 (.zoneSet 31 9 1) inRun ∧
    Taken onLine .line 7 (.zoneSet 31 9 3) inRun ∧ Taken onLine .line 7 (.zoneSet 31 48 2) inRun ∧
    Taken onLine .line 7 (.zoneSet 31 0 0) inRun ∧ Taken onLine .line 7 (.zoneSet 31 47 0) inRun ∧
    Taken onLine .line 7 (.zoneSet 31 0 2) inRun := by
  and_intros <;> first | exact taken_line (by decide) | decide

theorem witness_SlotSet :
    Taken onLine .line 7 (.slotSet 1024 slot0) (floor .opened) ∧
    (∀ o ∈ ([{ slot0 with zone := 32 }, { slot0 with lane := 2 }, { slot0 with capacity := 256 },
        { slot0 with affinity := 64 }, { slot0 with affinity := 254 }, { slot0 with enabled := 2 }] :
        List SlotOperands),
      Taken onLine .line 7 (.slotSet 1023 o) (floor .opened) ∧
      (31 < o.zone ∨ 1 < o.lane ∨ 255 < o.capacity ∨ (63 < o.affinity ∧ o.affinity ≠ 255) ∨
        1 < o.enabled)) ∧
    (Taken onLine .line 7 (.slotSet 97 { slot0 with capacity := 27 }) (floor .opened) ∧
      27 < ((floor .opened).bin 97).committed + ((floor .opened).bin 97).reserved) ∧
    (Taken onLine .line 7 (.slotSet 97 { slot0 with zone := 5 }) (floor .opened) ∧
      (floor .opened).mode ≠ .configure ∧ 5 ≠ ((floor .opened).bin 97).zone ∧
      0 < ((floor .opened).bin 97).committed + ((floor .opened).bin 97).reserved) ∧
    (Taken onLine .line 7 (.slotSet 97 { slot0 with enabled := 1 }) (floor .opened) ∧
      1 = yesNoCode false ∧ 0 < ((floor .opened).bin 97).reserved) ∧
    (Taken onLine .line 7 (.slotSet 97 { slot0 with capacity := 28 }) (floor .opened) ∧
      slot0.lane = laneCode .second ∧ slot0.affinity = 255 ∧ slot0.enabled = yesNoCode true ∧
      ((floor .opened).bin 97).committed + ((floor .opened).bin 97).reserved ≤ 28 ∧
      slot0.zone = ((floor .opened).bin 97).zone ∧ Lane.second = ((floor .opened).bin 97).lane ∧
      none = ((floor .opened).bin 97).affinity) ∧
    (Taken onLine .line 7 (.slotSet 1023 { slot0 with affinity := 63, capacity := 255 })
        { floor .opened with mode := .configure, controller := .atReset }) := by
  refine ⟨taken_line (by decide), fun o ho => ⟨taken_line rfl, ?_⟩, ?_, ?_, ?_, ?_, taken_line (by decide)⟩
  · revert o
    decide
  · exact ⟨taken_line (by decide), by decide⟩
  · exact ⟨taken_line (by decide), by decide, by decide, by decide⟩
  · exact ⟨taken_line (by decide), by decide, by decide⟩
  · exact ⟨taken_line (by decide), by decide⟩

theorem witness_SlotAdjustReleaseAndRead :
    Taken onLine .line 7 (.slotAdjust 1024 0 255) (floor .opened) ∧
    Taken onLine .line 7 (.slotAdjust 1023 256 255) (floor .opened) ∧
    Taken onLine .line 7 (.slotAdjust 1023 0 64) (floor .opened) ∧
    Taken onLine .line 7 (.slotAdjust 1023 0 254) (floor .opened) ∧
    (Taken onLine .line 7 (.slotAdjust 97 255 63) (floor .opened) ∧
      ((floor .opened).bin 97).cls = some 12) ∧
    (Taken onLine .line 7 (.slotAdjust 98 1 255) (floor .opened) ∧
      ((floor .opened).bin 98).cls = none) ∧
    (Taken onLine .line 7 (.slotAdjust 98 255 12) (floor .opened) ∧
      Taken onLine .line 7 (.slotAdjust 98 0 255) (floor .opened) ∧
      Taken onLine .line 7 (.slotAdjust 97 30 255) (floor .opened)) ∧
    Taken onLine .line 7 (.slotRelease 1024 0) (floor .opened) ∧
    Taken onLine .line 7 (.slotRelease 1023 256) (floor .opened) ∧
    Taken onLine .line 7 (.slotRelease 97 255) (floor .opened) ∧
    Taken onLine .line 7 (.slotRead 1024) (floor .opened) ∧
    Taken onLine .line 7 (.slotRead 1023) (floor .opened) := by
  and_intros <;> first | exact taken_line (by decide) | decide

/-- The two predicates of the search are what their hypotheses say; the search of the worked case finds
bins 97, 98 and 160 (test_search). -/
theorem witness_AllocationSearch :
    ∃ inUse openable : Nat → Prop,
      (∀ d, inUse d ↔ ((floor .opened).bin d).enabled = true ∧ ((floor .opened).bin d).lane = .second ∧
        ((floor .opened).bin d).cls = some 12 ∧
        ((floor .opened).bin d).committed + ((floor .opened).bin d).reserved <
          ((floor .opened).bin d).capacity) ∧
      (∀ d, openable d ↔ ((floor .opened).bin d).enabled = true ∧
        ((floor .opened).bin d).lane = .second ∧ ((floor .opened).bin d).committed = 0 ∧
        ((floor .opened).bin d).reserved = 0 ∧ 1 ≤ ((floor .opened).bin d).capacity ∧
        (((floor .opened).bin d).affinity = some 12 ∨ ((floor .opened).bin d).affinity = none)) :=
  ⟨_, _, fun _ => Iff.rfl, fun _ => Iff.rfl⟩

/-! ### Witnesses: the Station Link -/

/-- Two SCAN stations, at 4 and 5, bound to the two contexts. -/
def scanners : State :=
  { State.reset with
    stations := [(4, { Station.atReset with config :=
                        { StationConfig.atReset with configured := true, kind := .scan } }),
                 (5, { Station.atReset with config :=
                        { StationConfig.atReset with configured := true, kind := .scan } })]
    scan0 := { ScanContext.atReset with binding := some 4 }
    scan1 := { ScanContext.atReset with binding := some 5 } }

theorem witness_StationSet :
    Taken onLine .line 7 (.stationSet 16 station0) State.reset ∧
    (Taken onLine .line 7 (.stationSet 15 station0) inRun ∧ inRun.mode ≠ .configure) ∧
    Taken onLine .line 7 (.stationSet 15 { station0 with configured := 2 }) State.reset ∧
    (Taken onLine .line 7 (.stationSet 15 { station0 with badLimit := 17 }) State.reset ∧
      readStationConfig { station0 with badLimit := 17 } = none) ∧
    (Taken onLine .line 7 (.stationSet 15 { station0 with kind := 2 }) scanners ∧
      (readStationConfig { station0 with kind := 2 }).map (·.kind) = some .scan ∧
      2 ≤ (List.range 16).countP fun i => decide (i ≠ 15 ∧ (scanners.station i).config.configured = true ∧
        (scanners.station i).config.kind = .scan)) ∧
    (Taken onLine .line 7 (.stationSet 5 { station0 with kind := 2 }) scanners ∧
      ((List.range 16).countP fun i => decide (i ≠ 5 ∧ (scanners.station i).config.configured = true ∧
        (scanners.station i).config.kind = .scan)) < 2) ∧
    (Taken onLine .line 7 (.stationSet 4 station0) scanners ∧
      (readStationConfig station0).map (·.kind) = some .weigh) ∧
    Taken onLine .line 7 (.stationSet 0 { station0 with configured := 1 }) scanners ∧
    (readStationConfig station0).isSome = true := by
  and_intros <;> first | exact taken_line (by decide) | decide

theorem witness_LinkSetAndScheduleWrite :
    (∀ r ∈ ([.linkSet 0 200 24, .linkSet 1001 200 24, .linkSet 100 0 24, .linkSet 100 200 0,
        .linkSet 100 200 32, .linkSet 1 100 1, .linkSet 1000 800 31,
        .scheduleWrite 0 { count := 1, elems := [(16, 0)] },
        .scheduleWrite 0 { count := 1, elems := [(0, 2)] },
        .scheduleWrite 255 { count := 2, elems := [(15, 1), (255, 255)] },
        .scheduleWrite 254 { count := 2, elems := [(15, 1), (255, 255)] },
        .scheduleWrite 0 { count := 0, elems := [] }, .scheduleWrite 0 { count := 65, elems := [] }] :
        List Request), Taken onLine .line 7 r inRun) ∧
    (∀ es ∈ ([{ count := 1, elems := [(16, 0)] }, { count := 2, elems := [(15, 1), (255, 255)] },
        { count := 0, elems := [] }, { count := 65, elems := [] }, { count := 255, elems := [] }] :
        List (ListOperand (Nat × Nat))), es.wf 1 64 (fun e => fits1 e.1 && fits1 e.2) = true) ∧
    ([(15, 1), (255, 255)] : List (Nat × Nat)).length = 2 ∧
    (∀ e ∈ ([(15, 1), (255, 255)] : List (Nat × Nat)), e = (255, 255) ∨ (e.1 ≤ 15 ∧ e.2 ≤ 1)) := by
  refine ⟨fun r hr => taken_line ?_, by decide, by decide, by decide⟩
  revert r
  decide

def start (base length mode rep : Nat) : ScheduleOperands :=
  { base := base, length := length, startMode := mode, rep := rep }

/-- The controller at rest outside CONFIGURE. -/
def resting : RoundController := { RoundController.atReset with roundTimer := some 100 }

/-- A line whose schedule area is empty. -/
def bare (c : RoundController) : State := { linked c with schedule := [] }

theorem bare_law (c : RoundController) (h : (linked c).ControllerLaw) : (bare c).ControllerLaw := h

theorem witness_ScheduleStartAndStage :
    (∀ o ∈ ([start 0 0 0 0, start 0 65 0 0, start 193 64 0 0, start 0 1 3 0, start 0 1 0 2] :
        List ScheduleOperands),
      Taken onLine .line 7 (.scheduleStart o) (linked resting) ∧
      Taken onLine .line 7 (.scheduleStage o) (linked resting) ∧
      (o.length = 0 ∨ 64 < o.length ∨ 256 < o.base + o.length ∨ 2 < o.startMode ∨ 1 < o.rep)) ∧
    (linked resting).ControllerLaw ∧ (bare resting).ControllerLaw ∧
    (linked (waiting none none schedule3)).ControllerLaw ∧
    (Taken onLine .line 7 (.scheduleStart (start 192 64 2 1)) (linked (waiting none none schedule3)) ∧
      (linked (waiting none none schedule3)).controller.state ≠ .idle ∧ 1 = yesNoCode false) ∧
    (Taken onLine .line 7 (.scheduleStart (start 192 64 1 0)) (linked resting) ∧
      (linked resting).controller.state = .idle) ∧
    (Taken onLine .line 7 (.scheduleStart (start 10 3 0 0)) (linked resting) ∧
      (linked resting).firstPoll 10 3 0 { station := 2, kind := .evidence }) ∧
    (Taken onLine .line 7 (.scheduleStart (start 10 3 0 0)) (bare resting) ∧
      ¬ ∃ i p, (bare resting).firstPoll 10 3 i p) ∧
    (Taken onLine .line 7 (.scheduleStage (start 10 3 2 1)) (linked resting) ∧
      (linked resting).controller.active = none ∧ 2 = startModeCode .empty) ∧
    (Taken onLine .line 7 (.scheduleStage (start 10 3 0 0))
        (linked (waiting (some ⟨10, 1, .now, true⟩) none schedule3)) ∧
      (waiting (some ⟨10, 1, .now, true⟩) none schedule3).staged.isSome = true) ∧
    (Taken onLine .line 7 (.scheduleStage (start 10 3 0 0)) (linked (waiting none none schedule3)) ∧
      (waiting none none schedule3).active.isSome = true) := by
  refine ⟨fun o ho => ⟨taken_line rfl, taken_line rfl, ?_⟩, idle_law, bare_law _ idle_law,
    waiting_law _ _ _, ⟨taken_line (by decide), by decide, by decide⟩,
    ⟨taken_line (by decide), by decide⟩,
    ⟨taken_line (by decide), first_of _ _ _ _ (by decide) (by decide) (by decide)⟩,
    ⟨taken_line (by decide), no_first _ rfl _ _⟩, ⟨taken_line (by decide), by decide, by decide⟩,
    ⟨taken_line (by decide), by decide⟩, ⟨taken_line (by decide), by decide⟩⟩
  revert o
  decide

theorem witness_ScheduleCancelAndSinglePoll :
    ((linked (polling .round .transmitting none)).ControllerLaw ∧
      Taken onLine .line 7 .scheduleCancel (linked (polling .round .transmitting none)) ∧
      (linked (polling .round .transmitting none)).controller.inFlight =
        some (flying .round .transmitting)) ∧
    ((linked (waiting none none schedule3)).ControllerLaw ∧
      Taken onLine .line 7 .scheduleCancel (linked (waiting none none schedule3)) ∧
      (linked (waiting none none schedule3)).controller.inFlight = none) ∧
    Taken onLine .line 7 (.singlePoll 16 0) (linked resting) ∧
    Taken onLine .line 7 (.singlePoll 15 2) (linked resting) ∧
    (Taken onLine .line 7 (.singlePoll 15 1) (linked resting) ∧
      ((linked resting).station 15).config.configured = false) ∧
    (Taken onLine .line 7 (.singlePoll 2 1)
        (linked (polling .round .transmitting (some { station := 3, kind := .status }))) ∧
      (linked (polling .round .transmitting (some { station := 3, kind := .status }))).ControllerLaw) ∧
    (Taken onLine .line 7 (.singlePoll 2 1) (linked (polling .round .transmitting none)) ∧
      (linked (polling .round .transmitting none)).controller.state = .awaitReply) ∧
    (Taken onLine .line 7 (.singlePoll 2 1) (linked resting) ∧ (linked resting).ControllerLaw ∧
      (linked resting).controller.state ≠ .awaitReply ∧
      ((linked resting).station 2).config.configured = true ∧
      1 = pollKindCode .status) := by
  and_intros <;> first
    | exact taken_line (by decide) | exact polling_law _ _ _ | exact waiting_law _ _ _
    | exact idle_law | decide

theorem witness_RoundTimerExpiry :
    (State.reset.ControllerLaw ∧ State.reset.mode = .configure ∧ State.reset.resetN = true) ∧
    ((linked resting).ControllerLaw ∧ (linked resting).mode ≠ .configure ∧
      (linked resting).controller.state = .idle) ∧
    ((linked (polling .roundWait .awaitingFirst none)).ControllerLaw ∧
      (linked (polling .roundWait .awaitingFirst none)).controller.inFlight =
        some (flying .roundWait .awaitingFirst)) ∧
    ((linked (waiting none (some .atTimer) schedule3)).ControllerLaw ∧
      (waiting none (some .atTimer) schedule3).pendingStart ≠ some .empty ∧
      (linked (waiting none (some .atTimer) schedule3)).firstPoll 10 3 0
        { station := 2, kind := .evidence }) ∧
    ((bare (waiting none none schedule3)).ControllerLaw ∧
      ¬ ∃ i p, (bare (waiting none none schedule3)).firstPoll 10 3 i p) ∧
    ((linked (waiting (some ⟨12, 1, .atTimer, true⟩) (some .empty) schedule3)).ControllerLaw ∧
      (waiting (some ⟨12, 1, .atTimer, true⟩) (some .empty) schedule3).pendingStart = some .empty) ∧
    ((linked (waiting (some ⟨12, 1, .now, true⟩) (some .empty) schedule3)).ControllerLaw ∧
      (linked (waiting (some ⟨12, 1, .now, true⟩) (some .empty) schedule3)).firstPoll 12 1 0
        { station := 3, kind := .evidence }) ∧
    ((bare (waiting (some ⟨12, 1, .now, true⟩) (some .empty) schedule3)).ControllerLaw ∧
      ¬ ∃ i p, (bare (waiting (some ⟨12, 1, .now, true⟩) (some .empty) schedule3)).firstPoll 12 1 i p)
      := by
  and_intros <;> first
    | exact reset_law | exact idle_law | exact polling_law _ _ _ | exact waiting_law _ _ _
    | exact bare_law _ (waiting_law _ _ _) | exact no_first _ rfl _ _
    | decide | exact fun _ _ hj => absurd hj (Nat.not_lt_zero _)

theorem witness_PollEvents :
    ((linked (polling .round .transmitting none)).resetN = true ∧
      (linked (polling .round .transmitting none)).controller.inFlight =
        some (flying .round .transmitting)) ∧
    ((flying .round .awaitingFirst).phase = .awaitingFirst ∧ 5 ≤ (5#8 : Byte).toNat ∧
      (45#8 : Byte).toNat ≤ 45 ∧ (4#8 : Byte).toNat < 5 ∧ 45 < (46#8 : Byte).toNat ∧
      (linked (polling .round .awaitingFirst none)).controller.inFlight =
        some (flying .round .awaitingFirst)) ∧
    (linked (polling .round (.receiving 8) none)).controller.inFlight =
      some (flying .round (.receiving 8)) ∧
    (linked resting).controller.inFlight = none ∧
    ((linked (polling .idle .awaitingFirst none)).ControllerLaw ∧
      (flying .idle .awaitingFirst).returnPoint ≠ .round ∧
      (flying .idle .awaitingFirst).returnPoint ≠ .roundWait ∧
      (linked (polling .idle .awaitingFirst none)).controller.slot = none) ∧
    ((linked (polling .roundWait .awaitingFirst none)).ControllerLaw ∧
      (linked (polling .roundWait .awaitingFirst none)).controller.expiryDue = false) ∧
    ((linked (polling .roundWait .awaitingFirst (some { station := 3, kind := .status }))).ControllerLaw ∧
      (linked (polling .roundWait .awaitingFirst (some { station := 3, kind := .status }))).controller.slot
        = some { station := 3, kind := .status }) ∧
    ((linked (polling .round .awaitingFirst none)).ControllerLaw ∧
      (linked (polling .round .awaitingFirst none)).controller.active = some schedule3 ∧
      (linked (polling .round .awaitingFirst none)).controller.walkPos = some 11 ∧
      (linked (polling .round .awaitingFirst none)).firstPoll 11 2 1
        { station := 3, kind := .evidence }) := by
  and_intros
  all_goals first
    | exact polling_law _ _ _ | decide | skip
  intro j q hj he
  obtain rfl : j = 0 := by omega
  obtain rfl : q = { station := 9, kind := .status } := by
    have : (linked (polling .round .awaitingFirst none)).scheduleEntry (11 + 0) =
      some { station := 9, kind := .status } := by decide
    exact (Option.some.inj (this.symm.trans he)).symm
  decide

/-- The polling controller with its round entered past the schedule's polls: nothing is left to send. -/
def lastOut (rep : Bool) (staged : Option StagedSchedule) (slot : Option Poll) : RoundController :=
  { polling .round .awaitingFirst slot with active := some { schedule3 with rep := rep }, staged := staged }

theorem lastOut_law (rep : Bool) (staged : Option StagedSchedule) (slot : Option Poll) :
    (bare (lastOut rep staged slot)).ControllerLaw := by
  simp [State.ControllerLaw, RoundController.ScheduleLaw, bare, linked, lastOut, polling, flying, inRun,
    RoundController.atReset]

/-- A round whose last entry is out: with a slotted poll, or without one and with nothing staged, with a
schedule staged AT_TIMER, and with one staged NOW that has no poll. A schedule staged NOW that has one. -/
theorem witness_PollEvents_rounds :
    (∀ (rep : Bool) (staged : Option StagedSchedule) (slot : Option Poll),
      (bare (lastOut rep staged slot)).ControllerLaw ∧
      (bare (lastOut rep staged slot)).controller.inFlight = some (flying .round .awaitingFirst) ∧
      (bare (lastOut rep staged slot)).controller.active = some { schedule3 with rep := rep } ∧
      (bare (lastOut rep staged slot)).controller.walkPos = some 11 ∧
      (bare (lastOut rep staged slot)).controller.staged = staged ∧
      (bare (lastOut rep staged slot)).controller.slot = slot ∧
      (¬ ∃ i p, (bare (lastOut rep staged slot)).firstPoll 11 2 i p) ∧
      (¬ ∃ i p, (bare (lastOut rep staged slot)).firstPoll 12 1 i p)) ∧
    (flying .round .awaitingFirst).single = false ∧
    (linked (waiting (some ⟨12, 1, .now, true⟩) none schedule3)).firstPoll 12 1 0
      { station := 3, kind := .evidence } :=
  ⟨fun _ _ _ => ⟨lastOut_law _ _ _, rfl, rfl, rfl, rfl, rfl, no_first _ rfl _ _, no_first _ rfl _ _⟩, rfl,
    first_of _ _ _ _ (by decide) (by decide) (by decide)⟩

/-- The slotted poll that follows the last entry is in flight, and another is slotted meanwhile, or none:
its outcome ends the round. -/
theorem witness_PollEvents_slotted (slot : Option Poll) (staged : Option StagedSchedule) :
    let f : InFlight := { flying .round .awaitingFirst with single := true }
    let c := { lastOut true staged slot with walkPos := some 13, inFlight := some f }
    (linked c).ControllerLaw ∧ (linked c).controller.inFlight = some f ∧ f.single = true ∧
      (linked c).controller.slot = slot ∧ (linked c).controller.staged = staged := by
  refine ⟨?_, rfl, rfl, rfl, rfl⟩
  simp [State.ControllerLaw, RoundController.ScheduleLaw, linked, lastOut, polling, flying, inRun,
    RoundController.atReset]

/-- A single poll sent from ROUND_WAIT is in flight and an expiry is due, with an AT_TIMER or an EMPTY start
pending; the schedule has a poll, or none. -/
theorem witness_PollEvents_due (start : PendingStart) :
    let c := { polling .roundWait .awaitingFirst none with expiryDue := true, pendingStart := some start }
    ((linked c).ControllerLaw ∧ (bare c).ControllerLaw ∧
      (linked c).controller.inFlight = some (flying .roundWait .awaitingFirst) ∧
      (linked c).controller.expiryDue = true ∧ (linked c).controller.active = some schedule3 ∧
      (linked c).controller.pendingStart = some start) ∧
    PendingStart.atTimer ≠ .empty ∧ (linked c).firstPoll 10 3 0 { station := 2, kind := .evidence } ∧
    ¬ ∃ i p, (bare c).firstPoll 10 3 i p := by
  refine ⟨⟨?_, ?_, rfl, rfl, rfl, rfl⟩, by decide,
    first_of _ _ _ _ (by decide) (by rfl) (by rfl), no_first _ rfl _ _⟩ <;>
  simp [State.ControllerLaw, RoundController.ScheduleLaw, bare, linked, polling, flying, inRun,
    RoundController.atReset]

/-- A WEIGH reply of one sample from station 2, a reply of type NOTHING and STATUS replies, whose CRCs
hold. -/
theorem witness_ReplyReceived :
    (linked (polling .round (.receiving 11) none)).resetN = true ∧
    (linked (polling .round (.receiving 11) none)).controller.inFlight =
      some (flying .round (.receiving 11)) ∧
    crcHolds [5, 2, 0x10, 0, 0] = false ∧
    (crcHolds (closeFrame [5, 2, 0x10]) = true ∧ (readReply (closeFrame [5, 2, 0x10])).address = 2 ∧
      (readReply (closeFrame [5, 2, 0x10])).body = .nothing ∧
      (readReply (closeFrame [5, 3, 0x10])).address ≠ 2) ∧
    (crcHolds (closeFrame [15, 2, 0x12, 1, 0xA1, 0, 0, 0, 12, 0, 0, 0, 0]) = true ∧
      (readReply (closeFrame [15, 2, 0x12, 1, 0xA1, 0, 0, 0, 12, 0, 0, 0, 0])).body =
        .evidence 417 (.tag 0 12 0 0) ∧
      ((linked resting).station 2).config.kind = .tag ∧
      ((linked resting).station 3).config.kind ≠ .tag ∧
      (readReply (closeFrame [15, 2, 0x12, 4, 0, 0, 0, 0, 12, 0, 0, 0, 0])).body =
        .evidence 1024 (.tag 0 12 0 0)) ∧
    ((readReply (closeFrame [8, 2, 0x20, 1, 2, 0])).body = .status 1 false true 0 ∧
      1 = kindCode .tag ∧ 0 ≠ kindCode .tag) ∧
    (readReply (closeFrame [5, 2, 0x99])).body = .unsound ∧
    (linked resting).fifo.length < 32 := by
  decide +kernel

theorem witness_fifo_full (f : StampedFrame) : 32 ≤ (List.replicate 32 f).length := by simp

/-! ### Witnesses: items -/

/-- Label 9 announced two units of class 12, one of them received; label 8 one unit, received. -/
def announced : State :=
  { floor .opened with
    manifests :=
      [(8, { cls := 12, nominal := 640, band := 3, hygiene := false, expected := 1, received := 1 }),
       (9, { cls := 12, nominal := 640, band := 3, hygiene := true, expected := 2, received := 1 })] }

theorem crowd_taken (n : Nat) : Taken onSorter .sorter 7 (.induct 1023 9) (crowd n) := taken_sorter rfl

/-- The last tray is 1023. Tray 417 is busy; all entries are taken; entry 0 is the lowest FREE one, and the
class of label 9 is valid with a required set, while the fallback class of no label is not valid. -/
theorem witness_Induct :
    ((carrying garment announced).ItemLaws ∧
      Taken onSorter .sorter 7 (.induct 1024 0) (carrying garment announced) ∧
      Taken onSorter .sorter 7 (.induct 417 9) (carrying garment announced) ∧
      (carrying garment announced).carries 417 0) ∧
    ((crowd 256).ItemLaws ∧ Taken onSorter .sorter 7 (.induct 1023 9) (crowd 256) ∧
      (¬ ∃ i, (crowd 256).carries 1023 i) ∧ ∀ i, i < 256 → ((crowd 256).item i).state ≠ .free) ∧
    ((carrying garment announced).ItemLaws ∧
      Taken onSorter .sorter 7 (.induct 1023 9) (carrying garment announced) ∧
      (¬ ∃ j, (carrying garment announced).carries 1023 j) ∧
      ((carrying garment announced).item 1).state = .free ∧
      (∀ j, j < 1 → ((carrying garment announced).item j).state ≠ .free) ∧
      ((carrying garment announced).manifest 9).isSome = true ∧
      (carrying garment announced).classValid 12 = true ∧
      ((carrying garment announced).classRecord 12).required ≠ 0 ∧
      (carrying garment announced).classValid (carrying garment announced).line.fallbackClass = false ∧
      (carrying garment announced).grader = .idle) := by
  refine ⟨⟨carrying_laws _ _ rfl (.inl rfl), taken_sorter (by decide), taken_sorter (by decide),
      carries_zero _ _ rfl⟩,
    ⟨crowd_laws 256 (le_refl _), crowd_taken 256, crowd_carries_none _ _, crowd_full⟩,
    ⟨carrying_laws _ _ rfl (.inl rfl), taken_sorter (by decide), carrying_other _ _ _ (by decide),
      by decide, ?_, by decide, by decide, by decide, by decide, by decide⟩⟩
  intro j hj
  obtain rfl : j = 0 := by omega
  decide

/-- Each state an item can be in, with its evidence complete or not, its laps below the maximum 3 or
reaching it, its divert tries spent or not, and its bin's zone OPEN or BLOCKED. -/
theorem witness_Destination :
    (∀ (it : Item) (z : ZoneState), it.active = true →
      (it.bin = none ∨ it.state = .decided ∨ it.state = .routed) → it.tray = 417 →
      (carrying it (floor z)).ItemLaws ∧ (carrying it (floor z)).carries 417 0 ∧
      (∀ t, t ≠ 417 → ¬ ∃ i, (carrying it (floor z)).carries t i) ∧
      (∀ t, Taken onSorter .sorter 7 (.destination t) (carrying it (floor z)))) ∧
    (∀ it ∈ ([garment, { garment with laps := 2 }, { garment with state := .queued },
        { garment with state := .grading }, decided, routed, { routed with attempts := 2 }] : List Item),
      it.active = true ∧ (it.bin = none ∨ it.state = .decided ∨ it.state = .routed) ∧ it.tray = 417) ∧
    garment.complete knitwear.required = false ∧
    { garment with scan := some { peaks := [], total := 0 } }.complete knitwear.required = true ∧
    (floor .opened).line.maxLaps = 3 ∧ (floor .opened).line.divertTries = 3 ∧
    decided.disposition ≠ some .review ∧
    ((floor .blocked).reservation decided = some 97 ∧
      ((floor .blocked).zone ((floor .blocked).bin 97).zone).state = .blocked) ∧
    ((floor .opened).zone ((floor .opened).bin 97).zone).state ≠ .blocked ∧
    (decided.disposition = some .restockSecond ∧
      ((floor .blocked).setBin 97 ((floor .blocked).bin 97).release).searchBin [3, 5] 12 .second =
        some 160 ∧
      ((floor .blocked).setBin 97 ((floor .blocked).bin 97).release).searchBin [3] 12 .second = none) := by
  refine ⟨fun it z ha hb ht => ⟨carrying_laws _ _ ha hb, ht ▸ carries_zero _ _ ha,
      fun t h => carrying_other _ _ _ (ht.symm ▸ h), fun t => taken_sorter rfl⟩, ?_, ?_⟩
  · decide
  · decide +kernel

theorem witness_DivertedAndDivertFailed :
    (∀ (it : Item), it = garment ∨ it = routed ∨ it = { routed with attempts := 2 } →
      (carrying it (floor .opened)).ItemLaws ∧ (carrying it (floor .opened)).carries 417 0) ∧
    (∀ r ∈ ([.diverted 1024 9, .diverted 1023 0, .diverted 1023 48, .diverted 1023 1, .diverted 417 9,
        .diverted 417 47, .divertFailed 1024 0, .divertFailed 1023 3, .divertFailed 1023 2,
        .divertFailed 417 0] : List Request),
      Taken onSorter .sorter 7 r (carrying routed (floor .opened))) ∧
    (¬ ∃ i, (carrying routed (floor .opened)).carries 1023 i) ∧
    garment.state ≠ .routed ∧ routed.chute = some 9 ∧
    (carrying routed (floor .opened)).reservation routed = some 97 ∧
    (carrying routed { floor .opened with mode := .shadow }).reservation routed = none ∧
    (floor .opened).line.divertTries ≤ min 7 (2 + 1) ∧ 1 ≤ ((floor .opened).bin 97).reserved ∧
    (floor .opened).urgent.length + (floor .opened).routine.length < 128 ∧
    128 ≤ (List.replicate 128 (Report.ofItem .run routed)).length + ([] : List Report).length := by
  refine ⟨?_, fun r hr => taken_sorter ?_, carrying_other _ _ _ (by decide), by decide, by decide,
    by decide, by decide, by decide, by decide, by decide, by simp⟩
  · rintro it (rfl | rfl | rfl)
    · exact ⟨carrying_laws _ _ rfl (.inl rfl), carries_zero _ _ rfl⟩
    · exact ⟨carrying_laws _ _ rfl (.inr (.inr rfl)), carries_zero _ _ rfl⟩
    · exact ⟨carrying_laws _ _ rfl (.inr (.inr rfl)), carries_zero _ _ rfl⟩
  · revert r
    decide

theorem witness_TrayClearedChuteClearAndItemQuery :
    ((carrying { garment with state := .queued } (floor .opened)).ItemLaws ∧
      (carrying { garment with state := .queued } (floor .opened)).carries 417 0 ∧
      (¬ ∃ i, (carrying { garment with state := .queued } (floor .opened)).carries 1023 i)) ∧
    (∀ r ∈ ([.trayCleared 1024, .trayCleared 1023, .trayCleared 417, .chuteClear 0, .chuteClear 48,
        .chuteClear 1, .chuteClear 47, .itemQuery 2 0, .itemQuery 0 1024, .itemQuery 0 1023,
        .itemQuery 0 417, .itemQuery 1 256, .itemQuery 1 255] : List Request),
      Taken onSorter .sorter 7 r (carrying { garment with state := .queued } (floor .opened))) ∧
    Taken onLine .line 7 (.itemQuery 1 255)
      (carrying { garment with state := .queued } (floor .opened)) := by
  refine ⟨⟨carrying_laws _ _ rfl (.inl rfl), carries_zero _ _ rfl, carrying_other _ _ _ (by decide)⟩,
    fun r hr => taken_sorter ?_, taken_line (by decide)⟩
  revert r
  decide

/-! ### Witnesses: evidence and grading -/

def tagFrame : StampedFrame := { station := 2, stamp := some 3012, tray := 417, body := .tag 4 63 0 0 }

/-- A TAG frame is at the head of the FIFO, station 2 being a TAG station. -/
def collecting (fifo : List StampedFrame) (c : Collector) (w : WaitingSet) : State :=
  { linked resting with fifo := fifo, collector := c, arbiter := { Arbiter.atReset with waiting := w } }

theorem witness_EvidenceFrameTaken :
    ((collecting [] .waiting .empty).resetN = true ∧ (collecting [] .waiting .empty).fifo = [] ∧
      (collecting [tagFrame] (.awaitStore []) .empty).collector ≠ .waiting) ∧
    ((collecting [tagFrame] .waiting .empty).collector = .waiting ∧
      (collecting [tagFrame] .waiting .empty).fifo = [tagFrame] ∧
      (takeFrame tagFrame (collecting [] .waiting .empty)).1 ≠ [] ∧
      (takeFrame { tagFrame with body := .wear 0 0 0 0 } (collecting [] .waiting .empty)).1 = [] ∧
      (collecting [tagFrame] .waiting .empty).arbiter.grantsAtOnce .ec .storeFree = true ∧
      (collecting [tagFrame] .waiting .empty).arbiter.grantsAtOnce .ec .duringAccess = false) ∧
    (∃ pieces, (collecting [] (.awaitStore pieces) ⟨false, false, true, false⟩).arbiter.choice =
        some .ec ∧
      (collecting [] (.awaitStore pieces) ⟨false, false, true, false⟩).collector = .awaitStore pieces) ∧
    (((collecting [] .waiting .empty).station 2).config.sel0 = none ∧
      ({ weigher with sel0 := some 0, sel1 := some 1, sel2 := some 3 } : StationConfig).sel2 =
        some (3 : Fin 4).val ∧ ([4, 63, 0, 0] : List Nat)[0]? = some 4 ∧
      ([TagState.intact, .detached, .absent, .unread])[3]? = some .unread) ∧
    ((carrying garment (floor .opened)).ItemLaws ∧ (carrying garment (floor .opened)).carries 417 0 ∧
      some 3012 = some ((carrying garment (floor .opened)).item 0).ticket ∧
      ((carrying garment (floor .opened)).item 0).state = .opened ∧
      (garment.withFinding knitwear (.profile [])).complete knitwear.required = true ∧
      (garment.withFinding knitwear (.weight 0)).complete knitwear.required = false ∧
      ∀ i, (carrying garment (floor .opened)).carries 417 i →
        (none : Option Nat) ≠ some ((carrying garment (floor .opened)).item i).ticket) := by
  refine ⟨⟨by decide, by decide, by decide⟩,
    ⟨by decide, by decide, by decide, by decide, by decide, by decide⟩, ⟨[], by decide, by decide⟩,
    ⟨by decide, by decide, by decide, by decide⟩,
    ⟨carrying_laws _ _ rfl (.inl rfl), carries_zero _ _ rfl, rfl, rfl, by decide, by decide, ?_⟩⟩
  intro i _ h
  cases h

/-- A segment of 16 samples. -/
def segment (pass start : Nat) (length : Option Nat) : Segment :=
  { pass := pass, start := start, count := 16, length := length, samples := List.replicate 16 5 }

/-- A context in the second of two passes of 32 positions, with 16 of them placed. -/
def midPass : ScanContext :=
  { binding := some 4, state := .inPass, tray := some 417, stamp := some 3012, length := some 32
    passesDone := 1, pass := List.replicate 16 5, sums := List.replicate 32 5 }

/-- A frame from an unbound station; from the station bound to the first context and from that bound to the
second; for the garment in hand and for another. -/
theorem witness_EvidenceFrameTaken_scan :
    (scanners.scan0.binding ≠ some 2 ∧ scanners.scan1.binding ≠ some 2) ∧
    scanners.scan0.binding = some 4 ∧
    (scanners.scan0.binding ≠ some 5 ∧ scanners.scan1.binding = some 5) ∧
    (midPass.state ≠ .empty ∧ midPass.tray ≠ some 418 ∧ midPass.tray = some 417 ∧
      midPass.stamp ≠ none ∧ midPass.stamp = some 3012 ∧ scanners.scan0.state = .empty) := by
  decide

/-- Each clause of the statement on a segment: ignored, refused, restarted, dropped; and begun, continued,
completed as the second pass of four, and completed as the last of two. -/
theorem witness_EvidenceFrameTaken_segment :
    let waitingPass := { midPass with state := ScanState.awaitPass, pass := [] }
    let fresh := { waitingPass with passesDone := 0, length := none, sums := [] }
    ((∀ g : Segment, ∃ bad : Prop, (bad ↔ g.count = 0 ∨ 32 < g.count ∨
      (g.start = 0 ∧ ∀ l, g.length = some l → l < 16 ∨ 512 < l)))) ∧
    (waitingPass.state ≠ .inPass ∧ (segment 1 16 none).start ≠ 0) ∧
    (fresh.state ≠ .inPass ∧ (segment 1 0 (some 16)).start = 0 ∧
      (segment 1 0 (some 16)).pass ≠ fresh.passesDone) ∧
    (midPass.state = .inPass ∧ (segment 1 0 (some 32)).start = 0) ∧
    (midPass.state = .inPass ∧ (segment 1 17 none).start ≠ 0 ∧
      (segment 1 17 none).start ≠ midPass.pass.length) ∧
    ((segment 0 0 (some 32)).pass = fresh.passesDone ∧ (segment 0 0 (some 16)).pass = fresh.passesDone ∧
      (segment 1 0 (some 32)).pass = waitingPass.passesDone ∧
      (segment 1 0 (some 32)).length = waitingPass.length ∧
      (segment 1 0 (some 32)).count ≤ 32 ∧ (segment 0 0 (some 16)).count ≤ 16) ∧
    ((segment 1 16 none).pass = midPass.passesDone ∧ (segment 1 16 none).start = midPass.pass.length ∧
      (segment 1 16 none).start + (segment 1 16 none).count ≤ 32 ∧ midPass.length = some 32 ∧
      (midPass.pass ++ (segment 1 16 none).samples).length = 32 ∧ midPass.passesDone + 1 < 4 ∧
      2 ≤ midPass.passesDone + 1) := by
  refine ⟨fun _ => ⟨_, Iff.rfl⟩, ?_⟩
  decide

/-- A station with no settle context, with one for the same garment and with one for another: settled or
seeking. -/
theorem witness_SettleFilter_frames (c : SettleContext) (isEnd : Bool) (samples : List Sample) :
    let s := { linked resting with settle := [(3, c)] }
    let f : StampedFrame :=
      { station := 3, stamp := c.stamp, tray := c.tray, body := .weigh isEnd samples }
    (f.body = .weigh isEnd samples ∧ s.settleContext f.station = some c ∧ c.tray = f.tray ∧
      c.stamp = f.stamp) ∧
    s.settleContext 2 = none ∧
    (s.settleContext { f with tray := f.tray + 1 }.station = some c ∧
      c.tray ≠ { f with tray := f.tray + 1 }.tray) :=
  ⟨⟨rfl, rfl, rfl, rfl⟩, rfl, rfl, by simp⟩

/-- A sample at the edge of the band (5) and one past it, of a context that seeks, with an empty run or
one of count 5, and of one that is settled, with out-counts 0 and 1. -/
theorem witness_SettleFilter :
    (dry 667).value.toNat = 667 ∧ weigher.holdOnMotion = true ∧ weigher.holdOnOverload = false ∧
    (SettleContext.openFor 417 none).phase = .seeking ∧
    (SettleContext.openFor 417 none).reference = none ∧
    (weighed.phase = .settled ∧ weighed.settledWeight = some 662 ∧ weighed.outCount = 0 ∧
      weigher.unsettleCount = 2 ∧ (667 - 662 : Int).natAbs ≤ weigher.band ∧
      weigher.band < (668 - 662 : Int).natAbs) ∧
    ((weighed.sample weigher (dry 670)).outCount = 1 ∧
      weigher.unsettleCount ≤ (weighed.sample weigher (dry 670)).outCount + 1) := by decide

def grading (g : Grader) (w : WaitingSet) (strategy : Strategy) : State :=
  { carrying { garment with state := .queued } (floor .opened) with
    grader := g, arbiter := { Arbiter.atReset with waiting := w, strategy := strategy } }

theorem witness_Grading :
    (∀ k, k = .sorterFirst ∨ k = .chained →
      (grading .fetchWait ⟨false, false, false, true⟩ k).resetN = true ∧
      (grading .fetchWait ⟨false, false, false, true⟩ k).arbiter.holder = none ∧
      (grading .fetchWait ⟨false, false, false, true⟩ k).arbiter.choice = some .gc ∧
      (grading .fetchWait ⟨false, false, false, true⟩ k).grader = .fetchWait ∧
      (grading .fetchWait ⟨false, false, false, true⟩ k).gradeQueue = [0]) ∧
    { grading .fetchWait ⟨false, false, false, true⟩ .rotate with gradeQueue := [] }.gradeQueue = [] ∧
    ((grading (.computing sweater) .empty .rotate).grader = .computing sweater ∧
      (grading (.computing sweater) .empty .rotate).arbiter.chain = false ∧
      (grading (.computing sweater) .empty .rotate).arbiter.grantsAtOnce .gc .duringAccess = false ∧
      (grading (.computing sweater) .empty .rotate).arbiter.grantsAtOnce .gc .storeFree = true) ∧
    ((chained .idle).grader = .computing sweater ∧ (chained .idle).arbiter.chain = true ∧
      ∀ tag r, (chained .idle).linePort.phase = .executing tag r → r ≠ .fullReset ∧ r ≠ .lineRestart) ∧
    (∀ c, inRun.grader ≠ .computing c) ∧
    ((grading (.writeWait sweater none) ⟨false, false, false, true⟩ .rotate).arbiter.choice = some .gc ∧
      (grading (.writeWait sweater none) ⟨false, false, false, true⟩ .rotate).grader =
        .writeWait sweater none) ∧
    (((floor .opened).item 5).state ≠ .grading ∧
      ((carrying { garment with state := .grading } (floor .opened)).item 0).state = .grading ∧
      ((carrying { garment with state := .grading } (floor .opened)).item 0).ticket = sweater.ticket ∧
      decideDisposition sweater (computeResult sweater) = (.restockSecond, .none) ∧
      (floor .opened).searchBin sweater.record.prefs sweater.cls .second = some 97 ∧
      decideDisposition sweater none = (.review, .noClass) ∧
      (floor .opened).line.chuteFor .review ≠ 0 ∧ (floor .opened).line.chuteFor .outlet = 0 ∧
      (floor .blocked).searchBin [3] sweater.cls .second = none) := by
  refine ⟨?_, by decide, by decide, ⟨by decide, by decide, ?_⟩, ?_, by decide, ?_⟩
  · rintro k (rfl | rfl) <;> decide
  · intro tag r h
    cases h
  · intro c h
    cases h
  · decide +kernel

/-- The three tests of the override list that `Grading` names by hypotheses, on the sweater. -/
theorem witness_Grading_overrides :
    ((false = true) ↔ ∃ t k, sweater.tag = some t ∧ t.sku = some k ∧ k ≠ sweater.cls) ∧
    ((false = true) ↔ ∃ w n, sweater.weight = some w ∧ sweater.nominal = some n ∧
      sweater.record.grossFactor * allowance sweater.record n < ((w : Int) - (n : Int)).natAbs) ∧
    ((false = true) ↔ sweater.hygiene = true ∧ ∀ t, sweater.tag = some t → t.tag ≠ .intact) := by
  refine ⟨⟨nofun, ?_⟩, ⟨nofun, ?_⟩, ⟨nofun, ?_⟩⟩
  · rintro ⟨t, k, h1, h2, h3⟩
    cases h1
    cases h2
    exact absurd rfl h3
  · rintro ⟨w, n, h1, h2, h3⟩
    cases h1
    cases h2
    exact absurd h3 (by decide)
  · rintro ⟨h, -⟩
    cases h

theorem witness_ScoreAndGrade :
    sweater.valid = true ∧ { sweater with valid := false }.valid = false ∧
    knitwear.limA ≤ knitwear.limB ∧ knitwear.limB ≤ knitwear.limC ∧
    { knitwear with limC := 1000 }.limC = 1000 ∧ { knitwear with limB := 120 }.limA = 120 ∧
    (carrying { garment with state := .grading } (floor .opened)).stillGrading
      { sweater with index := 0 } = true ∧
    (∀ i, i < 4 → sweater.record.required.getLsbD i = true ∧
      (belt none).record.required.getLsbD i = decide (i < 2)) ∧
    sweater.nominal = some 640 ∧ sweater.weight = some 662 ∧ (belt none).weight = none := by decide

/-- The qualifying positions and the runs of a profile are what their hypotheses say; test_extraction and
test_strongest_kept have two profiles with their peaks. -/
theorem witness_ScoreAndGrade_runs (k : ClassRecord) (profile : List Int) :
    ∃ (qualifying : Nat → Prop) (run : Nat × Nat → Prop),
      (∀ i, qualifying i ↔ k.skip ≤ i ∧ ∃ x, profile[i]? = some x ∧ k.threshold ≤ x.natAbs) ∧
      (∀ x, run x ↔ x.1 ≤ x.2 ∧
        (∀ i, x.1 ≤ i → i ≤ x.2 →
          qualifying i ∧ (profile.getD i 0 < 0 ↔ profile.getD x.1 0 < 0)) ∧
        (∀ i, i + 1 = x.1 → ¬ (qualifying i ∧ (profile.getD i 0 < 0 ↔ profile.getD x.1 0 < 0))) ∧
        ¬ (qualifying (x.2 + 1) ∧ (profile.getD (x.2 + 1) 0 < 0 ↔ profile.getD x.1 0 < 0))) :=
  ⟨_, _, fun _ => Iff.rfl, fun _ => Iff.rfl⟩

/-- Two passes of two positions, at the ends of the range. -/
theorem witness_Averaging :
    (1 + 1 = 2 ∧ ([-127, 127] : List Int).length = 2 ∧
      (∀ x ∈ ([-127, 127] : List Int), -127 ≤ x ∧ x ≤ 127)) ∧
    { ScanContext.atReset with passesDone := 1, pass := [-127, 127], sums := [-127, 127] }.sums.length
      = 2 := by decide

/-! ### Witnesses: the laws -/

/-- A line in RUN with a routed item, which holds the one reservation of bin 97. -/
def lawful : State :=
  carrying routed { floor .opened with
    bins := [(97, secondBin 3 30 25 1 none (some 12))], pending := [.destination onSorter 417] }

theorem lawful_bin (b : Nat) : lawful.bin b =
    if b = 97 then secondBin 3 30 25 1 none (some 12) else Bin.atReset := by
  by_cases h : b = 97
  · subst h
    rfl
  · have : lawful.bin b = (if 97 = b then some _ else none : Option Bin).getD Bin.atReset := rfl
    rw [this, if_neg (Ne.symm h), if_neg h]
    rfl

theorem lawful_holders (b : Nat) : lawful.holders b = if b = 97 then 1 else 0 := by
  have hr : lawful.reservation routed = some 97 := rfl
  have he : lawful.reservation Item.empty = none := rfl
  have hi : ∀ i, lawful.item (i + 1) = Item.empty := fun i => carrying_item _ _ _
  have h0 : lawful.item 0 = routed := carrying_item _ _ _
  have hz : ∀ l : List Nat, (l.countP fun i => lawful.reservation (lawful.item (i + 1)) == some b) = 0 := by
    intro l
    rw [List.countP_eq_zero]
    intro i _
    rw [hi, he]
    simp
  unfold State.holders Config.itemEntries
  rw [List.range_succ_eq_map, List.countP_cons, List.countP_map, h0, hr]
  rw [show ((fun i => lawful.reservation (lawful.item i) == some b) ∘ Nat.succ) =
    fun i => lawful.reservation (lawful.item (i + 1)) == some b from rfl, hz]
  by_cases h : b = 97
  · subst h
    rfl
  · have : (some 97 == some b) = false := by simpa using Ne.symm h
    rw [this, if_neg h]
    rfl

/-- The laws hold of a state other than reset, and it has a step. -/
theorem witness_CountsAndTablesKept :
    (lawful.PoolLaw ∧ lawful.LimitLaw ∧ lawful.TablesCanonical) ∧ ∃ t, step lawful = .next t := by
  refine ⟨⟨⟨by decide, fun h => absurd rfl h⟩, ⟨by decide, ?_, by decide, by decide⟩, ?_⟩, ⟨_, rfl⟩⟩
  · decide
  · unfold State.TablesCanonical
    decide

theorem witness_ItemLawsKept : lawful.ItemLaws ∧ ∃ t, step lawful = .next t :=
  ⟨carrying_laws _ _ rfl (.inr (.inr rfl)), _, rfl⟩

theorem witness_BinLawsKept :
    lawful.BinLaw ∧ lawful.ItemLaws ∧ lawful.ReservationLaw ∧ ∃ t, step lawful = .next t := by
  refine ⟨fun b => ?_, carrying_laws _ _ rfl (.inr (.inr rfl)), fun b _ => ?_, _, rfl⟩
  · rw [lawful_bin]
    split <;> decide
  · rw [lawful_bin, lawful_holders]
    split <;> rfl

theorem witness_ControllerLawKept :
    (linked (polling .round .awaitingFirst none)).ControllerLaw ∧
      ∃ t, step (linked (polling .round .awaitingFirst none)) = .next t := ⟨polling_law _ _ _, _, rfl⟩

/-- A line whose Grade Computer holds the store in a chain. -/
theorem witness_ClientLawKept :
    (chained .idle).ClientLaw ∧ ∃ t, step (chained .idle) = .next t := by
  refine ⟨?_, _, rfl⟩
  simp [State.ClientLaw, chained, inRun, State.reset, Grader.waits, Collector.waits,
    PortEngine.executing, WaitingSet.empty, Arbiter.atReset, PortEngine.atReset]

/-! ### Single steps -/

/-- Induction of label 9 (R6, R7): entry 0, ticket 1, and the second of its two units is received. -/
theorem test_induct : ∃ t, exec (.induct onSorter 417 9) announced = .next t ∧
    t.sorterPort.phase = .responseReady { code := .ok, request := 1, tag := 7, held := false,
                                          results := .inducted 0 1 } ∧
    (t.manifest 9).map (·.received) = some 2 ∧ (t.item 0).hygiene = true ∧
    (t.item 0).state = .opened ∧ t.arbiter.pointer = .spe := ⟨_, rfl, by decide +kernel⟩

/-- The worked case "one zone under pressure": DESTINATION on C, whose bin 98 lies in the BLOCKED zone,
moves its reservation to bin 160 and answers ROUTE (14); bin 98 loses its class. -/
theorem test_reallocation : ∃ t, exec (.destination onSorter 417)
      (carrying { decided with bin := some 98 }
        { pressed (secondBin 3 30 26 4 none (some 12)) (secondBin 3 40 0 1 none (some 12)) .blocked with
          classes := [(12, knitwear)] }) = .next t ∧
    t.sorterPort.phase = .responseReady { code := .ok, request := 2, tag := 7, held := false,
                                          results := .destination .route 14 } ∧
    t.bin 98 = secondBin 3 40 0 0 none none ∧ t.bin 160 = secondBin 5 40 0 1 none (some 12) ∧
    (t.item 0).bin = some 160 ∧ (t.item 0).state = .routed := ⟨_, rfl, by decide +kernel⟩

/-- The same case: DIVERT FAILED with CHUTE_FULL blocks zone 3 and leaves the item DECIDED. -/
theorem test_divert_failed : ∃ t, exec (.divertFailed onSorter 417 0)
      (carrying routed (floor .opened)) = .next t ∧
    t.zone 3 = { chute := 9, state := .blocked } ∧ t.zone 5 = { chute := 14, state := .opened } ∧
    (t.item 0).state = .decided ∧ (t.item 0).attempts = 1 := ⟨_, rfl, by decide +kernel⟩

/-- The worked case of the scan, on its first 16 positions: the pass that completes the scan brings the
averaged profile, −128 taken as −127. -/
theorem test_second_pass :
    (({ ScanContext.atReset with
        state := .awaitPass, passesDone := 1, length := some 16
        sums := [31, 6, 2, -9, -22, -45, -38, -16, 20, 3, 0, -4, 5, 18, 25, 26] } : ScanContext).take 2
      { pass := 1, start := 0, count := 16, length := some 16
        samples := [-128, 6, 2, -9, -23, -46, -38, -13, 21, 3, 0, -4, 5, 19, 23, 27] }).profile =
      some [-48, 6, 2, -9, -23, -46, -38, -15, 21, 3, 0, -4, 5, 19, 24, 27] := by decide

/-- R172: a FULL RESET after two bytes of a read of six: 00 for the rest, nothing delivered, and the next
read finds NOT_READY. -/
theorem test_read_cut : ∃ t, exec (.readResponse .sorter { count := 6, cut := some 2 }) readCut = .next t ∧
    t.sorterPort.miso = [0, 9, 0, 0, 0, 0] ∧ t.sorterPort.phase = .idle ∧
    t.sorterPort.discarded = none := ⟨_, rfl, by decide +kernel⟩

/-- R196: C1 and then a frame is a request; C2 a read; another kind byte is ignored. -/
theorem test_kind_bytes :
    readTransaction [0xC1, 0, 6] = .writeRequest [0, 6] ∧
    readTransaction [0xC2, 0, 0, 0] = .readResponse 3 ∧ readTransaction [0xC3, 0, 6] = .ignored ∧
    readTransaction [] = .ignored := by decide

end Sys2Proof.Tests
end

section
/-! PROOFS. A request of the Line Port that takes an access and changes nothing (R151, R152, R165). -/

namespace Sys2Proof.Machine

/-! ### Reading the Class Table (R35) -/

/-- Reading the Class Table where an update leaves it alone. -/
theorem State.classValid_congr {s t : State} (h : t.classes = s.classes) (k : Nat) :
    t.classValid k = s.classValid k := by simp [State.classValid, h]

theorem State.classRecord_congr {s t : State} (h : t.classes = s.classes) (k : Nat) :
    t.classRecord k = s.classRecord k := by simp [State.classRecord, h]

/-- An invalid record reads with its cleared values (R35). -/
theorem State.classRecord_of_not_classValid {s : State} {k : Nat} (h : s.classValid k = false) :
    s.classRecord k = ClassRecord.cleared := by
  have hnone : tfind s.classes k = none := by simpa [State.classValid] using h
  simp [State.classRecord, tget, hnone]

@[simp] theorem State.atMoment_classes (s : State) (r : Request) (m : Moment) :
    (s.atMoment r m).classes = s.classes := by
  unfold State.atMoment; split <;> rfl

/-- Taking a request leaves the Class Table its work finds as it was. -/
@[simp] theorem State.atWork_classes (s : State) (h : Header) (tag : Nat) (r : Request) :
    (s.atWork h tag r).classes = s.classes := by
  unfold State.atWork; split <;> simp

/-! ### What the grant and the end of a Line Port transaction do together -/

/-- The end of a Line Port transaction closes the raises that the grant before it had closed. -/
theorem State.respond_line_markGranted_written (s : State) (c : Client) (tag rq : Nat) (a : Answer) :
    ((s.markGranted c).respond .line tag rq a).written .line =
      ((s.granted c).respond .line tag rq a).written .line :=
  State.closeRaises_closeRaises (((s.granted c).respond .line tag rq a).setPort .line
    { ((s.granted c).respond .line tag rq a).port .line with miso := [] })

/-- The engine's EXECUTING stands apart from the arbiter's grant. -/
theorem State.granted_executing (s : State) (c : Client) (p : Port) (tag : Nat) (r : Request) :
    (s.executing p tag r).granted c = (s.granted c).executing p tag r := by cases p <;> rfl

/-- Answering from the state of the work of an access on the Line Port is answering the request. -/
theorem State.atWork_respond_line {h : Header} {r : Request} (s : State) (tag : Nat) (a : Answer)
    (hp : h.port = .line) (hacc : takesAccess r = true) :
    ((s.atWork h tag r).respond .line tag (requestCode r) a).written .line =
      s.answered .line tag r a := by
  simp only [State.atWork, State.answered, hacc, hp, if_true]
  rw [State.respond_line_markGranted_written, State.granted_executing, State.respond_executing]

/-- A Line Port request whose access leaves the state it finds does nothing but answer. -/
theorem exec_of_work_keeps {c : Instr} {h : Header} {tag : Nat} {r : Request} {s : State}
    {a : Answer} (hc : c.request? = some (h, r)) (ht : Taken h .line tag r s)
    (hacc : takesAccess r = true)
    (hw : workOf .line r (s.atWork h tag r) = (a, s.atWork h tag r)) :
    exec c s = .next (s.answered .line tag r a) := by
  rw [exec_request hc, request_taken ht, hw, State.atWork_respond_line s tag a ht.1 hacc]

/-! ### CLASS READ -/

theorem workClassRead_range {k : Nat} (hk : 63 < k) (s : State) :
    workClassRead k s = ({ code := .range }, s) := if_pos hk

theorem workClassRead_ok {k : Nat} (hk : k ≤ 63) (s : State) :
    workClassRead k s =
      ({ code := .ok, results := .classRecord (s.classValid k) (s.classRecord k) }, s) :=
  if_neg (Nat.not_lt.mpr hk)

/-- No mode refuses CLASS READ (R40, R169). -/
theorem refusedInMode_classRead (m : Mode) (k : Nat) : refusedInMode m (.classRead k) = false :=
  Bool.and_false _

/-- Settles O33: its access leaves the state as it finds it, with the Class Table the request
met, and no mode refuses it. -/
theorem classRead : Obligations.ClassRead := by
  intro h tag k s ht
  refine ⟨fun hk => ?range, fun hk => ?ok, State.classRecord_of_not_classValid,
    fun m => refusedInMode_classRead m k⟩
  case range => exact exec_of_work_keeps rfl ht rfl (workClassRead_range hk _)
  case ok =>
    have hclasses := s.atWork_classes h tag (.classRead k)
    have hw := workClassRead_ok hk (s.atWork h tag (.classRead k))
    rw [State.classValid_congr hclasses, State.classRecord_congr hclasses] at hw
    exact exec_of_work_keeps rfl ht rfl hw

end Sys2Proof.Machine
end

section
/-! PROOFS. The average of a completed scan (R96, R97). -/

namespace Sys2Proof.Machine

/-! ### One averaged value -/

theorem averageOf_natCast (p n : Nat) : averageOf p n = ((2 * n + p) / (2 * p) : Nat) := by
  rw [averageOf, if_neg (Int.not_lt.mpr (Int.natCast_nonneg n)), Int.natAbs_natCast]

theorem averageOf_zero (p : Nat) : averageOf p 0 = 0 := by
  have hhalf : p / (2 * p) = 0 := by
    rw [Nat.div_eq_zero_iff]
    omega
  simpa [hhalf] using averageOf_natCast p 0

/-- Rounding treats the two signs alike. -/
theorem averageOf_neg (p : Nat) (sum : Int) : averageOf p (-sum) = -averageOf p sum := by
  rcases lt_trichotomy sum 0 with hneg | rfl | hpos
  · simp [averageOf, hneg, hneg.le]
  · simp [averageOf_zero]
  · simp [averageOf, hpos, hpos.le]

/-- `value` is `sum / p` rounded to the nearest whole number, halves away from zero (R97). -/
def RoundsTo (p : Nat) (sum value : Int) : Prop :=
  2 * (p * value - sum).natAbs ≤ p ∧
    (2 * (p * value - sum).natAbs = p → sum.natAbs < (p * value).natAbs)

theorem RoundsTo.neg {p : Nat} {sum value : Int} (h : RoundsTo p sum value) :
    RoundsTo p (-sum) (-value) := by
  have hdist : (-(p * value) - -sum).natAbs = (p * value - sum).natAbs := by omega
  simpa only [RoundsTo, mul_neg, hdist, Int.natAbs_neg] using h

/-- The quotient of a sum that is not negative lies within half of `p` of it, on the upper side at a
half. -/
theorem averageOf_natCast_roundsTo {p : Nat} (hp : 0 < p) (n : Nat) :
    RoundsTo p n (averageOf p n) := by
  rw [averageOf_natCast]
  generalize hq : (2 * n + p) / (2 * p) = q
  obtain ⟨hlow, hhigh⟩ := (Nat.div_eq_iff (by omega)).mp hq
  have hdouble : q * (2 * p) = 2 * (p * q) := by ring
  rw [RoundsTo, ← Nat.cast_mul]
  omega

theorem averageOf_roundsTo {p : Nat} (hp : 0 < p) (sum : Int) :
    RoundsTo p sum (averageOf p sum) := by
  obtain ⟨n, rfl | rfl⟩ := sum.eq_nat_or_neg
  · exact averageOf_natCast_roundsTo hp n
  · rw [averageOf_neg]
    exact (averageOf_natCast_roundsTo hp n).neg

/-- A value rounded from a sum of at most `b` times `p` is at most `b`: one more would be a whole `p`
away. -/
theorem RoundsTo.natAbs_le {p b : Nat} {sum value : Int} (hp : 0 < p) (h : RoundsTo p sum value)
    (hsum : sum.natAbs ≤ b * p) : value.natAbs ≤ b := by
  by_contra hlt
  have hfar : b * p + p ≤ (p * value).natAbs := by
    rw [Int.natAbs_mul, Int.natAbs_natCast, ← Nat.succ_mul, mul_comm]
    exact Nat.mul_le_mul_left p (by omega)
  have hnear := h.1
  omega

/-! ### The averaged profile -/

theorem getD_map_averageOf (p : Nat) (sums : List Int) (i : Nat) :
    (sums.map (averageOf p)).getD i 0 = averageOf p (sums.getD i 0) := by
  simpa only [averageOf_zero] using List.getD_map (l := sums) (d := 0) (n := i) (averageOf p)

/-- The sum buffer with the complete pass added (R95). -/
def ScanContext.summed (c : ScanContext) : List Int :=
  if c.passesDone = 0 then c.pass else List.zipWith (· + ·) c.sums c.pass

/-- The last pass completes the scan (R96). -/
theorem ScanContext.completePass_profile_of_last (c : ScanContext) :
    (c.completePass (c.passesDone + 1)).profile =
      some (c.summed.map (averageOf (c.passesDone + 1))) := by
  simp [ScanContext.completePass, ScanContext.summed]

theorem ScanContext.summed_length {c : ScanContext}
    (hsums : 1 ≤ c.passesDone → c.sums.length = c.pass.length) :
    c.summed.length = c.pass.length := by
  by_cases hfirst : c.passesDone = 0
  · simp [ScanContext.summed, hfirst]
  · simp [ScanContext.summed, hfirst, hsums (Nat.one_le_iff_ne_zero.mpr hfirst)]

/-- A position of the sums: the sample of the pass, on top of the earlier sum where there is one. -/
theorem ScanContext.summed_getD {c : ScanContext}
    (hsums : 1 ≤ c.passesDone → c.sums.length = c.pass.length) {i : Nat} (hi : i < c.pass.length) :
    c.summed.getD i 0 =
      c.pass.getD i 0 + (if c.passesDone = 0 then 0 else c.sums.getD i 0) := by
  by_cases hfirst : c.passesDone = 0
  · simp [ScanContext.summed, hfirst]
  · have hi' : i < c.sums.length := by rwa [hsums (Nat.one_le_iff_ne_zero.mpr hfirst)]
    simp [ScanContext.summed, hfirst, hi, hi', Int.add_comm c.sums[i]]

/-- With samples within ±127 and earlier sums within ±127 for each pass done, a sum is within ±127 for
each pass (R97). -/
theorem ScanContext.summed_getD_natAbs_le {c : ScanContext}
    (hpass : ∀ x ∈ c.pass, -127 ≤ x ∧ x ≤ 127)
    (hsums : 1 ≤ c.passesDone → c.sums.length = c.pass.length ∧
      ∀ x ∈ c.sums, -127 * (c.passesDone : Int) ≤ x ∧ x ≤ 127 * (c.passesDone : Int))
    {i : Nat} (hi : i < c.pass.length) :
    (c.summed.getD i 0).natAbs ≤ 127 * (c.passesDone + 1) := by
  rw [ScanContext.summed_getD (fun h => (hsums h).1) hi, List.getD_eq_getElem _ _ hi]
  have hsample := hpass _ (List.getElem_mem hi)
  by_cases hfirst : c.passesDone = 0
  · rw [if_pos hfirst]
    omega
  · obtain ⟨hlen, hrange⟩ := hsums (Nat.one_le_iff_ne_zero.mpr hfirst)
    have hi' : i < c.sums.length := hlen ▸ hi
    have hsum := hrange _ (List.getElem_mem hi')
    rw [if_neg hfirst, List.getD_eq_getElem _ _ hi']
    omega

/-- Settles O54: the profile is the summed buffer averaged position by position, and each
average is its sum rounded. -/
theorem averaging : Obligations.Averaging := by
  rintro c _ _ rfl rfl hpass hsums
  have hlen := fun h => (hsums h).1
  have hp : 0 < c.passesDone + 1 := Nat.succ_pos _
  refine ⟨_, c.completePass_profile_of_last, by rw [List.length_map, ScanContext.summed_length hlen],
    fun i hi => ⟨_, _, ScanContext.summed_getD hlen hi, (getD_map_averageOf _ _ i).symm, ?_⟩⟩
  have hround := averageOf_roundsTo hp (c.summed.getD i 0)
  have hsum := ScanContext.summed_getD_natAbs_le hpass hsums hi
  have hvalue := hround.natAbs_le hp hsum
  exact ⟨by omega, by omega, by omega, by omega, hround⟩

end Sys2Proof.Machine
end

section
/-! PROOFS. What each operation of the part leaves alone, said once, and the induction over a step that the
laws go through. -/

namespace Sys2Proof.Machine

/-! ### Operations that touch none of the tables -/

/-- `t` is `s` but for the ports, the arbiter, the clients' own states, the stickies, the lamps, the counters
and the model's count of readings; a counter's base is no higher than the limit where it was not before. -/
def State.QuietTo (s t : State) : Prop :=
  (∀ c : Fin 24, s.counters.base[c] ≤ Config.counterMax → t.counters.base[c] ≤ Config.counterMax) ∧
  t = { s with
    resetN := t.resetN, arbiter := t.arbiter, collector := t.collector, grader := t.grader
    linePort := t.linePort, sorterPort := t.sorterPort, sticky := t.sticky, counters := t.counters
    lamps := t.lamps, blinkLit := t.blinkLit, linkTxd := t.linkTxd, freeReads := t.freeReads }

theorem State.QuietTo.refl (s : State) : s.QuietTo s := ⟨fun _ h => h, rfl⟩

theorem State.QuietTo.trans {s t u : State} (hst : s.QuietTo t) (htu : t.QuietTo u) : s.QuietTo u := by
  obtain ⟨hb, he⟩ := hst
  obtain ⟨hb', he'⟩ := htu
  refine ⟨fun c h => hb' c (hb c h), ?_⟩
  rw [he] at he'
  exact he'

/-- `t` is `s` but for the counters and the sticky conditions; a counter's base is no higher than the limit
where it was not before. -/
def State.CountsTo (s t : State) : Prop :=
  (∀ c : Fin 24, s.counters.base[c] ≤ Config.counterMax → t.counters.base[c] ≤ Config.counterMax) ∧
  t = { s with counters := t.counters, sticky := t.sticky }

theorem State.CountsTo.refl (s : State) : s.CountsTo s := ⟨fun _ h => h, rfl⟩

theorem State.CountsTo.trans {s t u : State} (hst : s.CountsTo t) (htu : t.CountsTo u) : s.CountsTo u := by
  obtain ⟨hb, he⟩ := hst
  obtain ⟨hb', he'⟩ := htu
  refine ⟨fun c h => hb' c (hb c h), ?_⟩
  rw [he] at he'
  exact he'

theorem State.CountsTo.quietTo {s t : State} (h : s.CountsTo t) : s.QuietTo t := by
  obtain ⟨hb, he⟩ := h
  refine ⟨hb, ?_⟩
  rw [he]

theorem Counters.live_le (k : Counters) (i : Fin 24) : k.live i ≤ Config.counterMax := Nat.min_le_left ..

theorem Counters.base_fold_le (k : Counters) (i : Fin 24) : k.fold.base[i] ≤ Config.counterMax := by
  rw [Counters.base_fold]; exact k.live_le i

theorem State.quietTo_setPort (s : State) (p : Port) (e : PortEngine) : s.QuietTo (s.setPort p e) := by
  cases p <;> exact ⟨fun _ h => h, rfl⟩

theorem State.quietTo_respond (s : State) (p : Port) (tag rq : Nat) (a : Answer) :
    s.QuietTo (s.respond p tag rq a) := s.quietTo_setPort p _

theorem State.quietTo_executing (s : State) (p : Port) (tag : Nat) (r : Request) :
    s.QuietTo (s.executing p tag r) := s.quietTo_setPort p _

theorem State.countsTo_closeRaises (s : State) : s.CountsTo s.closeRaises :=
  ⟨fun c _ => s.counters.base_fold_le c, rfl⟩

theorem State.countsTo_bumpBy (s : State) (c : Counter) (n : Nat) : s.CountsTo (s.bumpBy c n) :=
  ⟨fun _ h => h, rfl⟩

theorem State.countsTo_bump (s : State) (c : Counter) : s.CountsTo (s.bump c) := s.countsTo_bumpBy c 1

theorem State.quietTo_closeRaises (s : State) : s.QuietTo s.closeRaises := s.countsTo_closeRaises.quietTo

theorem State.quietTo_bumpBy (s : State) (c : Counter) (n : Nat) : s.QuietTo (s.bumpBy c n) :=
  (s.countsTo_bumpBy c n).quietTo

theorem State.quietTo_bump (s : State) (c : Counter) : s.QuietTo (s.bump c) := s.quietTo_bumpBy c 1

theorem State.quietTo_foldRaises (s : State) (p : Port) : s.QuietTo (s.foldRaises p) := by
  cases p
  · exact s.quietTo_closeRaises
  · exact .refl s

theorem State.quietTo_written (s : State) (p : Port) : s.QuietTo (s.written p) :=
  (s.quietTo_setPort p _).trans (State.quietTo_foldRaises _ p)

theorem State.quietTo_overrun (s : State) (p : Port) : s.QuietTo (s.overrun p) :=
  s.quietTo_closeRaises.trans ((State.quietTo_setPort _ p _).trans (State.quietTo_bump _ _))

theorem State.quietTo_postWaiting (s : State) (c : Client) : s.QuietTo (s.postWaiting c) :=
  ⟨fun _ h => h, rfl⟩

theorem State.quietTo_markGranted (s : State) (c : Client) : s.QuietTo (s.markGranted c) :=
  ⟨fun i _ => s.counters.base_fold_le i, rfl⟩

theorem State.quietTo_atMoment (s : State) (r : Request) (m : Moment) : s.QuietTo (s.atMoment r m) := by
  unfold State.atMoment
  split
  · exact s.quietTo_closeRaises
  · exact .refl s

theorem State.quietTo_arbiter (s : State) (a : Arbiter) : s.QuietTo { s with arbiter := a } :=
  ⟨fun _ h => h, rfl⟩

theorem State.quietTo_grader (s : State) (g : Grader) : s.QuietTo { s with grader := g } :=
  ⟨fun _ h => h, rfl⟩

theorem State.quietTo_collector (s : State) (c : Collector) : s.QuietTo { s with collector := c } :=
  ⟨fun _ h => h, rfl⟩

theorem quietTo_answerUnderHold (r : Request) (s : State) : s.QuietTo (answerUnderHold r s).2 := by
  unfold answerUnderHold
  split
  · exact .refl s
  · split
    · exact s.quietTo_closeRaises.trans (State.quietTo_bump _ _)
    · exact .refl s

theorem State.quietTo_withdrawSorter (s : State) : s.QuietTo s.withdrawSorter := by
  unfold State.withdrawSorter
  split
  next tag r _ =>
    exact (quietTo_answerUnderHold r s).trans
      ((State.quietTo_arbiter _ _).trans (State.quietTo_respond _ _ _ _ _))
  next => exact .refl s

theorem quietTo_readPort (p : Port) (count : Nat) (cut : Option Nat) (s : State) :
    s.QuietTo (readPort p count cut s) :=
  (s.quietTo_setPort p _).trans (State.quietTo_closeRaises _)

theorem quietTo_holdExpires (s : State) : s.QuietTo (holdExpires s) := by
  unfold holdExpires
  split <;> exact ⟨fun _ h => h, rfl⟩

theorem quietTo_resetPinHigh (s : State) : s.QuietTo (resetPinHigh s) := by
  unfold resetPinHigh
  split <;> exact ⟨fun _ h => h, rfl⟩

theorem State.quietTo_graderDone (s : State) : s.QuietTo s.graderDone := by
  unfold State.graderDone
  split <;> exact ⟨fun _ h => h, rfl⟩

/-- ITEM QUERY changes nothing (R22). -/
theorem workItemQuery_state (k v : Nat) (s : State) : (workItemQuery k v s).2 = s := by
  unfold workItemQuery
  split
  · split
    · rfl
    · split <;> rfl
  · split <;> rfl
  · rfl

theorem quietTo_workItemQuery (k v : Nat) (s : State) : s.QuietTo (workItemQuery k v s).2 := by
  rw [workItemQuery_state]
  exact .refl s

theorem quietTo_workAttentionMask (p : Port) (mask : Nat) (s : State) :
    s.QuietTo (workAttentionMask p mask s).2 := by
  unfold workAttentionMask
  split
  · exact .refl s
  · exact .refl s
  · exact s.quietTo_setPort p _

theorem workStatusClear_frame (n : Nat) (s : State) :
    ∃ k, (workStatusClear n s).2 = { s with sticky := k } := by
  unfold workStatusClear
  split <;> exact ⟨_, rfl⟩

theorem quietTo_workStatusClear (n : Nat) (s : State) : s.QuietTo (workStatusClear n s).2 := by
  obtain ⟨k, e⟩ := workStatusClear_frame n s
  rw [e]
  exact ⟨fun _ h => h, rfl⟩

theorem State.quietTo_countReading (s : State) : s.QuietTo s.countReading := by
  unfold State.countReading
  split <;> exact ⟨fun _ h => h, rfl⟩

theorem quietTo_workArbiterSet (k l : Nat) (s : State) : s.QuietTo (workArbiterSet k l s).2 := by
  unfold workArbiterSet
  split
  · exact s.quietTo_countReading
  · split
    · exact (s.quietTo_arbiter _).trans (State.quietTo_countReading _)
    · exact s.quietTo_countReading

theorem quietTo_workHoldBegin (s : State) : s.QuietTo (workHoldBegin s).2 := by
  unfold workHoldBegin
  split
  · exact .refl s
  · exact (s.quietTo_arbiter _).trans (State.quietTo_withdrawSorter _)

theorem quietTo_workHoldEnd (s : State) : s.QuietTo (workHoldEnd s).2 := by
  unfold workHoldEnd
  split <;> exact ⟨fun _ h => h, rfl⟩

theorem workLampSet_frame (l k p : Nat) (s : State) :
    ∃ v, (workLampSet l k p s).2 = { s with lamps := v } := by
  unfold workLampSet
  split
  · split <;> exact ⟨_, rfl⟩
  · exact ⟨_, rfl⟩

theorem quietTo_workLampSet (l k p : Nat) (s : State) : s.QuietTo (workLampSet l k p s).2 := by
  obtain ⟨v, e⟩ := workLampSet_frame l k p s
  rw [e]
  exact ⟨fun _ h => h, rfl⟩

theorem workManifestRead_state (l : Nat) (s : State) : (workManifestRead l s).2 = s := by
  unfold workManifestRead
  split
  · rfl
  · split <;> rfl

theorem workClassRead_state (k : Nat) (s : State) : (workClassRead k s).2 = s := by
  unfold workClassRead; split <;> rfl

theorem workSlotRead_state (b : Nat) (s : State) : (workSlotRead b s).2 = s := by
  unfold workSlotRead; split <;> rfl

/-! ### Requests that write one table -/

theorem workManifestPost_frame (o : ManifestOperands) (s : State) :
    (workManifestPost o s).2 = s ∨ ∃ m, (workManifestPost o s).2 = s.setManifest o.label m := by
  unfold workManifestPost
  split
  · exact .inl rfl
  · split
    · split
      · exact .inl rfl
      · exact .inr ⟨_, rfl⟩
    · split
      · exact .inl rfl
      · exact .inr ⟨_, rfl⟩

theorem workManifestWithdraw_frame (l : Nat) (s : State) :
    (workManifestWithdraw l s).2 = s ∨ (workManifestWithdraw l s).2 = s.removeManifest l := by
  unfold workManifestWithdraw
  split
  · exact .inl rfl
  · split
    · exact .inl rfl
    · exact .inr rfl

theorem workClassWrite_frame (k : Nat) (o : ClassOperands) (s : State) :
    (workClassWrite k o s).2 = s ∨ ∃ r, (workClassWrite k o s).2 = s.setClass k r := by
  unfold workClassWrite
  split
  · exact .inl rfl
  · split
    · exact .inl rfl
    · split
      · exact .inr ⟨_, rfl⟩
      · exact .inl rfl

theorem workClassClear_frame (k : Nat) (s : State) :
    (workClassClear k s).2 = s ∨ (workClassClear k s).2 = s.clearClass k := by
  unfold workClassClear
  split
  · exact .inl rfl
  · exact .inr rfl

theorem workLineSet_frame (o : LineOperands) (s : State) :
    ∃ l, (workLineSet o s).2 = { s with line := l } := by
  unfold workLineSet
  split
  · split <;> exact ⟨_, rfl⟩
  · exact ⟨_, rfl⟩

theorem workZoneSet_frame (z c k : Nat) (s : State) :
    (workZoneSet z c k s).2 = s ∨ ∃ r, (workZoneSet z c k s).2 = s.setZone z r := by
  unfold workZoneSet
  split
  · exact .inl rfl
  · split
    · split
      · exact .inr ⟨_, rfl⟩
      · exact .inl rfl
    · split
      · exact .inr ⟨_, rfl⟩
      · exact .inl rfl
    · exact .inl rfl

theorem workChuteClear_frame (c : Nat) (s : State) :
    (workChuteClear c s).2 = s ∨ (workChuteClear c s).2 = s.updateZones (Zone.clearFor c) := by
  unfold workChuteClear
  split
  · exact .inl rfl
  · exact .inr rfl

theorem workLinkSet_frame (p t n : Nat) (s : State) :
    ∃ l, (workLinkSet p t n s).2 = { s with link := l } := by
  unfold workLinkSet
  split <;> exact ⟨_, rfl⟩

/-- What SLOT SET leaves: the state, or the bin with settings that its occupancy admits. -/
theorem workSlotSet_frame (b : Nat) (o : SlotOperands) (s : State) :
    (workSlotSet b o s).2 = s ∨ ∃ n, (s.bin b).settingsRefused s.mode n = false ∧
      (workSlotSet b o s).2 = s.setBin b ((s.bin b).withSettings n) := by
  unfold workSlotSet
  split
  · exact .inl rfl
  · split
    · exact .inl rfl
    · split
      · exact .inl rfl
      next n _ h => exact .inr ⟨n, by simpa using h, rfl⟩

theorem workSlotAdjust_frame (b n k : Nat) (s : State) :
    (workSlotAdjust b n k s).2 = s ∨
      ∃ c, (workSlotAdjust b n k s).2 = s.setBin b ((s.bin b).adjust n c) := by
  unfold workSlotAdjust
  split
  · exact .inl rfl
  · split
    · exact .inl rfl
    · split
      · exact .inl rfl
      · split
        · exact .inl rfl
        · split
          · exact .inl rfl
          · exact .inr ⟨_, rfl⟩

theorem workSlotRelease_frame (b n : Nat) (s : State) :
    (workSlotRelease b n s).2 = s ∨ ∃ k, (workSlotRelease b n s).2 =
      s.setBin b { s.bin b with committed := (s.bin b).committed - k }.settleClass := by
  unfold workSlotRelease
  split
  · exact .inl rfl
  · split
    · exact .inl rfl
    · exact .inr ⟨_, rfl⟩

theorem State.setScheduleEntry_frame (s : State) (i : Nat) (e : Option Poll) :
    ∃ t, s.setScheduleEntry i e = { s with schedule := t } := by
  cases e <;> exact ⟨_, rfl⟩

theorem workScheduleWrite_frame (i : Nat) (es : ListOperand (Nat × Nat)) (s : State) :
    (workScheduleWrite i es s).2 = s ∨
      ∃ ps, (workScheduleWrite i es s).2 = State.writeSchedule i ps s := by
  unfold workScheduleWrite
  split
  · split
    · exact .inr ⟨_, rfl⟩
    · exact .inl rfl
  · exact .inl rfl

theorem State.setSettle_frame (s : State) (a : Nat) (c : Option SettleContext) :
    ∃ t, s.setSettle a c = { s with settle := t } := by
  cases c <;> exact ⟨_, rfl⟩

theorem State.setScan_frame (s : State) (b : Bool) (c : ScanContext) :
    ∃ c0 c1, s.setScan b c = { s with scan0 := c0, scan1 := c1 } := by
  cases b <;> exact ⟨_, _, rfl⟩

/-- The SCAN side of what a changed entry does to its contexts (R48). -/
def State.rebindScan (s : State) (a : Nat) (after : Station) : State :=
  match s.boundScan a with
  | some (second, c) =>
    if after.isScan then s.setScan second c.emptied else s.setScan second .atReset
  | none =>
    if after.isScan then
      if s.scan0.binding.isNone then s.setScan false { ScanContext.atReset with binding := some a }
      else if s.scan1.binding.isNone then s.setScan true { ScanContext.atReset with binding := some a }
      else s
    else s

/-- The contexts of a changed entry: the WEIGH side, then the SCAN side (R48). -/
theorem State.rebindContexts_eq (s : State) (a : Nat) (e : Station) :
    s.rebindContexts a e =
      (if e.config.configured && e.config.kind == .weigh then s.setSettle a none else s).rebindScan a e :=
  rfl

theorem State.rebindScan_frame (s : State) (a : Nat) (e : Station) :
    ∃ c0 c1, s.rebindScan a e = { s with scan0 := c0, scan1 := c1 } := by
  unfold State.rebindScan
  split
  · split <;> exact State.setScan_frame ..
  · split
    · split
      · exact State.setScan_frame ..
      · split
        · exact State.setScan_frame ..
        · exact ⟨_, _, rfl⟩
    · exact ⟨_, _, rfl⟩

/-- What STATION SET leaves: the entry replaced, and its contexts. -/
theorem workStationSet_frame (a : Nat) (o : StationOperands) (s : State) :
    (workStationSet a o s).2 = s ∨ ∃ k, (workStationSet a o s).2 = s.replaceStation a k := by
  unfold workStationSet
  split
  · exact .inl rfl
  · split
    · exact .inl rfl
    · split
      · exact .inl rfl
      · exact .inr ⟨_, rfl⟩
      · split
        · exact .inl rfl
        · split
          · exact .inl rfl
          · exact .inr ⟨_, rfl⟩

end Sys2Proof.Machine
end

section
/-! PROOFS. The round controller's operations change only the controller, the link and the counters; and the
induction over a command that the laws go through. -/

namespace Sys2Proof.Machine

/-! ### What the Station Link's operations leave alone -/

/-- `t` is `s` but for the round controller, the bytes last sent, the counters and the sticky conditions. -/
def State.LinkTo (s t : State) : Prop :=
  ∃ c txd, State.CountsTo { s with controller := c, linkTxd := txd } t

theorem State.CountsTo.linkTo {s t : State} (h : s.CountsTo t) : s.LinkTo t :=
  ⟨s.controller, s.linkTxd, h⟩

theorem State.LinkTo.refl (s : State) : s.LinkTo s := (State.CountsTo.refl s).linkTo

theorem State.LinkTo.trans {s t u : State} (hst : s.LinkTo t) (htu : t.LinkTo u) : s.LinkTo u := by
  obtain ⟨_, _, hb, he⟩ := hst
  obtain ⟨d, y, hb', he'⟩ := htu
  refine ⟨d, y, fun i h => hb' i (hb i h), ?_⟩
  rw [he] at he'
  exact he'

theorem State.linkTo_withController (s : State) (f : RoundController → RoundController) :
    s.LinkTo (s.withController f) := ⟨f s.controller, s.linkTxd, .refl _⟩

theorem State.linkTo_sendPoll (s : State) (p : Poll) (b : Bool) (ret : ReturnPoint) :
    s.LinkTo (s.sendPoll p b ret) := ⟨(s.sendPoll p b ret).controller, (s.sendPoll p b ret).linkTxd, .refl _⟩

theorem State.linkTo_sendSlot (s : State) (p : Poll) (ret : ReturnPoint) : s.LinkTo (s.sendSlot p ret) :=
  (s.linkTo_withController _).trans (State.linkTo_sendPoll _ _ _ _)

theorem State.linkTo_settleSlot (s : State) : s.LinkTo s.settleSlot := by
  unfold State.settleSlot
  split
  · exact .refl s
  · split
    · exact s.linkTo_sendSlot _ _
    · exact s.linkTo_sendSlot _ _
    · exact .refl s

theorem State.linkTo_walkEntries : ∀ (n pos : Nat) (s : State), s.LinkTo (State.walkEntries n pos s).2 := by
  intro n
  induction n with
  | zero => exact fun _ s => .refl s
  | succ n ih =>
    intro pos s
    have hskip := (s.countsTo_bump .skippedPolls).linkTo.trans (ih (pos + 1) (s.bump .skippedPolls))
    unfold State.walkEntries
    split
    · exact hskip
    · split
      · exact (s.linkTo_withController _).trans (State.linkTo_sendPoll _ _ _ _)
      · exact hskip

theorem State.linkTo_walkOnce (s : State) : s.LinkTo s.walkOnce.2 := by
  unfold State.walkOnce
  split
  · exact .refl s
  next a _ =>
    simp only
    generalize hr : State.walkEntries _ _ _ = r
    have hwalk : s.LinkTo r.2 := by
      rw [← hr]; exact (s.linkTo_withController _).trans (State.linkTo_walkEntries _ _ _)
    split
    · split
      · exact hwalk.trans ((State.linkTo_withController _ _).trans (State.linkTo_sendSlot _ _ _))
      · exact hwalk
    · exact hwalk

theorem State.linkTo_endRound (s : State) : s.LinkTo s.endRound.2 := by
  have hend : s.LinkTo { s with sticky := { s.sticky with roundEnd := true } } :=
    State.CountsTo.linkTo ⟨fun _ h => h, rfl⟩
  unfold State.endRound
  simp only
  split
  · split <;> exact hend.trans ((State.linkTo_withController _ _).trans (State.linkTo_withController _ _))
  · split
    · split <;> exact hend.trans (State.linkTo_withController _ _)
    · exact hend.trans (State.linkTo_withController _ _)

theorem State.linkTo_walk (s : State) : s.LinkTo s.walk := by
  have hend := s.linkTo_walkOnce.trans (State.linkTo_endRound _)
  have hagain := hend.trans (State.linkTo_walkOnce _)
  unfold State.walk
  simp only
  split
  · exact s.linkTo_walkOnce
  · split
    · exact hend
    · split
      · exact hagain.trans (State.linkTo_endRound _)
      · exact hagain

theorem State.linkTo_finishRound (s : State) : s.LinkTo s.finishRound := by
  unfold State.finishRound
  simp only
  split
  · exact s.linkTo_endRound.trans (State.linkTo_walk _)
  · exact s.linkTo_endRound

theorem State.linkTo_beginWalk (s : State) : s.LinkTo s.beginWalk :=
  (s.linkTo_withController _).trans (State.linkTo_walk _)

theorem State.linkTo_expireRoundWait (s : State) : s.LinkTo s.expireRoundWait := by
  unfold State.expireRoundWait
  split
  · exact (s.linkTo_withController _).trans (State.linkTo_finishRound _)
  · exact s.linkTo_beginWalk

theorem State.linkTo_moveOn (s : State) (f : InFlight) : s.LinkTo (s.moveOn f) := by
  have hslot : ∀ {t : State}, s.LinkTo t → s.LinkTo t.settleSlot := fun h => h.trans (State.linkTo_settleSlot _)
  have hfree := s.linkTo_withController fun c => { c with inFlight := none }
  unfold State.moveOn
  simp only
  split
  · split
    · exact hslot (hfree.trans (State.linkTo_finishRound _))
    · exact hslot (hfree.trans (State.linkTo_walk _))
  · exact hslot (hfree.trans (State.linkTo_withController _ _))
  · exact hslot (hfree.trans (State.linkTo_withController _ _))
  · split
    · exact hslot (hfree.trans ((State.linkTo_withController _ _).trans
        ((State.linkTo_withController _ _).trans (State.linkTo_expireRoundWait _))))
    · exact hslot (hfree.trans (State.linkTo_withController _ _))

theorem State.linkTo_expireRound (s : State) : s.LinkTo s.expireRound := by
  unfold State.expireRound
  split
  · exact .refl s
  · exact .refl s
  · split
    · split
      · exact s.linkTo_withController _
      · exact .refl s
    · exact .refl s
  · exact s.countsTo_closeRaises.linkTo.trans
      ((State.linkTo_expireRoundWait _).trans (State.linkTo_settleSlot _))

theorem linkTo_expireTimer (s : State) : s.LinkTo (expireTimer s) := by
  unfold expireTimer
  split
  · exact .refl s
  · exact (s.linkTo_withController _).trans (State.linkTo_expireRound _)

theorem State.linkTo_startSchedule (s : State) (g : StagedSchedule) : s.LinkTo (s.startSchedule g) := by
  have hact := s.linkTo_withController fun c =>
    { c with active := some { base := g.base, length := g.length, rep := g.rep } }
  unfold State.startSchedule
  simp only
  split
  · exact hact.trans ((State.linkTo_beginWalk _).trans (State.linkTo_settleSlot _))
  · exact hact.trans (State.linkTo_withController _ _)
  · exact hact.trans (State.linkTo_withController _ _)

theorem linkTo_workScheduleStart (o : ScheduleOperands) (s : State) :
    s.LinkTo (workScheduleStart o s).2 := by
  unfold workScheduleStart
  split
  · exact .refl s
  · split
    · exact .refl s
    · exact s.linkTo_startSchedule _

theorem linkTo_workScheduleStage (o : ScheduleOperands) (s : State) :
    s.LinkTo (workScheduleStage o s).2 := by
  unfold workScheduleStage
  split
  · exact .refl s
  · split
    · exact .refl s
    · split
      · exact .refl s
      · exact s.linkTo_withController _

theorem linkTo_workScheduleCancel (s : State) : s.LinkTo (workScheduleCancel s).2 := by
  unfold workScheduleCancel
  simp only
  split
  · exact (s.linkTo_withController _).trans (State.linkTo_withController _ _)
  · exact (s.linkTo_withController _).trans
      ((State.linkTo_withController _ _).trans (State.linkTo_settleSlot _))

theorem linkTo_workSinglePoll (a k : Nat) (s : State) : s.LinkTo (workSinglePoll a k s).2 := by
  unfold workSinglePoll
  split
  · exact .refl s
  · split
    · exact .refl s
    · split
      · exact .refl s
      · split
        · exact .refl s
        · exact (s.linkTo_withController _).trans (State.linkTo_settleSlot _)

/-- A mode change leaves the mode and the round controller (R59, R188). -/
theorem State.changeMode_frame (s : State) (m : Mode) :
    ∃ c, s.changeMode m = { s with mode := m, controller := c } := by
  unfold State.changeMode
  simp only
  split <;> exact ⟨_, rfl⟩

/-- What MODE SET leaves: the state, or on an empty line the mode changed. -/
theorem workModeSet_frame (k : Nat) (s : State) :
    (workModeSet k s).2 = s ∨ ∃ m, s.liveItems = 0 ∧ (workModeSet k s).2 = s.changeMode m := by
  unfold workModeSet
  split
  · exact .inl rfl
  next m _ =>
    split
    · exact .inl rfl
    next hlive =>
      split
      · exact .inl rfl
      · exact .inr ⟨m, not_not.1 hlive, rfl⟩

/-! ### What a reply's judging leaves alone -/

theorem State.recordOutcome_frame (s : State) (a : Nat) (good : Bool) :
    ∃ u e, s.CountsTo u ∧ u.sticky.roundEnd = s.sticky.roundEnd ∧
      s.recordOutcome a good = u.setStation a e := by
  unfold State.recordOutcome
  simp only
  refine ⟨_, _, ?_, ?_, rfl⟩
  · split
    · split <;> exact s.countsTo_closeRaises.trans ⟨fun _ h => h, rfl⟩
    · split <;> exact s.countsTo_closeRaises.trans ⟨fun _ h => h, rfl⟩
  · split
    · split <;> rfl
    · split <;> rfl

/-- What the frame offered leaves: a place in the FIFO, or a frame dropped (R68, R69). -/
theorem State.offerFrame_frame (s : State) (f : StampedFrame) :
    s.CountsTo (s.offerFrame f) ∨
      (s.fifo.length < Config.fifoFrames ∧ State.CountsTo { s with fifo := s.fifo ++ [f] } (s.offerFrame f)) := by
  unfold State.offerFrame
  split
  next h => exact .inr ⟨h, fun _ h => h, rfl⟩
  next => exact .inl ⟨fun _ h => h, rfl⟩

/-- A property of states that raised counters, a changed station and a frame offered keep, judging a reply
keeps. -/
theorem State.judgeReply_keeps {P : State → Prop} (counts : ∀ s t : State, s.CountsTo t → P s → P t)
    (station : ∀ (s : State) (a : Nat) (e : Station), P s → P (s.setStation a e))
    (offer : ∀ (s : State) (f : StampedFrame), P s → P (s.offerFrame f))
    {s : State} (h : P s) (f : InFlight) (frame : List Byte) : P (s.judgeReply f frame) := by
  have record : ∀ (u : State) (good : Bool), P u → P (u.recordOutcome f.station good) := by
    intro u good hu
    obtain ⟨v, e, hq, -, he⟩ := u.recordOutcome_frame f.station good
    rw [he]
    exact station v _ e (counts u v hq hu)
  unfold State.judgeReply
  simp only
  split
  · exact record s false h
  · split
    · exact record s false h
    · split
      · exact record s true h
      · split
        · exact counts _ _ (State.countsTo_bump _ _) (record s false h)
        · split
          · exact record s false h
          · exact offer _ _ (record s true h)
      · split
        · exact counts _ _ (State.countsTo_bump _ _) (record s false h)
        · exact record _ _ (station s _ _ h)
      · exact record s false h

/-! ### The link's events -/

/-- What an event of a poll in flight can do: nothing, a step of the poll, or its outcome and the controller
moving on (R60, R61). -/
inductive PollStep (s : State) : State → Prop where
  | same : PollStep s s
  | phase (f : InFlight) (ph : PollPhase) (hf : s.controller.inFlight = some f) :
      PollStep s (s.withController fun c => { c with inFlight := some { f with phase := ph } })
  | bad (f : InFlight) (hf : s.controller.inFlight = some f) :
      PollStep s ((s.recordOutcome f.station false).moveOn f)
  | judged (f : InFlight) (frame : List Byte) (hf : s.controller.inFlight = some f) :
      PollStep s ((s.judgeReply f frame).moveOn f)

theorem PollStep.onPoll {s : State} {g : InFlight → State}
    (h : ∀ f, s.controller.inFlight = some f → PollStep s (g f)) : PollStep s (s.onPoll g) := by
  unfold State.onPoll
  split
  next f hf => exact h f hf
  next => exact .same

theorem PollStep.takeReply {s : State} {f : InFlight} (hf : s.controller.inFlight = some f) (len : Byte)
    (frame : List Byte) : PollStep s (s.takeReply f len frame) := by
  unfold State.takeReply
  simp only
  split
  · exact .bad f hf
  · exact .judged f _ hf

theorem pollStep_startReplyTimer (s : State) : PollStep s (startReplyTimer s) := by
  refine .onPoll fun f hf => ?_
  split
  · exact .phase f _ hf
  · exact .same

theorem pollStep_takeFirstByte (len : Byte) (s : State) : PollStep s (takeFirstByte len s) := by
  refine .onPoll fun f hf => ?_
  split
  · unfold State.firstByte
    split
    · exact .bad f hf
    · exact .phase f _ hf
  · exact .same

theorem pollStep_takeWholeReply (frame : List Byte) (s : State) : PollStep s (takeWholeReply frame s) := by
  refine .onPoll fun f hf => ?_
  split
  · exact .takeReply hf _ _
  · split
    · exact .same
    · split
      · exact .bad f hf
      · exact .takeReply hf _ _
  · exact .same

theorem pollStep_replyTimesOut (s : State) : PollStep s (replyTimesOut s) := by
  refine .onPoll fun f hf => ?_
  split
  · exact .bad f hf
  · exact .same

theorem pollStep_replyBreaksOff (s : State) : PollStep s (replyBreaksOff s) := by
  refine .onPoll fun f hf => ?_
  split
  · exact .bad f hf
  · exact .same

/-! ### The induction over a command -/

/-- What makes a command lead from states of `P` to states of `Q`: every part of a command keeps `P`, the work
of a request leads to `Q`, and what follows the work keeps `Q`. -/
structure LeadsTo (P Q : State → Prop) : Prop where
  quiet : ∀ s t : State, s.QuietTo t → P s → P t
  after : ∀ s t : State, s.QuietTo t → Q s → Q t
  weaken : ∀ s : State, P s → Q s
  work : ∀ (p : Port) (r : Request) (s : State), refusedInMode s.mode r = false → P s → Q (workOf p r s).2
  fetch : ∀ s : State, P s → P (gradingFetch s)
  apply : ∀ (c : GradeCopy) (k : Option GradeResult) (s : State), s.stillGrading c = true → P s →
    P (applyResult c k s)
  write : ∀ (s : State) (p : Piece), P s → P (s.writePiece p)
  frame : ∀ (s : State) (f : StampedFrame) (rest : List StampedFrame), s.fifo = f :: rest → P s →
    P (takeFrame f { s.closeRaises with fifo := rest }).2
  timer : ∀ s : State, P s → P (expireTimer s)
  poll : ∀ s t : State, PollStep s t → P s → P t
  pinLow : ∀ s : State, P s → Q (resetPinLow s)

namespace LeadsTo

variable {P Q : State → Prop} (k : LeadsTo P Q)
include k

theorem perform {p : Port} {tag : Nat} {r : Request} {s : State} (h : P s) : Q (perform p tag r s) := by
  unfold Machine.perform
  split
  · exact k.after _ _ (s.quietTo_respond _ _ _ _) (k.weaken _ h)
  next hm => exact k.after _ _ (State.quietTo_respond _ _ _ _ _) (k.work p r s (by simpa using hm) h)

theorem writeBack {c : GradeCopy} {g : Option GradeResult} {s : State} (h : P s) :
    P (gradingWriteBack c g s) := by
  refine k.quiet _ _ (State.quietTo_graderDone _) ?_
  split
  next hc => exact k.apply c g s hc h
  next => exact h

theorem pieces {ps : List Piece} : ∀ {s : State}, P s → P (ps.foldl State.writePiece s) := by
  induction ps with
  | nil => exact fun h => h
  | cons p ps ih => exact fun h => ih (k.write _ p h)

theorem evidence {ps : List Piece} {s : State} (h : P s) : P (evidenceWrite ps s) :=
  k.quiet _ _ (State.quietTo_collector _ _) (k.pieces h)

theorem servePort {p : Port} {s : State} (h : P s) : Q (servePort p s) := by
  unfold Machine.servePort
  split
  · exact k.perform h
  · exact k.weaken _ h

theorem runAccess {c : Client} {s : State} (h : P s) : Q (runAccess c s) := by
  cases c with
  | lpe => exact k.servePort h
  | spe => exact k.servePort h
  | ec =>
    unfold Machine.runAccess
    simp only
    split
    · exact k.weaken _ (k.evidence h)
    · exact k.weaken _ h
  | gc =>
    unfold Machine.runAccess
    simp only
    split
    · exact k.weaken _ (k.fetch s h)
    · exact k.weaken _ (k.writeBack h)
    · exact k.weaken _ h

theorem postClient {c : Client} {m : Moment} {s : State} (h : P s) : Q (postClient c m s) := by
  unfold Machine.postClient
  split
  · exact k.runAccess (k.quiet _ _ (s.quietTo_markGranted c) h)
  · exact k.weaken _ (k.quiet _ _ (s.quietTo_postWaiting c) h)

theorem takeRequest {p : Port} {m : Moment} {tag : Nat} {r : Request} {s : State} (h : P s) :
    Q (takeRequest p m tag r s) := by
  have hex := k.quiet _ _ (s.quietTo_executing p tag r) h
  unfold Machine.takeRequest
  split
  · exact k.weaken _ (k.quiet _ _ (s.quietTo_respond _ _ _ _) h)
  · split
    · split
      · exact k.weaken _
          (k.quiet _ _ ((quietTo_answerUnderHold r s).trans (State.quietTo_respond _ _ _ _ _)) h)
      · exact k.postClient hex
    · split
      · exact k.weaken _ hex
      · exact k.perform (k.quiet _ _ (s.quietTo_atMoment r m) h)

theorem writeRequest {p : Port} {m : Moment} {f : FrameTaken} {s : State} (h : P s) :
    Q (writeRequest p m f s) := by
  unfold Machine.writeRequest
  split
  · exact k.weaken _ h
  · refine k.after _ _ (State.quietTo_written _ p) ?_
    unfold takeFrameOnPort
    split
    · split
      · exact k.takeRequest h
      · exact k.weaken _ (k.quiet _ _ (s.quietTo_respond _ _ _ _) h)
    · exact k.weaken _ (k.quiet _ _ (s.quietTo_overrun p) h)

theorem afterChain {s : State} (h : P s) : Q s.afterChain := by
  unfold State.afterChain
  split
  · split
    · exact k.perform h
    · exact k.weaken _ h
  · exact k.weaken _ h

theorem endComputation {m : Moment} {s : State} (h : P s) : Q (endComputation m s) := by
  unfold Machine.endComputation
  split
  · split
    · exact k.afterChain (k.quiet _ _ (State.quietTo_arbiter _ _)
        (k.writeBack (k.quiet _ _ s.quietTo_closeRaises h)))
    · exact k.postClient (k.quiet _ _ (s.quietTo_grader _) h)
  · exact k.weaken _ h

theorem collectFrame {m : Moment} {s : State} (h : P s) : Q (collectFrame m s) := by
  unfold Machine.collectFrame
  split
  next f rest _ hf =>
    have hf' := k.frame s f rest hf h
    simp only
    split
    · exact k.weaken _ hf'
    · exact k.postClient (k.quiet _ _ (State.quietTo_collector _ _) hf')
  next => exact k.weaken _ h

theorem grantStore {s : State} (h : P s) : Q (grantStore s) := by
  unfold Machine.grantStore
  split
  · exact k.weaken _ h
  · split
    · exact k.runAccess (k.quiet _ _ (s.quietTo_markGranted _) h)
    · exact k.weaken _ h

omit k in
theorem whenRunning {s t : State} {f : State → State} (hf : Q (f s)) (h : Q s)
    (ht : whenRunning s f = .next t) : Q t := by
  unfold Machine.whenRunning at ht
  cases ht
  split
  · exact hf
  · exact h

/-- Every command leads from `P` to `Q`. -/
theorem exec {c : Instr} {s t : State} (ht : exec c s = .next t) (h : P s) : Q t := by
  have hw := k.weaken s h
  cases hc : c.request? with
  | some hr =>
    obtain ⟨hd, r⟩ := hr
    rw [exec_request hc, request] at ht
    cases ht
    exact k.writeRequest h
  | none =>
    cases c with
    | writeRequestOverrun p m mosi =>
      unfold Machine.exec execWriteRequestOverrun at ht
      simp only at ht
      split at ht
      · cases ht; exact k.writeRequest h
      · exact whenRunning (k.weaken _ (k.quiet _ _ (quietTo_readPort ..) h)) hw ht
      · cases ht; exact hw
    | readResponse p r => exact whenRunning (k.weaken _ (k.quiet _ _ (quietTo_readPort ..) h)) hw ht
    | storeAccessGrant => exact whenRunning (k.grantStore h) hw ht
    | computationDone m => exact whenRunning (k.endComputation h) hw ht
    | evidenceFrameTaken m => exact whenRunning (k.collectFrame h) hw ht
    | roundTimerExpiry => exact whenRunning (k.weaken _ (k.timer s h)) hw ht
    | pollTransmitted => exact whenRunning (k.weaken _ (k.poll _ _ (pollStep_startReplyTimer s) h)) hw ht
    | replyReceived f => exact whenRunning (k.weaken _ (k.poll _ _ (pollStep_takeWholeReply f s) h)) hw ht
    | replyTimeout => exact whenRunning (k.weaken _ (k.poll _ _ (pollStep_replyTimesOut s) h)) hw ht
    | frameIdleGap => exact whenRunning (k.weaken _ (k.poll _ _ (pollStep_replyBreaksOff s) h)) hw ht
    | strayReplyBytes b => cases ht; exact hw
    | holdExpiry => exact whenRunning (k.weaken _ (k.quiet _ _ (quietTo_holdExpires s) h)) hw ht
    | resetAssert => cases ht; exact k.pinLow s h
    | resetRelease => cases ht; exact k.weaken _ (k.quiet _ _ (quietTo_resetPinHigh s) h)
    | blinkPhaseToggle =>
      refine whenRunning (f := fun s => { s with blinkLit := !s.blinkLit }) ?_ hw ht
      exact k.weaken _ (k.quiet s _ ⟨fun _ h => h, rfl⟩ h)
    | replyFirstByte l => exact whenRunning (k.weaken _ (k.poll _ _ (pollStep_takeFirstByte l s) h)) hw ht
    | _ => cases hc

end LeadsTo

/-- What makes a property of states one that every command keeps: quiet operations keep it, and so does the
work of each client and each event of the link. -/
structure KeptByParts (P : State → Prop) : Prop where
  quiet : ∀ s t : State, s.QuietTo t → P s → P t
  work : ∀ (p : Port) (r : Request) (s : State), refusedInMode s.mode r = false → P s → P (workOf p r s).2
  fetch : ∀ s : State, P s → P (gradingFetch s)
  apply : ∀ (c : GradeCopy) (k : Option GradeResult) (s : State), s.stillGrading c = true → P s →
    P (applyResult c k s)
  write : ∀ (s : State) (p : Piece), P s → P (s.writePiece p)
  frame : ∀ (s : State) (f : StampedFrame) (rest : List StampedFrame), s.fifo = f :: rest → P s →
    P (takeFrame f { s.closeRaises with fifo := rest }).2
  timer : ∀ s : State, P s → P (expireTimer s)
  poll : ∀ s t : State, PollStep s t → P s → P t
  pinLow : ∀ s : State, P s → P (resetPinLow s)

namespace KeptByParts

variable {P : State → Prop} (k : KeptByParts P)
include k

theorem leads : LeadsTo P P where
  quiet := k.quiet
  after := k.quiet
  weaken _ h := h
  work := k.work
  fetch := k.fetch
  apply := k.apply
  write := k.write
  frame := k.frame
  timer := k.timer
  poll := k.poll
  pinLow := k.pinLow

/-- Every command keeps the property. -/
theorem exec {c : Instr} {s t : State} (ht : exec c s = .next t) (h : P s) : P t := k.leads.exec ht h

/-- Every step keeps a property that does not read the queue of commands. -/
theorem step (rest : ∀ (s : State) (q : List Instr), P s → P { s with pending := q }) {s t : State}
    (h : P s) (ht : step s = .next t) : P t := by
  unfold Machine.step at ht
  split at ht
  · cases ht; exact h
  · exact k.leads.exec ht (rest s _ h)

end KeptByParts

end Sys2Proof.Machine
end

section
/-! PROOFS. Two shorter ways to a property that every command keeps: by the writes the item requests are made
of, and by the fields the configuration requests change. -/

namespace Sys2Proof.Machine

/-! ### The item requests as writes -/

/-- What makes a property of states one that the item requests, the decisions and the evidence writes keep:
each write they are made of keeps it. -/
structure KeptByItems (P : State → Prop) : Prop where
  bump : ∀ (s : State) (c : Counter), P s → P (s.bump c)
  setItem : ∀ (s : State) (i : Nat) (it : Item), P s → P (s.setItem i it)
  release : ∀ (s : State) (b : Nat), P s → P (s.releaseBin b)
  commit : ∀ (s : State) (b : Nat), P s → P (s.setBin b (s.bin b).commit)
  reserve : ∀ (s : State) (prefs : List Nat) (k b : Nat) (lane : Lane),
    s.searchBin prefs k lane = some b → P s → P (s.reserveBin b k)
  zones : ∀ (s : State) (f : Zone → Zone), P s → P (s.updateZones f)
  setManifest : ∀ (s : State) (l : Nat) (m : Manifest), P s → P (s.setManifest l m)
  setTray : ∀ (s : State) (tray : Nat) (e : TrayEntry), P s → P (s.setTray tray e)
  enqueue : ∀ (s : State) (i : Nat) (it : Item), P s → P (s.enqueue i it)
  erase : ∀ (s : State) (i : Nat), P s → P { s with gradeQueue := s.gradeQueue.erase i }
  ticket : ∀ s : State, P s → P { s with nextTicket := ticketAfter s.nextTicket }
  retire : ∀ (s : State) (i : Nat) (it : Item), P s → P (s.retire i it)

namespace KeptByItems

variable {P : State → Prop} (k : KeptByItems P)
include k

theorem releaseReservation {s : State} {it : Item} (h : P s) : P (s.releaseReservation it) := by
  unfold State.releaseReservation
  split
  · exact k.release s _ h
  · exact h

theorem redecide {s : State} {it : Item} (h : P s) : P (s.redecide it).2 :=
  k.bump _ _ (k.releaseReservation h)

theorem reallocate {s : State} {it : Item} {b : Nat} (h : P s) : P (s.reallocate it b).2 := by
  have hrel := k.release s b h
  unfold State.reallocate
  simp only
  split
  next hs => exact k.reserve _ _ _ _ _ hs hrel
  next => exact k.bump _ _ (k.bump _ _ hrel)

theorem reallocateIfBlocked {s : State} {it : Item} (h : P s) : P (s.reallocateIfBlocked it).2 := by
  unfold State.reallocateIfBlocked
  split
  · split
    · exact k.reallocate h
    · exact h
  · exact h

theorem countReceived {s : State} {label : Nat} (h : P s) : P (s.countReceived label) := by
  unfold State.countReceived
  split
  · split
    · exact k.setManifest _ _ _ h
    · exact k.bump _ _ h
  · exact h

theorem workInduct {tray label : Nat} {s : State} (h : P s) : P (workInduct tray label s).2 := by
  unfold Machine.workInduct
  split
  · exact h
  · split
    · exact h
    · split
      · exact h
      · have htray := fun e => k.bump _ .inducted
          (k.setTray _ tray e (k.ticket _ (k.countReceived (label := label) h)))
        simp only
        split
        · exact k.setItem _ _ _ (htray _)
        · exact k.enqueue _ _ _ (htray _)

theorem workDestination {tray : Nat} {s : State} (h : P s) : P (workDestination tray s).2 := by
  have hmissed : ∀ it : Item, P (if (s.bump .divertFailed).triesSpent it then
      (s.bump .divertFailed).redecide it else (s.bump .divertFailed).reallocateIfBlocked it).2 := by
    intro it
    split
    · exact k.redecide (k.bump _ _ h)
    · exact k.reallocateIfBlocked (k.bump _ _ h)
  unfold Machine.workDestination
  split
  · exact h
  · split
    · exact h
    · split
      · unfold destinationOpen
        simp only
        split
        · exact k.bump _ _ (k.enqueue _ _ _ h)
        · split <;> exact k.bump _ _ (k.setItem _ _ _ h)
      · exact k.bump _ _ (k.setItem _ _ _ h)
      · exact k.bump _ _ (k.setItem _ _ _ h)
      · exact k.setItem _ _ _ (k.reallocateIfBlocked h)
      · exact k.setItem _ _ _ (hmissed _)
      · exact h
      · exact h

theorem workDiverted {tray chute : Nat} {s : State} (h : P s) : P (workDiverted tray chute s).2 := by
  unfold Machine.workDiverted
  split
  · exact h
  · split
    · exact h
    · split
      · exact h
      · split
        · refine k.retire _ _ _ ?_
          split
          · exact k.commit s _ h
          · exact h
        · exact k.retire _ _ _ (k.bump _ _ (k.releaseReservation h))

theorem workDivertFailed {tray cause : Nat} {s : State} (h : P s) :
    P (workDivertFailed tray cause s).2 := by
  unfold Machine.workDivertFailed
  split
  · exact h
  · split
    · exact h
    · split
      · exact h
      · split
        · exact h
        next c _ _ i it _ _ =>
          have hz : P (if c = .chuteFull then
              (s.bump .divertFailed).updateZones (Zone.blockFor (it.attemptDone.chute.getD 0))
              else s.bump .divertFailed) := by
            split
            · exact k.zones _ _ (k.bump _ _ h)
            · exact k.bump _ _ h
          generalize hu : (if c = .chuteFull then
              (s.bump .divertFailed).updateZones (Zone.blockFor (it.attemptDone.chute.getD 0))
              else s.bump .divertFailed) = u at hz
          have hd : ∀ it' : Item, P (if u.triesSpent it' then u.redecide it' else (it', u)).2 := by
            intro it'
            split
            · exact k.redecide hz
            · exact hz
          subst hu
          exact k.setItem _ _ _ (hd _)

theorem workTrayCleared {tray : Nat} {s : State} (h : P s) : P (workTrayCleared tray s).2 := by
  unfold Machine.workTrayCleared
  split
  · exact h
  · split
    · exact h
    · refine k.retire _ _ _ (k.bump _ _ ?_)
      split
      · exact k.erase _ _ (k.releaseReservation h)
      · exact k.releaseReservation h

theorem placeItem {s : State} {c : GradeCopy} {it : Item} {d : Disposition} {r : Reason} (h : P s) :
    P (s.placeItem c it d r).2 := by
  unfold State.placeItem
  split
  · exact h
  · split
    next hs =>
      simp only
      split
      · exact k.reserve _ _ _ _ _ hs h
      · exact h
    next => exact k.bump _ _ h

theorem countDecision {s : State} {g : Option GradeResult} {it : Item} (h : P s) :
    P (s.countDecision g it) := by
  have hg : P (match g with | some r => s.bump r.grade.counter | none => s) := by
    split
    · exact k.bump _ _ h
    · exact h
  unfold State.countDecision
  simp only
  split
  · exact k.bump _ _ hg
  · exact hg

theorem applyResult (c : GradeCopy) (g : Option GradeResult) {s : State} (h : P s) :
    P (applyResult c g s) :=
  k.setItem _ _ _ (k.countDecision (k.placeItem h))

theorem writePiece {s : State} {p : Piece} (h : P s) : P (s.writePiece p) := by
  unfold State.writePiece
  split
  · split
    · exact k.bump _ _ h
    · split
      · simp only
        split
        · exact k.enqueue _ _ _ h
        · exact k.setItem _ _ _ h
      · exact k.bump _ _ (k.setItem _ _ _ h)
  · exact k.bump _ _ h

end KeptByItems

/-- A property that quiet operations and every change of the Grade Queue keep is one of these. -/
structure KeptByWrites (P : State → Prop) : Prop where
  quiet : ∀ s t : State, s.QuietTo t → P s → P t
  setItem : ∀ (s : State) (i : Nat) (it : Item), P s → P (s.setItem i it)
  release : ∀ (s : State) (b : Nat), P s → P (s.releaseBin b)
  commit : ∀ (s : State) (b : Nat), P s → P (s.setBin b (s.bin b).commit)
  reserve : ∀ (s : State) (prefs : List Nat) (k b : Nat) (lane : Lane),
    s.searchBin prefs k lane = some b → P s → P (s.reserveBin b k)
  zones : ∀ (s : State) (f : Zone → Zone), P s → P (s.updateZones f)
  setManifest : ∀ (s : State) (l : Nat) (m : Manifest), P s → P (s.setManifest l m)
  setTray : ∀ (s : State) (tray : Nat) (e : TrayEntry), P s → P (s.setTray tray e)
  queue : ∀ (s : State) (q : List Nat), P s → P { s with gradeQueue := q }
  ticket : ∀ s : State, P s → P { s with nextTicket := ticketAfter s.nextTicket }
  retire : ∀ (s : State) (i : Nat) (it : Item), P s → P (s.retire i it)

namespace KeptByWrites

variable {P : State → Prop} (k : KeptByWrites P)
include k

theorem enqueue {s : State} {i : Nat} {it : Item} (h : P s) : P (s.enqueue i it) := by
  have hq := k.queue _ (s.gradeQueue ++ [i]) (k.setItem s i { it with state := .queued } h)
  unfold State.enqueue
  simp only
  split
  · exact k.quiet _ _ ((State.quietTo_grader _ _).trans (State.quietTo_postWaiting _ _)) hq
  · exact hq

theorem toItems : KeptByItems P where
  bump s c h := k.quiet _ _ (s.quietTo_bump c) h
  setItem := k.setItem
  release := k.release
  commit := k.commit
  reserve := k.reserve
  zones := k.zones
  setManifest := k.setManifest
  setTray := k.setTray
  enqueue _ _ _ := k.enqueue
  erase s _ := k.queue s _
  ticket := k.ticket
  retire := k.retire

theorem gradingFetch {s : State} (h : P s) : P (gradingFetch s) := by
  unfold Machine.gradingFetch
  split
  · exact k.quiet _ _ (s.quietTo_grader _) h
  next i rest _ =>
    have hq := k.quiet _ _ (State.quietTo_grader _ (.computing (s.gradeCopy i)))
      (k.queue _ rest (k.setItem s i { s.item i with state := .grading } h))
    simp only
    split
    · exact k.quiet _ _ (State.quietTo_arbiter _ _) hq
    · exact hq

end KeptByWrites

/-! ### The configuration requests -/

/-- `t` is `s` but for the tables of the configuration, the settle and scan contexts, the round controller and
what a quiet operation changes. -/
def State.ConfigTo (s t : State) : Prop :=
  ∃ (manifests : Table Manifest) (classes : Table ClassRecord) (line : LineSettings) (zones : Table Zone)
    (stations : Table Station) (link : LinkSettings) (schedule : Table Poll) (settle : Table SettleContext)
    (scan0 scan1 : ScanContext) (controller : RoundController),
    State.QuietTo { s with
      manifests := manifests, classes := classes, line := line, zones := zones, stations := stations
      link := link, schedule := schedule, settle := settle, scan0 := scan0, scan1 := scan1
      controller := controller } t

theorem State.QuietTo.configTo {s t : State} (h : s.QuietTo t) : s.ConfigTo t :=
  ⟨s.manifests, s.classes, s.line, s.zones, s.stations, s.link, s.schedule, s.settle, s.scan0, s.scan1,
    s.controller, h⟩

theorem State.ConfigTo.refl (s : State) : s.ConfigTo s := (State.QuietTo.refl s).configTo

theorem State.ConfigTo.trans {s t u : State} (hst : s.ConfigTo t) (htu : t.ConfigTo u) : s.ConfigTo u := by
  obtain ⟨_, _, _, _, _, _, _, _, _, _, _, hb, he⟩ := hst
  obtain ⟨m, c, l, z, st, lk, sc, se, s0, s1, co, hb', he'⟩ := htu
  refine ⟨m, c, l, z, st, lk, sc, se, s0, s1, co, fun i h => hb' i (hb i h), ?_⟩
  rw [he] at he'
  exact he'

theorem State.configTo_setManifest (s : State) (l : Nat) (m : Manifest) : s.ConfigTo (s.setManifest l m) :=
  ⟨(s.setManifest l m).manifests, s.classes, s.line, s.zones, s.stations, s.link, s.schedule, s.settle,
    s.scan0, s.scan1, s.controller, .refl _⟩

theorem State.configTo_removeManifest (s : State) (l : Nat) : s.ConfigTo (s.removeManifest l) :=
  ⟨(s.removeManifest l).manifests, s.classes, s.line, s.zones, s.stations, s.link, s.schedule, s.settle,
    s.scan0, s.scan1, s.controller, .refl _⟩

theorem State.configTo_classes (s : State) (t : Table ClassRecord) : s.ConfigTo { s with classes := t } :=
  ⟨s.manifests, t, s.line, s.zones, s.stations, s.link, s.schedule, s.settle, s.scan0, s.scan1, s.controller,
    .refl _⟩

theorem State.configTo_line (s : State) (l : LineSettings) : s.ConfigTo { s with line := l } :=
  ⟨s.manifests, s.classes, l, s.zones, s.stations, s.link, s.schedule, s.settle, s.scan0, s.scan1,
    s.controller, .refl _⟩

theorem State.configTo_zones (s : State) (t : Table Zone) : s.ConfigTo { s with zones := t } :=
  ⟨s.manifests, s.classes, s.line, t, s.stations, s.link, s.schedule, s.settle, s.scan0, s.scan1,
    s.controller, .refl _⟩

theorem State.configTo_stations (s : State) (t : Table Station) : s.ConfigTo { s with stations := t } :=
  ⟨s.manifests, s.classes, s.line, s.zones, t, s.link, s.schedule, s.settle, s.scan0, s.scan1,
    s.controller, .refl _⟩

theorem State.configTo_link (s : State) (l : LinkSettings) : s.ConfigTo { s with link := l } :=
  ⟨s.manifests, s.classes, s.line, s.zones, s.stations, l, s.schedule, s.settle, s.scan0, s.scan1,
    s.controller, .refl _⟩

theorem State.configTo_schedule (s : State) (t : Table Poll) : s.ConfigTo { s with schedule := t } :=
  ⟨s.manifests, s.classes, s.line, s.zones, s.stations, s.link, t, s.settle, s.scan0, s.scan1, s.controller,
    .refl _⟩

theorem State.configTo_settle (s : State) (t : Table SettleContext) : s.ConfigTo { s with settle := t } :=
  ⟨s.manifests, s.classes, s.line, s.zones, s.stations, s.link, s.schedule, t, s.scan0, s.scan1,
    s.controller, .refl _⟩

theorem State.configTo_scans (s : State) (c d : ScanContext) : s.ConfigTo { s with scan0 := c, scan1 := d } :=
  ⟨s.manifests, s.classes, s.line, s.zones, s.stations, s.link, s.schedule, s.settle, c, d, s.controller,
    .refl _⟩

theorem State.configTo_setSettle (s : State) (a : Nat) (c : Option SettleContext) :
    s.ConfigTo (s.setSettle a c) := by
  obtain ⟨t, h⟩ := s.setSettle_frame a c
  rw [h]
  exact s.configTo_settle t

theorem State.configTo_setScheduleEntry (s : State) (i : Nat) (e : Option Poll) :
    s.ConfigTo (s.setScheduleEntry i e) := by
  obtain ⟨t, h⟩ := s.setScheduleEntry_frame i e
  rw [h]
  exact s.configTo_schedule t

/-- What makes a property of states one that the configuration requests keep: each write they are made of
keeps it. -/
structure KeptByConfig (P : State → Prop) : Prop where
  counts : ∀ s t : State, s.CountsTo t → P s → P t
  setManifest : ∀ (s : State) (l : Nat) (m : Manifest), P s → P (s.setManifest l m)
  removeManifest : ∀ (s : State) (l : Nat), P s → P (s.removeManifest l)
  setClass : ∀ (s : State) (n : Nat) (r : ClassRecord), P s → P (s.setClass n r)
  clearClass : ∀ (s : State) (n : Nat), P s → P (s.clearClass n)
  line : ∀ (s : State) (l : LineSettings), P s → P { s with line := l }
  setZone : ∀ (s : State) (z : Nat) (r : Zone), P s → P (s.setZone z r)
  zones : ∀ (s : State) (f : Zone → Zone), P s → P (s.updateZones f)
  setStation : ∀ (s : State) (a : Nat) (e : Station), P s → P (s.setStation a e)
  settings : ∀ (s : State) (l : LinkSettings), P s → P { s with link := l }
  schedule : ∀ (s : State) (i : Nat) (e : Option Poll), P s → P (s.setScheduleEntry i e)
  setSettle : ∀ (s : State) (a : Nat) (c : Option SettleContext), P s → P (s.setSettle a c)
  scans : ∀ (s : State) (c d : ScanContext), P s → P { s with scan0 := c, scan1 := d }

/-- A property that reads none of the configuration's tables is one of these. -/
theorem KeptByConfig.of_configTo {P : State → Prop} (h : ∀ s t : State, s.ConfigTo t → P s → P t) :
    KeptByConfig P where
  counts s t ht := h s t ht.quietTo.configTo
  setManifest s l m := h s _ (s.configTo_setManifest l m)
  removeManifest s l := h s _ (s.configTo_removeManifest l)
  setClass s _ _ := h s _ (s.configTo_classes _)
  clearClass s _ := h s _ (s.configTo_classes _)
  line s l := h s _ (s.configTo_line l)
  setZone s _ _ := h s _ (s.configTo_zones _)
  zones s _ := h s _ (s.configTo_zones _)
  setStation s _ _ := h s _ (s.configTo_stations _)
  settings s l := h s _ (s.configTo_link l)
  schedule s i e := h s _ (s.configTo_setScheduleEntry i e)
  setSettle s a c := h s _ (s.configTo_setSettle a c)
  scans s c d := h s _ (s.configTo_scans c d)

namespace KeptByConfig

variable {P : State → Prop} (k : KeptByConfig P)
include k

theorem setScan {s : State} {b : Bool} {c : ScanContext} (h : P s) : P (s.setScan b c) := by
  obtain ⟨c0, c1, e⟩ := s.setScan_frame b c
  rw [e]
  exact k.scans s c0 c1 h

theorem replaceStation {s : State} {a : Nat} {c : StationConfig} (h : P s) : P (s.replaceStation a c) := by
  have hscan : ∀ (u : State) (e : Station), P u → P (u.rebindScan a e) := by
    intro u e hu
    obtain ⟨c0, c1, he⟩ := u.rebindScan_frame a e
    rw [he]
    exact k.scans u c0 c1 hu
  have hset := k.setStation s a { config := c, run := .atReset } h
  unfold State.replaceStation
  rw [State.rebindContexts_eq]
  refine hscan _ _ ?_
  split
  · exact k.setSettle _ _ _ hset
  · exact hset

theorem writeSchedule {es : List (Option Poll)} : ∀ {i : Nat} {s : State}, P s →
    P (State.writeSchedule i es s) := by
  induction es with
  | nil => exact fun h => h
  | cons e es ih => exact fun h => ih (k.schedule _ _ e h)

end KeptByConfig

theorem State.countsTo_closeSettle (s : State) (c : SettleContext) : s.CountsTo (s.closeSettle c) := by
  unfold State.closeSettle
  split
  · exact .refl s
  · exact s.countsTo_bump _

/-- What a WEIGH frame leaves: its station's settle context, and counters. -/
theorem takeWeigh_frame (a tray : Nat) (stamp : Option Nat) (isEnd : Bool) (samples : List Sample) (s : State) :
    ∃ u c, s.CountsTo u ∧ (takeWeigh a tray stamp isEnd samples s).2 = u.setSettle a c := by
  unfold takeWeigh
  cases isEnd with
  | true =>
    simp only [if_true]
    refine ⟨_, _, State.CountsTo.trans ?_ (State.countsTo_closeSettle _ _), rfl⟩
    split
    · exact s.countsTo_closeSettle _
    · exact .refl s
  | false =>
    simp only [Bool.false_eq_true, if_false]
    refine ⟨_, _, ?_, rfl⟩
    split
    · exact s.countsTo_closeSettle _
    · exact .refl s

/-- The requests whose work writes the items, and COLLECT. -/
def movesItems : Request → Bool
  | .induct .. | .destination .. | .diverted .. | .divertFailed .. | .trayCleared .. | .collect => true
  | _ => false

/-- The item requests keep such a property where COLLECT does. -/
theorem KeptByItems.items {P : State → Prop} (k : KeptByItems P)
    (collect : ∀ s : State, P s → P (workCollect s).2) (p : Port) (r : Request) (s : State)
    (hr : movesItems r = true) (h : P s) : P (workOf p r s).2 := by
  cases r with
  | induct => exact k.workInduct h
  | destination => exact k.workDestination h
  | diverted => exact k.workDiverted h
  | divertFailed => exact k.workDivertFailed h
  | trayCleared => exact k.workTrayCleared h
  | collect => exact collect s h
  | _ => cases hr

/-- The requests whose work writes the round controller, and the resets. -/
def movesLink : Request → Bool
  | .scheduleStart .. | .scheduleStage .. | .scheduleCancel | .singlePoll .. | .modeSet .. | .fullReset
  | .lineRestart => true
  | _ => false

/-- What makes a property of states one that a frame taken, a reply judged and its outcome keep. -/
structure KeptByFrames (P : State → Prop) : Prop where
  config : KeptByConfig P
  fifo : ∀ (s : State) (q : List StampedFrame),
    q.length ≤ max s.fifo.length Config.fifoFrames → P s → P { s with fifo := q }

namespace KeptByFrames

variable {P : State → Prop} (k : KeptByFrames P)
include k

theorem takeFrame {f : StampedFrame} {s : State} (h : P s) : P (takeFrame f s).2 := by
  unfold Machine.takeFrame
  simp only
  split
  · exact h
  · exact h
  next isEnd samples _ =>
    obtain ⟨u, c, hq, e⟩ := takeWeigh_frame f.station f.tray f.stamp isEnd samples s
    rw [e]
    exact k.config.setSettle u _ c (k.config.counts _ _ hq h)
  · unfold takeScan
    split
    · exact h
    · refine k.config.counts _ _ (State.countsTo_bumpBy _ _ _) (k.config.setScan ?_)
      split
      · exact k.config.counts _ _ (s.countsTo_bump _) h
      · exact h

theorem offer {s : State} {f : StampedFrame} (h : P s) : P (s.offerFrame f) := by
  rcases s.offerFrame_frame f with hq | ⟨hlt, hq⟩
  · exact k.config.counts _ _ hq h
  · refine k.config.counts _ _ hq (k.fifo s _ ?_ h)
    rw [List.length_append, List.length_singleton]
    exact le_max_of_le_right hlt

theorem frame {f : StampedFrame} {rest : List StampedFrame} {s : State} (hf : s.fifo = f :: rest) (h : P s) :
    P (Machine.takeFrame f { s.closeRaises with fifo := rest }).2 := by
  refine k.takeFrame (k.fifo s.closeRaises rest ?_ (k.config.counts _ _ s.countsTo_closeRaises h))
  have : rest.length ≤ s.fifo.length := by rw [hf]; exact Nat.le_succ _
  exact le_max_of_le_left this

theorem judge {f : InFlight} {frame : List Byte} {s : State} (h : P s) : P (s.judgeReply f frame) :=
  State.judgeReply_keeps k.config.counts k.config.setStation (fun _ _ => k.offer) h f frame

theorem record {a : Nat} {good : Bool} {s : State} (h : P s) : P (s.recordOutcome a good) := by
  obtain ⟨u, e, hq, -, he⟩ := s.recordOutcome_frame a good
  rw [he]
  exact k.config.setStation _ _ _ (k.config.counts _ _ hq h)

end KeptByFrames

/-- The requests that change the configuration's tables and settings, or read them. -/
def configures : Request → Bool
  | .chuteClear .. | .lineSet .. | .stationSet .. | .classWrite .. | .classRead .. | .classClear ..
  | .manifestPost .. | .manifestWithdraw .. | .manifestRead .. | .zoneSet .. | .slotSet .. | .slotAdjust ..
  | .slotRelease .. | .slotRead .. | .scheduleWrite .. | .linkSet .. => true
  | _ => false

/-- What makes a property of states one that these requests keep. -/
structure KeptBySettings (P : State → Prop) : Prop extends KeptByFrames P where
  slotSet : ∀ (s : State) (b : Nat) (n : SlotSettings), (s.bin b).settingsRefused s.mode n = false → P s →
    P (s.setBin b ((s.bin b).withSettings n))
  slotAdjust : ∀ (s : State) (b n : Nat) (c : Option Nat), P s → P (s.setBin b ((s.bin b).adjust n c))
  slotRelease : ∀ (s : State) (b n : Nat), P s →
    P (s.setBin b { s.bin b with committed := (s.bin b).committed - n }.settleClass)

theorem KeptBySettings.work {P : State → Prop} (k : KeptBySettings P) {p : Port} {r : Request} {s : State}
    (hr : configures r = true) (h : P s) : P (workOf p r s).2 := by
  have of : ∀ {u v : State}, u = v → P v → P u := fun e hv => e ▸ hv
  cases r with
  | chuteClear c =>
    rcases workChuteClear_frame c s with e | e
    · exact of e h
    · exact of e (k.config.zones _ _ h)
  | lineSet o =>
    obtain ⟨l, e⟩ := workLineSet_frame o s
    exact of e (k.config.line _ _ h)
  | stationSet a o =>
    rcases workStationSet_frame a o s with e | ⟨c, e⟩
    · exact of e h
    · exact of e (k.config.replaceStation h)
  | classWrite n o =>
    rcases workClassWrite_frame n o s with e | ⟨r, e⟩
    · exact of e h
    · exact of e (k.config.setClass _ _ _ h)
  | classRead n => exact of (workClassRead_state n s) h
  | classClear n =>
    rcases workClassClear_frame n s with e | e
    · exact of e h
    · exact of e (k.config.clearClass _ _ h)
  | manifestPost o =>
    rcases workManifestPost_frame o s with e | ⟨m, e⟩
    · exact of e h
    · exact of e (k.config.setManifest _ _ _ h)
  | manifestWithdraw l =>
    rcases workManifestWithdraw_frame l s with e | e
    · exact of e h
    · exact of e (k.config.removeManifest _ _ h)
  | manifestRead l => exact of (workManifestRead_state l s) h
  | zoneSet z c n =>
    rcases workZoneSet_frame z c n s with e | ⟨r, e⟩
    · exact of e h
    · exact of e (k.config.setZone _ _ _ h)
  | slotSet b o =>
    rcases workSlotSet_frame b o s with e | ⟨n, hn, e⟩
    · exact of e h
    · exact of e (k.slotSet s b n hn h)
  | slotAdjust b n c =>
    rcases workSlotAdjust_frame b n c s with e | ⟨c', e⟩
    · exact of e h
    · exact of e (k.slotAdjust s b n c' h)
  | slotRelease b n =>
    rcases workSlotRelease_frame b n s with e | ⟨m, e⟩
    · exact of e h
    · exact of e (k.slotRelease s b m h)
  | slotRead b => exact of (workSlotRead_state b s) h
  | scheduleWrite i es =>
    rcases workScheduleWrite_frame i es s with e | ⟨ps, e⟩
    · exact of e h
    · exact of e (k.config.writeSchedule h)
  | linkSet a b c =>
    obtain ⟨l, e⟩ := workLinkSet_frame a b c s
    exact of e (k.config.settings _ _ h)
  | _ => cases hr

/-- What makes a property of states one that all keep but the requests and events of the round controller
and the resets. -/
structure KeptByTables (P : State → Prop) : Prop extends KeptBySettings P where
  quiet : ∀ s t : State, s.QuietTo t → P s → P t
  snapshot : ∀ s : State, P s → P (workCountersSnapshot s).2
  items : ∀ (p : Port) (r : Request) (s : State), movesItems r = true → P s → P (workOf p r s).2
  fetch : ∀ s : State, P s → P (gradingFetch s)
  apply : ∀ (c : GradeCopy) (k : Option GradeResult) (s : State), s.stillGrading c = true → P s →
    P (applyResult c k s)
  write : ∀ (s : State) (p : Piece), P s → P (s.writePiece p)

namespace KeptByTables

variable {P : State → Prop} (k : KeptByTables P)
include k

theorem work {p : Port} {r : Request} {s : State} (hr : movesLink r = false) (h : P s) : P (workOf p r s).2 := by
  have quiet : ∀ t : State, s.QuietTo t → P t := fun t ht => k.quiet _ _ ht h
  cases hc : configures r with
  | true => exact k.toKeptBySettings.work hc h
  | false =>
    cases hi : movesItems r with
    | true => exact k.items p r s hi h
    | false =>
      cases r with
      | status => exact h
      | tableLimits => exact h
      | itemQuery => exact quiet _ (quietTo_workItemQuery _ _ s)
      | attentionMask => exact quiet _ (quietTo_workAttentionMask _ _ s)
      | statusClear => exact quiet _ (quietTo_workStatusClear _ s)
      | arbiterSet => exact quiet _ (quietTo_workArbiterSet _ _ s)
      | holdBegin => exact quiet _ (quietTo_workHoldBegin s)
      | holdEnd => exact quiet _ (quietTo_workHoldEnd s)
      | countersSnapshot => exact k.snapshot s h
      | countersRead => exact h
      | lampSet a b c => exact quiet _ (quietTo_workLampSet a b c s)
      | _ => simp [configures, movesItems, movesLink] at hc hi hr

end KeptByTables

/-- What makes a property of states one that every command keeps: it reads neither the round controller nor,
on a line that is not empty, the mode. -/
structure KeptByCore (P : State → Prop) : Prop extends KeptByTables P where
  link : ∀ s t : State, s.LinkTo t → P s → P t
  mode : ∀ (s : State) (m : Mode), s.liveItems = 0 → P s → P { s with mode := m }
  restart : ∀ s : State, P s → P (lineRestartBlocks s)
  reset : ∀ s : State, P s → P s.resetBlocks

/-- Such a property is one that every command keeps. -/
theorem KeptByCore.parts {P : State → Prop} (k : KeptByCore P) : KeptByParts P where
  quiet := k.quiet
  work p r s _ h := by
    have link : ∀ t : State, s.LinkTo t → P t := fun t ht => k.link _ _ ht h
    cases hr : movesLink r with
    | false => exact k.work hr h
    | true =>
      cases r with
      | modeSet m =>
        rcases workModeSet_frame m s with e | ⟨m', hl, e⟩
        · exact (congrArg P e).mpr h
        · obtain ⟨c, hc⟩ := s.changeMode_frame m'
          exact (congrArg P (e.trans hc)).mpr (k.link _ _
            (State.linkTo_withController { s with mode := m' } fun _ => c) (k.mode s m' hl h))
      | fullReset =>
        have hq : s.resetBlocks.QuietTo (fullResetBlocks s) := ⟨fun _ h => h, rfl⟩
        exact k.quiet _ _ hq (k.reset s h)
      | lineRestart => exact k.restart s h
      | scheduleStart o => exact link _ (linkTo_workScheduleStart o s)
      | scheduleStage o => exact link _ (linkTo_workScheduleStage o s)
      | scheduleCancel => exact link _ (linkTo_workScheduleCancel s)
      | singlePoll a n => exact link _ (linkTo_workSinglePoll a n s)
      | _ => cases hr
  fetch := k.fetch
  apply := k.apply
  write := k.write
  frame _ _ _ hf h := k.frame hf h
  timer s h := k.link _ _ (linkTo_expireTimer s) h
  poll s t ht h := by
    cases ht with
    | same => exact h
    | phase f ph => exact k.link _ _ (State.linkTo_withController _ _) h
    | bad f => exact k.link _ _ (State.linkTo_moveOn _ _) (k.record h)
    | judged f frame => exact k.link _ _ (State.linkTo_moveOn _ _) (k.judge h)
  pinLow s h := k.quiet s.resetBlocks _ ⟨fun _ h => h, rfl⟩ (k.reset s h)

end Sys2Proof.Machine
end

section
/-! PROOFS. No command stops the part or touches the queue of commands (R126, R166). -/

namespace Sys2Proof.Machine

/-- Every command answers a next state. -/
theorem exec_next (c : Instr) (s : State) : ∃ t, exec c s = .next t := by
  cases c with
  | writeRequestOverrun p m mosi =>
    unfold exec execWriteRequestOverrun
    simp only
    split <;> exact ⟨_, rfl⟩
  | _ => exact ⟨_, rfl⟩

theorem State.queueReport_frame (s : State) (r : Report) :
    ∃ u v, s.queueReport r = { s with urgent := u, routine := v } := by
  unfold State.queueReport
  split <;> exact ⟨_, _, rfl⟩

/-- What a retirement leaves alone. -/
theorem State.retire_frame (s : State) (i : Nat) (it : Item) :
    ∃ items urgent routine waitList, s.retire i it =
      { s.clearTray it.tray with items := items, urgent := urgent, routine := routine, waitList := waitList } := by
  unfold State.retire
  simp only
  split
  · exact ⟨_, _, _, _, rfl⟩
  · obtain ⟨u, v, h⟩ := (s.clearTray it.tray).queueReport_frame (Report.ofItem (s.clearTray it.tray).mode it)
    rw [h]
    exact ⟨_, _, _, _, rfl⟩

theorem State.serveWaitList_frame (s : State) :
    ∃ items urgent routine waitList, s.serveWaitList =
      { s with items := items, urgent := urgent, routine := routine, waitList := waitList } := by
  unfold State.serveWaitList
  split
  · exact ⟨_, _, _, _, rfl⟩
  next i rest _ =>
    obtain ⟨u, v, h⟩ := State.queueReport_frame { s with waitList := rest } (Report.ofItem s.mode (s.item i))
    exact ⟨_, u, v, rest, congrArg (fun t : State => t.setItem i Item.empty) h⟩

/-- What COLLECT leaves alone. -/
theorem workCollect_frame (s : State) :
    ∃ items urgent routine waitList, (workCollect s).2 =
      { s with items := items, urgent := urgent, routine := routine, waitList := waitList } := by
  unfold workCollect
  split
  next r rest _ => exact State.serveWaitList_frame { s with urgent := rest }
  next r rest _ _ => exact State.serveWaitList_frame { s with routine := rest }
  · exact ⟨_, _, _, _, rfl⟩

theorem State.restartSorter_quiet (s : State) : s.QuietTo s.restartSorter := by
  unfold State.restartSorter
  split
  · exact s.quietTo_respond _ _ _ _
  · exact .refl s

/-- The queue of commands is kept by every command. -/
theorem keptByCore_pending (q : List Instr) : KeptByCore (fun s => s.pending = q) := by
  have hquiet : ∀ s t : State, s.QuietTo t → s.pending = q → t.pending = q := by
    rintro s t ⟨-, e⟩ h
    rw [e]; exact h
  have w : KeptByWrites (fun s => s.pending = q) :=
    { quiet := hquiet
      setItem := fun _ _ _ h => h
      release := fun _ _ h => h
      commit := fun _ _ h => h
      reserve := fun _ _ _ _ _ _ h => h
      zones := fun _ _ h => h
      setManifest := fun _ _ _ h => h
      setTray := fun _ _ _ h => h
      queue := fun _ _ h => h
      ticket := fun _ h => h
      retire := fun s i it h => by
        obtain ⟨_, _, _, _, e⟩ := s.retire_frame i it
        rw [e]; exact h }
  exact
    { quiet := hquiet
      config := .of_configTo fun s t ht h => by
        obtain ⟨_, _, _, _, _, _, _, _, _, _, _, -, e⟩ := ht
        rw [e]; exact h
      link := fun s t ht h => by
        obtain ⟨_, _, -, e⟩ := ht
        rw [e]; exact h
      fifo := fun _ _ _ h => h
      snapshot := fun _ h => h
      mode := fun _ _ _ h => h
      slotSet := fun _ _ _ _ h => h
      slotAdjust := fun _ _ _ _ h => h
      slotRelease := fun _ _ _ h => h
      items := w.toItems.items fun s h => by
        obtain ⟨_, _, _, _, e⟩ := workCollect_frame s
        rw [e]; exact h
      fetch := fun _ => w.gradingFetch
      apply := fun c g _ _ => w.toItems.applyResult c g
      write := fun _ _ => w.toItems.writePiece
      restart := fun s h => hquiet _ _ (State.restartSorter_quiet _) h
      reset := fun _ h => h }

/-- Settles O2: every command answers a next state, and what keeps the queue of commands is kept by all of its
parts. -/
theorem execAnswersNextAndKeepsQueue : Obligations.ExecAnswersNextAndKeepsQueue := by
  intro c s
  obtain ⟨t, ht⟩ := exec_next c s
  exact ⟨t, ht, (keptByCore_pending s.pending).parts.exec ht rfl⟩

end Sys2Proof.Machine
end

section
/-! PROOFS. The pool, the limits and the canonical tables, kept by every step. -/

namespace Sys2Proof.Machine

/-! ### The report pool and the wait list (R23, R175) -/

theorem State.queueReport_length (s : State) (r : Report) :
    (s.queueReport r).urgent.length + (s.queueReport r).routine.length =
      s.urgent.length + s.routine.length + 1 := by
  unfold State.queueReport
  split
  · simp [Nat.add_assoc]
  · simp [Nat.add_right_comm]

theorem State.retire_keeps_poolLaw {s : State} {i : Nat} {it : Item} (h : s.PoolLaw) :
    (s.retire i it).PoolLaw := by
  obtain ⟨hle, hwait⟩ := h
  by_cases hfree : s.urgent.length + s.routine.length < Config.reportRecords
  · have hempty : s.waitList = [] := by
      by_contra hne
      exact absurd (hwait hne) (Nat.ne_of_lt hfree)
    rw [State.retire_of_free hfree]
    have hlen := (s.clearTray it.tray).queueReport_length (Report.ofItem s.mode it)
    refine ⟨?_, fun hne => absurd ?_ hne⟩
    · show _ + _ ≤ _
      simp only [State.setItem_urgent, State.setItem_routine, hlen, State.clearTray_urgent,
        State.clearTray_routine]
      exact hfree
    · simpa using hempty
  · have hfull : s.urgent.length + s.routine.length = Config.reportRecords :=
      Nat.le_antisymm hle (Nat.not_lt.1 hfree)
    rw [State.retire_of_full hfull.ge]
    exact ⟨hle, fun _ => hfull⟩

/-- A record taken out of a queue goes to the oldest item on the wait list. -/
theorem State.serveWaitList_keeps_poolLaw {s : State}
    (hle : s.urgent.length + s.routine.length + 1 ≤ Config.reportRecords)
    (hwait : s.waitList ≠ [] → s.urgent.length + s.routine.length + 1 = Config.reportRecords) :
    s.serveWaitList.PoolLaw := by
  unfold State.serveWaitList
  split
  next h => exact ⟨Nat.le_of_succ_le hle, fun hne => absurd h hne⟩
  next i rest h =>
    have hlen := State.queueReport_length { s with waitList := rest } (Report.ofItem s.mode (s.item i))
    have heq := hwait (by rw [h]; exact List.cons_ne_nil _ _)
    refine ⟨?_, fun _ => ?_⟩
    · exact (hlen.trans heq).le
    · exact hlen.trans heq

theorem workCollect_keeps_poolLaw {s : State} (h : s.PoolLaw) : (workCollect s).2.PoolLaw := by
  obtain ⟨hle, hwait⟩ := h
  unfold workCollect
  split
  next r rest hu =>
    rw [hu, List.length_cons] at hle hwait
    exact State.serveWaitList_keeps_poolLaw (s := { s with urgent := rest })
      (by simp only; omega) (fun hne => by have := hwait hne; simp only; omega)
  next r rest hu hr =>
    rw [hr, List.length_cons] at hle hwait
    exact State.serveWaitList_keeps_poolLaw (s := { s with routine := rest })
      (by simp only; omega) (fun hne => by have := hwait hne; simp only; omega)
  · exact ⟨hle, hwait⟩

theorem keptByCore_poolLaw : KeptByCore State.PoolLaw := by
  have hquiet : ∀ s t : State, s.QuietTo t → s.PoolLaw → t.PoolLaw := by
    rintro s t ⟨-, e⟩ h
    rw [e]; exact h
  have w : KeptByWrites State.PoolLaw :=
    { quiet := hquiet
      setItem := fun _ _ _ h => h
      release := fun _ _ h => h
      commit := fun _ _ h => h
      reserve := fun _ _ _ _ _ _ h => h
      zones := fun _ _ h => h
      setManifest := fun _ _ _ h => h
      setTray := fun _ _ _ h => h
      queue := fun _ _ h => h
      ticket := fun _ h => h
      retire := fun _ _ _ => State.retire_keeps_poolLaw }
  exact
    { quiet := hquiet
      config := .of_configTo fun s t ht h => by
        obtain ⟨_, _, _, _, _, _, _, _, _, _, _, -, e⟩ := ht
        rw [e]; exact h
      link := fun s t ht h => by
        obtain ⟨_, _, -, e⟩ := ht
        rw [e]; exact h
      fifo := fun _ _ _ h => h
      snapshot := fun _ h => h
      mode := fun _ _ _ h => h
      slotSet := fun _ _ _ _ h => h
      slotAdjust := fun _ _ _ _ h => h
      slotRelease := fun _ _ _ h => h
      items := w.toItems.items fun _ => workCollect_keeps_poolLaw
      fetch := fun _ => w.gradingFetch
      apply := fun c g _ _ => w.toItems.applyResult c g
      write := fun _ _ => w.toItems.writePiece
      restart := fun _ h => hquiet _ _ (State.restartSorter_quiet _) ⟨h.1, fun hne => absurd rfl hne⟩
      reset := fun _ _ => ⟨Nat.zero_le _, fun hne => absurd rfl hne⟩ }

/-! ### The limits (R2, R67, R180) -/

/-- The limits but for those that hold of every counter. -/
theorem State.limitLaw_iff (s : State) : s.LimitLaw ↔
    s.fifo.length ≤ Config.fifoFrames ∧ (∀ c : Fin 24, s.counters.base[c] ≤ Config.counterMax) ∧
      (∀ c : Fin 24, s.snapshot[c] ≤ Config.counterMax) ∧ 1 ≤ s.nextTicket ∧ s.nextTicket ≤ Config.lastTicket := by
  constructor
  · rintro ⟨hf, hc, ht⟩
    exact ⟨hf, fun c => (hc c).2.1, fun c => (hc c).2.2, ht⟩
  · rintro ⟨hf, hb, hs, ht⟩
    exact ⟨hf, fun c => ⟨s.counters.live_le c, hb c, hs c⟩, ht⟩

theorem ticketAfter_range (t : Nat) : 1 ≤ ticketAfter t ∧ ticketAfter t ≤ Config.lastTicket := by
  unfold ticketAfter
  split
  · exact ⟨Nat.le_refl _, by decide⟩
  · omega

theorem Counters.zero_base (c : Fin 24) : Counters.zero.base[c] = 0 := by
  simp [Counters.zero]

theorem State.snapshotValues_le (s : State) (c : Fin 24) : s.snapshotValues[c] ≤ Config.counterMax := by
  rw [State.snapshotValues_get]; exact Nat.min_le_left _ _

theorem keptByCore_limitLaw : KeptByCore State.LimitLaw := by
  have hquiet : ∀ s t : State, s.QuietTo t → s.LimitLaw → t.LimitLaw := by
    rintro s t ⟨hb, e⟩ h
    rw [State.limitLaw_iff] at h ⊢
    obtain ⟨hf, hbase, hs, ht⟩ := h
    rw [e]
    exact ⟨hf, fun c => hb c (hbase c), hs, ht⟩
  have w : KeptByWrites State.LimitLaw :=
    { quiet := hquiet
      setItem := fun _ _ _ h => h
      release := fun _ _ h => h
      commit := fun _ _ h => h
      reserve := fun _ _ _ _ _ _ h => h
      zones := fun _ _ h => h
      setManifest := fun _ _ _ h => h
      setTray := fun _ _ _ h => h
      queue := fun _ _ h => h
      ticket := fun s h => ⟨h.1, h.2.1, ticketAfter_range s.nextTicket⟩
      retire := fun s i it h => by
        obtain ⟨_, _, _, _, e⟩ := s.retire_frame i it
        rw [e]; exact h }
  exact
    { quiet := hquiet
      config := .of_configTo fun s t ht h => by
        obtain ⟨_, _, _, _, _, _, _, _, _, _, _, hq⟩ := ht
        exact hquiet _ _ hq h
      link := fun s t ht h => by
        obtain ⟨_, _, hq⟩ := ht
        exact hquiet _ _ hq.quietTo h
      fifo := fun s q hq h => ⟨hq.trans (max_le h.1 (Nat.le_refl _)), h.2⟩
      snapshot := fun s h => by
        rw [State.limitLaw_iff] at h ⊢
        obtain ⟨hf, -, -, ht⟩ := h
        exact ⟨hf, fun c => (Counters.zero_base c).le.trans (Nat.zero_le _), s.snapshotValues_le, ht⟩
      mode := fun _ _ _ h => h
      slotSet := fun _ _ _ _ h => h
      slotAdjust := fun _ _ _ _ h => h
      slotRelease := fun _ _ _ h => h
      items := w.toItems.items fun s h => by
        obtain ⟨_, _, _, _, e⟩ := workCollect_frame s
        rw [e]; exact h
      fetch := fun _ => w.gradingFetch
      apply := fun c g _ _ => w.toItems.applyResult c g
      write := fun _ _ => w.toItems.writePiece
      restart := fun s h => hquiet _ _ (State.restartSorter_quiet _) ⟨Nat.zero_le _, by
        have h' := hquiet _ _ (s.quietTo_bumpBy .reportsLost s.waitList.length) h
        exact h'.2⟩
      reset := fun _ _ => by
        rw [State.limitLaw_iff]
        exact ⟨Nat.zero_le _, fun c => (Counters.zero_base c).le.trans (Nat.zero_le _),
          fun c => (Counters.zero_base c).le.trans (Nat.zero_le _), Nat.le_refl 1,
          (by decide : 1 ≤ Config.lastTicket)⟩ }

/-! ### The canonical tables (log 26) -/

theorem State.setItem_tables {s : State} {i : Nat} {it : Item} (h : s.TablesCanonical) :
    (s.setItem i it).TablesCanonical := ⟨tcanonical_tput h.1 _ _, h.2⟩

theorem State.setBin_tables {s : State} {b : Nat} {r : Bin} (h : s.TablesCanonical) :
    (s.setBin b r).TablesCanonical := ⟨h.1, tcanonical_tput h.2.1 _ _, h.2.2⟩

theorem State.updateZones_tables {s : State} {f : Zone → Zone} (h : s.TablesCanonical) :
    (s.updateZones f).TablesCanonical := ⟨h.1, h.2.1, tcanonical_tupdate f _ h.2.2.1, h.2.2.2⟩

theorem State.setManifest_tables {s : State} {l : Nat} {m : Manifest} (h : s.TablesCanonical) :
    (s.setManifest l m).TablesCanonical := by
  obtain ⟨hi, hb, hz, hs, ht, hm, hrest⟩ := h
  exact ⟨hi, hb, hz, hs, ht, tsorted_tset hm _ _, hrest⟩

theorem State.queueReport_tables {s : State} {r : Report} (h : s.TablesCanonical) :
    (s.queueReport r).TablesCanonical := by
  obtain ⟨_, _, e⟩ := s.queueReport_frame r
  rw [e]; exact h

theorem State.clearTray_tables {s : State} {tray : Nat} (h : s.TablesCanonical) :
    (s.clearTray tray).TablesCanonical := by
  obtain ⟨hi, hb, hz, hs, ht, hrest⟩ := h
  exact ⟨hi, hb, hz, hs, tsorted_terase ht _, hrest⟩

theorem State.retire_tables {s : State} {i : Nat} {it : Item} (h : s.TablesCanonical) :
    (s.retire i it).TablesCanonical := by
  have hclear := State.clearTray_tables (tray := it.tray) h
  unfold State.retire
  simp only
  split
  · have hset := State.setItem_tables (i := i) (it := { it with state := .retiring }) hclear
    exact hset
  · exact State.setItem_tables (State.queueReport_tables hclear)

theorem State.serveWaitList_tables {s : State} (h : s.TablesCanonical) : s.serveWaitList.TablesCanonical := by
  unfold State.serveWaitList
  split
  · exact h
  next i rest _ => exact State.setItem_tables (State.queueReport_tables (s := { s with waitList := rest }) h)

theorem workCollect_tables {s : State} (h : s.TablesCanonical) : (workCollect s).2.TablesCanonical := by
  unfold workCollect
  split
  · exact State.serveWaitList_tables h
  · exact State.serveWaitList_tables h
  · exact h

theorem State.resetBlocks_tables (s : State) : s.resetBlocks.TablesCanonical :=
  ⟨⟨.nil, fun _ h => nomatch h⟩, ⟨.nil, fun _ h => nomatch h⟩, ⟨.nil, fun _ h => nomatch h⟩,
    ⟨.nil, fun _ h => nomatch h⟩, .nil, .nil, .nil, .nil, .nil⟩

theorem State.QuietTo.tables {s t : State} (ht : s.QuietTo t) (h : s.TablesCanonical) :
    t.TablesCanonical := by
  obtain ⟨-, e⟩ := ht
  rw [e]; exact h

theorem keptByConfig_tables : KeptByConfig State.TablesCanonical where
  counts _ _ ht := ht.quietTo.tables
  setManifest _ _ _ := State.setManifest_tables
  removeManifest s l h := by
    obtain ⟨hi, hb, hz, hs, ht, hm, hrest⟩ := h
    exact ⟨hi, hb, hz, hs, ht, tsorted_terase hm _, hrest⟩
  setClass s n r h := by
    obtain ⟨hi, hb, hz, hs, ht, hm, hc, hrest⟩ := h
    exact ⟨hi, hb, hz, hs, ht, hm, tsorted_tset hc _ _, hrest⟩
  clearClass s n h := by
    obtain ⟨hi, hb, hz, hs, ht, hm, hc, hrest⟩ := h
    exact ⟨hi, hb, hz, hs, ht, hm, tsorted_terase hc _, hrest⟩
  line _ _ h := h
  setZone s z r h := ⟨h.1, h.2.1, tcanonical_tput h.2.2.1 _ _, h.2.2.2⟩
  zones _ _ := State.updateZones_tables
  setStation s a e h := by
    obtain ⟨hi, hb, hz, hs, hrest⟩ := h
    exact ⟨hi, hb, hz, tcanonical_tput hs _ _, hrest⟩
  settings _ _ h := h
  schedule s i e h := by
    obtain ⟨hi, hb, hz, hs, ht, hm, hc, hsch, hset⟩ := h
    cases e with
    | none => exact ⟨hi, hb, hz, hs, ht, hm, hc, tsorted_terase hsch _, hset⟩
    | some p => exact ⟨hi, hb, hz, hs, ht, hm, hc, tsorted_tset hsch _ _, hset⟩
  setSettle s a c h := by
    obtain ⟨hi, hb, hz, hs, ht, hm, hc, hsch, hset⟩ := h
    cases c with
    | none => exact ⟨hi, hb, hz, hs, ht, hm, hc, hsch, tsorted_terase hset _⟩
    | some c => exact ⟨hi, hb, hz, hs, ht, hm, hc, hsch, tsorted_tset hset _ _⟩
  scans _ _ _ h := h

theorem keptByCore_tables : KeptByCore State.TablesCanonical := by
  have w : KeptByWrites State.TablesCanonical :=
    { quiet := fun _ _ => State.QuietTo.tables
      setItem := fun _ _ _ => State.setItem_tables
      release := fun _ _ => State.setBin_tables
      commit := fun _ _ => State.setBin_tables
      reserve := fun _ _ _ _ _ _ => State.setBin_tables
      zones := fun _ _ => State.updateZones_tables
      setManifest := fun _ _ _ => State.setManifest_tables
      setTray := fun s tray e h => by
        obtain ⟨hi, hb, hz, hs, ht, hrest⟩ := h
        exact ⟨hi, hb, hz, hs, tsorted_tset ht _ _, hrest⟩
      queue := fun _ _ h => h
      ticket := fun _ h => h
      retire := fun _ _ _ => State.retire_tables }
  exact
    { quiet := fun _ _ => State.QuietTo.tables
      config := keptByConfig_tables
      link := fun s t ht h => by
        obtain ⟨_, _, -, e⟩ := ht
        rw [e]; exact h
      fifo := fun _ _ _ h => h
      snapshot := fun _ h => h
      mode := fun _ _ _ h => h
      slotSet := fun _ _ _ _ => State.setBin_tables
      slotAdjust := fun _ _ _ _ => State.setBin_tables
      slotRelease := fun _ _ _ => State.setBin_tables
      items := w.toItems.items fun _ => workCollect_tables
      fetch := fun _ => w.gradingFetch
      apply := fun c g _ _ => w.toItems.applyResult c g
      write := fun _ _ => w.toItems.writePiece
      restart := fun s h => by
        obtain ⟨hi, hb, hz, hs, ht, hm, hc, hsch, hset⟩ := h
        have hb' := tcanonical_tupdate Bin.afterRestart Config.binEntries hb
        have hs' := tcanonical_tupdate (fun e => { e with run := .atReset }) Config.stationEntries hs
        refine (State.restartSorter_quiet _).tables ?_
        unfold State.TablesCanonical
        dsimp only [State.emptyScans, State.bumpBy]
        exact ⟨⟨.nil, fun _ h => nomatch h⟩, hb', hz, hs', .nil, hm, hc, hsch, .nil⟩
      reset := fun s _ => s.resetBlocks_tables }

/-- Settles O55: each of the three laws is one that every command keeps, and none reads the queue of
commands. -/
theorem countsAndTablesKept : Obligations.CountsAndTablesKept :=
  ⟨fun _ _ h ht => keptByCore_poolLaw.parts.step (fun _ _ h => h) h ht,
    fun _ _ h ht => keptByCore_limitLaw.parts.step (fun _ _ h => h) h ht,
    fun _ _ h ht => keptByCore_tables.parts.step (fun _ _ h => h) h ht⟩

end Sys2Proof.Machine
end

section
/-! PROOFS. The laws of the items, kept by every step (R1, R3, R23, R105). -/

namespace Sys2Proof.Machine

/-! ### What the item operations leave of an item and of the state -/

theorem Item.active_iff (it : Item) : it.active = true ↔ it.state ≠ .free ∧ it.state ≠ .retiring := by
  unfold Item.active
  cases it.state <;> simp

theorem Item.active_congr {it it' : Item} (h : it'.state = it.state) : it'.active = it.active := by
  simp only [Item.active, h]

/-- An item that keeps its tray and its ticket. -/
def Item.SameIdentity (it it' : Item) : Prop := it'.tray = it.tray ∧ it'.ticket = it.ticket

theorem State.releaseReservation_frame (s : State) (it : Item) :
    ∃ bins, s.releaseReservation it = { s with bins := bins } := by
  unfold State.releaseReservation
  split
  · exact ⟨_, rfl⟩
  · exact ⟨s.bins, rfl⟩

/-- A reallocation leaves the item in its state and names a bin only for an item that had one; beside the
bins it moves counters alone. -/
theorem State.reallocate_frame (s : State) (it : Item) (b : Nat) :
    ((s.reallocate it b).1.state = it.state ∧ it.SameIdentity (s.reallocate it b).1) ∧
      ∃ bins counters, (s.reallocate it b).2 = { s with bins := bins, counters := counters } := by
  unfold State.reallocate
  simp only
  split
  · exact ⟨⟨rfl, rfl, rfl⟩, _, _, rfl⟩
  · exact ⟨⟨rfl, rfl, rfl⟩, _, _, rfl⟩

theorem State.reallocateIfBlocked_frame (s : State) (it : Item) :
    ((s.reallocateIfBlocked it).1.state = it.state ∧ it.SameIdentity (s.reallocateIfBlocked it).1) ∧
      ∃ bins counters, (s.reallocateIfBlocked it).2 = { s with bins := bins, counters := counters } := by
  have hsame : (it.state = it.state ∧ it.SameIdentity it) ∧
      ∃ bins counters, s = { s with bins := bins, counters := counters } :=
    ⟨⟨rfl, rfl, rfl⟩, s.bins, s.counters, rfl⟩
  unfold State.reallocateIfBlocked
  split
  · split
    · exact s.reallocate_frame it _
    · exact hsame
  · exact hsame

theorem State.redecide_frame (s : State) (it : Item) :
    ∃ bins counters, (s.redecide it).2 = { s with bins := bins, counters := counters } := by
  obtain ⟨bins, h⟩ := s.releaseReservation_frame it
  exact ⟨bins, _, congrArg (fun t : State => t.bump .reviewed) h⟩

/-- What the bin and chute steps leave: the item's identity, the bins and counters. -/
theorem State.placeItem_frame (s : State) (c : GradeCopy) (it : Item) (d : Disposition) (r : Reason) :
    it.SameIdentity (s.placeItem c it d r).1 ∧
      ∃ bins counters, (s.placeItem c it d r).2 = { s with bins := bins, counters := counters } := by
  have hfin : ∀ d r, it.SameIdentity (finishWithoutBin s.line it d r) := by
    intro d r
    unfold finishWithoutBin
    split <;> exact ⟨rfl, rfl⟩
  unfold State.placeItem
  split
  · exact ⟨hfin _ _, s.bins, s.counters, rfl⟩
  · split
    · refine ⟨⟨rfl, rfl⟩, ?_⟩
      simp only
      split
      · exact ⟨_, _, rfl⟩
      · exact ⟨s.bins, s.counters, rfl⟩
    · exact ⟨hfin _ _, _, _, rfl⟩

theorem State.countDecision_frame (s : State) (g : Option GradeResult) (it : Item) :
    ∃ counters, s.countDecision g it = { s with counters := counters } := by
  unfold State.countDecision
  split <;> split <;> exact ⟨_, rfl⟩

/-- An applied result (R111): the item DECIDED with its identity, and bins and counters. -/
theorem applyResult_frame (c : GradeCopy) (g : Option GradeResult) (s : State) :
    ∃ it bins counters, (s.item c.index).SameIdentity it ∧ it.state = .decided ∧
      applyResult c g s = { s.setItem c.index it with bins := bins, counters := counters } := by
  unfold applyResult
  simp only
  generalize hi : ({ s.item c.index with score := g.map (·.score), grade := g.map (·.grade) } : Item) = it
  obtain ⟨hid, bins, k, hp⟩ :=
    s.placeItem_frame c it (decideDisposition c g).1 (decideDisposition c g).2
  obtain ⟨k', hk⟩ := (s.placeItem c it (decideDisposition c g).1 (decideDisposition c g).2).2.countDecision_frame
    g (s.placeItem c it (decideDisposition c g).1 (decideDisposition c g).2).1
  refine ⟨{ (s.placeItem c it (decideDisposition c g).1 (decideDisposition c g).2).1 with state := .decided },
    bins, k', ?_, rfl, ?_⟩
  · subst hi
    exact hid
  · rw [hk, hp]
    rfl

/-! ### The laws through one change -/

/-- The laws read the items, the Tray Index and the two queues alone. -/
theorem State.ItemLaws.congr {s t : State} (h : s.ItemLaws) (hi : t.items = s.items)
    (ht : t.trayIndex = s.trayIndex) (hq : t.gradeQueue = s.gradeQueue) (hw : t.waitList = s.waitList) :
    t.ItemLaws := by
  simp only [State.ItemLaws, State.TrayLaw, State.QueueLaw, State.RetiringLaw, State.EntryLaw,
    State.trayEntry, State.item, hi, ht, hq, hw]
  exact h

theorem State.ItemLaws.lt {s : State} (h : s.ItemLaws) {i : Nat} (hi : (s.item i).state ≠ .free) :
    i < Config.itemEntries := by
  obtain ⟨-, -, -, hentry, -⟩ := h
  by_contra hlt
  rw [hentry i (Nat.not_lt.1 hlt)] at hi
  exact hi rfl

theorem State.ItemLaws.not_mem_queue {s : State} (h : s.ItemLaws) {i : Nat} (hi : (s.item i).state ≠ .queued) :
    i ∉ s.gradeQueue := fun hm => hi ((h.2.1.2 i).1 hm)

/-- An active item changes and stays active on its tray, the Grade Queue changing with it (R3, R105). -/
theorem State.ItemLaws.change {s : State} (h : s.ItemLaws) {i : Nat} {it : Item} {q : List Nat}
    (hact : (s.item i).active = true) (hit : it.active = true) (hid : (s.item i).SameIdentity it)
    (hbin : it.bin.isSome = true → it.state = .decided ∨ it.state = .routed)
    (hnodup : q.Nodup)
    (hmem : ∀ j, j ∈ q ↔ if j = i then it.state = .queued else j ∈ s.gradeQueue) :
    State.ItemLaws { s.setItem i it with gradeQueue := q } := by
  obtain ⟨htray, htick⟩ := hid
  have hlt := h.lt ((Item.active_iff _).1 hact).1
  obtain ⟨⟨hfwd, hback⟩, ⟨-, hqueue⟩, ⟨hwnd, hwait⟩, hentry, hnamed⟩ := h
  have hread : ∀ j, State.item { s.setItem i it with gradeQueue := q } j = if j = i then it else s.item j :=
    fun j => s.item_setItem i j it
  have hentries : ∀ tray, State.trayEntry { s.setItem i it with gradeQueue := q } tray = s.trayEntry tray :=
    fun _ => rfl
  refine ⟨⟨fun tray e he => ?_, fun j hj => ?_⟩, ⟨hnodup, fun j => ?_⟩, ⟨hwnd, fun j => ?_⟩,
    fun j hj => ?_, fun j hj => ?_⟩
  · obtain ⟨ha, hb, hc⟩ := hfwd tray e he
    rw [hread]
    split
    next heq => exact ⟨hit, by rw [htray, ← heq]; exact hb, by rw [htick, ← heq]; exact hc⟩
    next => exact ⟨ha, hb, hc⟩
  · rw [hread] at hj ⊢
    rw [hentries]
    split
    next heq => rw [htray, htick, heq]; exact hback i hact
    next heq => rw [if_neg heq] at hj; exact hback j hj
  · rw [hmem, hread]
    by_cases heq : j = i
    · simp only [heq, if_true]
    · simp only [if_neg heq]; exact hqueue j
  · rw [hread]
    show j ∈ s.waitList ↔ _
    rw [hwait]
    by_cases heq : j = i
    · rw [if_pos heq, heq]
      exact ⟨fun hr => absurd hr ((Item.active_iff _).1 hact).2, fun hr => absurd hr ((Item.active_iff _).1 hit).2⟩
    · rw [if_neg heq]
  · rw [hread, if_neg (by omega)]
    exact hentry j hj
  · rw [hread] at hj ⊢
    split
    next heq =>
      rw [if_pos heq] at hj
      exact (hbin hj).imp_right .inl
    next heq =>
      rw [if_neg heq] at hj
      exact hnamed j hj

/-- An active item changes and the Grade Queue does not. -/
theorem State.ItemLaws.changeItem {s : State} (h : s.ItemLaws) {i : Nat} {it : Item}
    (hact : (s.item i).active = true) (hit : it.active = true) (hid : (s.item i).SameIdentity it)
    (hbin : it.bin.isSome = true → it.state = .decided ∨ it.state = .routed)
    (hq : it.state = .queued ↔ (s.item i).state = .queued) : (s.setItem i it).ItemLaws := by
  refine h.change (q := s.gradeQueue) hact hit hid hbin h.2.1.1 fun j => ?_
  split
  next heq => rw [hq, heq]; exact h.2.1.2 i
  next => rfl

theorem State.ItemLaws.bin_none {s : State} (h : s.ItemLaws) {i : Nat}
    (hd : (s.item i).state ≠ .decided) (hr : (s.item i).state ≠ .routed)
    (ht : (s.item i).state ≠ .retiring) : (s.item i).bin = none := by
  by_contra hne
  rcases h.2.2.2.2 i (Option.isSome_iff_ne_none.2 hne) with h1 | h1 | h1 <;> contradiction

/-- An active item that is not QUEUED joins the Grade Queue (R105). -/
theorem State.ItemLaws.enqueue {s : State} (h : s.ItemLaws) {i : Nat} {it : Item}
    (hact : (s.item i).active = true) (hnq : (s.item i).state ≠ .queued) (hid : (s.item i).SameIdentity it)
    (hbin : it.bin = none) : (s.enqueue i it).ItemLaws := by
  rw [State.enqueue_eq]
  have hni := h.not_mem_queue hnq
  have hc := h.change (it := { it with state := .queued }) (q := s.gradeQueue ++ [i]) hact rfl hid
    (fun hb => by simp [hbin] at hb)
    (List.nodup_append.2 ⟨h.2.1.1, List.nodup_singleton i, fun a ha b hb => by
      rintro rfl; exact hni (List.mem_singleton.1 hb ▸ ha)⟩)
    (fun j => by
      rw [List.mem_append, List.mem_singleton]
      by_cases heq : j = i
      · simp [heq]
      · simp [heq])
  exact hc.congr rfl rfl rfl rfl

/-- An item retires out of a state in which the Grade Queue no longer lists it (R23). -/
theorem State.retire_itemLaws {s : State} {i : Nat} {it : Item} (htl : s.TrayLaw) (hrl : s.RetiringLaw)
    (hel : s.EntryLaw) (hact : (s.item i).active = true) (htray : it.tray = (s.item i).tray)
    (hnodup : s.gradeQueue.Nodup)
    (hmem : ∀ j, j ∈ s.gradeQueue ↔ j ≠ i ∧ (s.item j).state = .queued) : (s.retire i it).ItemLaws := by
  obtain ⟨hfwd, hback⟩ := htl
  obtain ⟨hwnd, hwait⟩ := hrl
  obtain ⟨hentry, hnamed⟩ := hel
  have hlt : i < Config.itemEntries := by
    by_contra hge
    rw [hentry i (Nat.not_lt.1 hge)] at hact
    cases hact
  have hnw : i ∉ s.waitList := fun hm => ((Item.active_iff _).1 hact).2 ((hwait i).1 hm)
  -- the laws of a state in which item `i` has become `x`, inactive, and its tray is cleared
  have key : ∀ (x : Item) (w : List Nat) (t : State), x.active = false → x.state ≠ .queued →
      (x.bin.isSome = true → x.state = .retiring) → w.Nodup →
      (∀ j, j ∈ w ↔ if j = i then x.state = .retiring else j ∈ s.waitList) →
      (∀ j, t.item j = if j = i then x else s.item j) →
      (∀ tray, t.trayEntry tray = if tray = it.tray then none else s.trayEntry tray) →
      t.gradeQueue = s.gradeQueue → t.waitList = w → t.ItemLaws := by
    intro x w t hx hxq hxb hw hwm hread htr hgq hwl
    refine ⟨⟨fun tray e he => ?_, fun j hj => ?_⟩, ⟨hgq ▸ hnodup, fun j => ?_⟩, ⟨hwl ▸ hw, fun j => ?_⟩,
      fun j hj => ?_, fun j hj => ?_⟩
    · rw [htr] at he
      split at he
      · cases he
      next hne =>
        obtain ⟨ha, hb, hc⟩ := hfwd tray e he
        have hei : e.index ≠ i := fun heq => hne (by rw [htray, ← heq]; exact hb.symm)
        rw [hread, if_neg hei]
        exact ⟨ha, hb, hc⟩
    · rw [hread] at hj ⊢
      split
      next heq => rw [if_pos heq, hx] at hj; cases hj
      next hne =>
        rw [if_neg hne] at hj
        rw [htr, hback j hj, if_neg]
        intro heq
        have h1 := hback j hj
        rw [heq, htray, hback i hact] at h1
        exact hne (by cases h1; rfl)
    · rw [hgq, hmem, hread]
      by_cases heq : j = i
      · simp [heq, hxq]
      · simp [heq]
    · rw [hwl, hwm, hread]
      by_cases heq : j = i
      · simp [heq]
      · simp only [if_neg heq]; exact hwait j
    · rw [hread, if_neg (by omega)]
      exact hentry j hj
    · rw [hread] at hj ⊢
      split
      next heq => rw [if_pos heq] at hj; exact .inr (.inr (hxb hj))
      next hne => rw [if_neg hne] at hj; exact hnamed j hj
  by_cases hfree : s.urgent.length + s.routine.length < Config.reportRecords
  · rw [State.retire_of_free hfree]
    obtain ⟨u, v, hr⟩ := (s.clearTray it.tray).queueReport_frame (Report.ofItem s.mode it)
    rw [hr]
    refine key Item.empty s.waitList _ rfl (by decide) (fun hb => by cases hb) hwnd (fun j => ?_)
      (fun j => State.item_setItem _ _ _ _) (fun tray => s.trayEntry_clearTray it.tray tray) rfl rfl
    split
    next heq => subst heq; exact ⟨fun hm => absurd hm hnw, fun hr => by cases hr⟩
    next => rfl
  · rw [State.retire_of_full (Nat.not_lt.1 hfree)]
    refine key { it with state := .retiring } (s.waitList ++ [i]) _ rfl (by simp) (fun _ => rfl)
      (List.nodup_append.2 ⟨hwnd, List.nodup_singleton i, fun a ha b hb => by
        rintro rfl; exact hnw (List.mem_singleton.1 hb ▸ ha)⟩) (fun j => ?_)
      (fun j => (s.clearTray it.tray).item_setItem i j { it with state := .retiring }) (fun tray =>
          s.trayEntry_clearTray it.tray tray) rfl rfl
    rw [List.mem_append, List.mem_singleton]
    by_cases heq : j = i
    · simp [heq]
    · simp [heq]

/-- An item that is not QUEUED retires. -/
theorem State.ItemLaws.retire {s : State} (h : s.ItemLaws) {i : Nat} {it : Item}
    (hact : (s.item i).active = true) (htray : it.tray = (s.item i).tray)
    (hnq : (s.item i).state ≠ .queued) : (s.retire i it).ItemLaws := by
  obtain ⟨htl, ⟨hnd, hqueue⟩, hrl, hel⟩ := h
  refine State.retire_itemLaws htl hrl hel hact htray hnd fun j => ?_
  rw [hqueue]
  exact ⟨fun hj => ⟨by rintro rfl; exact hnq hj, hj⟩, fun hj => hj.2⟩

/-- The item at the head of the wait list becomes FREE (R24). -/
theorem State.ItemLaws.serveWaitList {s : State} (h : s.ItemLaws) : s.serveWaitList.ItemLaws := by
  unfold State.serveWaitList
  split
  · exact h
  next i rest hw =>
    obtain ⟨⟨hfwd, hback⟩, ⟨hnd, hqueue⟩, ⟨hwnd, hwait⟩, hentry, hnamed⟩ := h
    have hret : (s.item i).state = .retiring := (hwait i).1 (by rw [hw]; exact List.mem_cons_self ..)
    rw [hw, List.nodup_cons] at hwnd
    obtain ⟨u, v, hr⟩ := State.queueReport_frame { s with waitList := rest } (Report.ofItem s.mode (s.item i))
    rw [hr]
    have hread : ∀ j, State.item (State.setItem { s with waitList := rest, urgent := u, routine := v } i Item.empty) j =
        if j = i then Item.empty else s.item j := fun j => State.item_setItem _ _ _ _
    refine ⟨⟨fun tray e he => ?_, fun j hj => ?_⟩, ⟨hnd, fun j => ?_⟩, ⟨hwnd.2, fun j => ?_⟩,
      fun j hj => ?_, fun j hj => ?_⟩
    · obtain ⟨ha, hb, hc⟩ := hfwd tray e he
      have hei : e.index ≠ i := by
        intro heq
        rw [heq] at ha
        exact ((Item.active_iff _).1 ha).2 hret
      rw [hread, if_neg hei]
      exact ⟨ha, hb, hc⟩
    · rw [hread] at hj ⊢
      split
      next heq => rw [if_pos heq] at hj; cases hj
      next hne => rw [if_neg hne] at hj; exact hback j hj
    · show j ∈ s.gradeQueue ↔ _
      rw [hread, hqueue]
      by_cases heq : j = i
      · rw [if_pos heq, heq, hret]; decide
      · rw [if_neg heq]
    · show j ∈ rest ↔ _
      rw [hread]
      have hj := hwait j
      rw [hw, List.mem_cons] at hj
      by_cases heq : j = i
      · rw [if_pos heq, heq]
        exact ⟨fun hm => absurd hm hwnd.1, fun hr => by cases hr⟩
      · rw [if_neg heq, ← hj]
        exact ⟨.inr, fun hm => hm.resolve_left heq⟩
    · rw [hread]
      split
      · rfl
      · exact hentry j hj
    · rw [hread] at hj ⊢
      split
      next heq => rw [if_pos heq] at hj; cases hj
      next hne => rw [if_neg hne] at hj; exact hnamed j hj

theorem workCollect_itemLaws {s : State} (h : s.ItemLaws) : (workCollect s).2.ItemLaws := by
  unfold workCollect
  split
  next r rest _ => exact State.ItemLaws.serveWaitList (s := { s with urgent := rest }) h
  next r rest _ _ => exact State.ItemLaws.serveWaitList (s := { s with routine := rest }) h
  · exact h

end Sys2Proof.Machine
end

section
/-! PROOFS. The item requests, the gradings and the evidence writes keep the laws of the items. -/

namespace Sys2Proof.Machine

/-! ### An item found on a tray -/

/-- What the lookup finds is an active item. -/
theorem State.ItemLaws.found {s : State} (h : s.ItemLaws) {tray i : Nat} {it : Item}
    (hf : s.itemOnTray tray = some (i, it)) : it = s.item i ∧ (s.item i).active = true ∧ (s.item i).tray = tray := by
  obtain ⟨⟨ha, ht⟩, he⟩ := State.carries_of_itemOnTray h.1 hf
  exact ⟨he, ha, ht⟩

/-! ### INDUCT -/

theorem State.freeEntry_some {s : State} {i : Nat} (h : s.freeEntry = some i) :
    i < Config.itemEntries ∧ (s.item i).state = .free := by
  unfold State.freeEntry at h
  have hmem := List.mem_of_find?_eq_some h
  have hfree := List.find?_some h
  exact ⟨List.mem_range.1 hmem, by simpa using hfree⟩

theorem State.countReceived_frame (s : State) (label : Nat) :
    ∃ manifests counters, s.countReceived label = { s with manifests := manifests, counters := counters } := by
  unfold State.countReceived
  split
  · split <;> exact ⟨_, _, rfl⟩
  · exact ⟨s.manifests, s.counters, rfl⟩

/-- A new item's record before its state is known. -/
theorem State.newItem_fields (s : State) (tray label : Nat) :
    (s.newItem tray label).tray = tray ∧ (s.newItem tray label).ticket = s.nextTicket ∧
      (s.newItem tray label).bin = none ∧ (s.newItem tray label).state = .free := by
  unfold State.newItem
  simp only
  split <;> exact ⟨rfl, rfl, rfl, rfl⟩

/-- A FREE entry takes a tray that no active item is on (R3, R8). -/
theorem State.ItemLaws.occupy {s : State} (h : s.ItemLaws) {i tray : Nat} {it : Item} {q : List Nat}
    (hfree : (s.item i).state = .free) (hlt : i < Config.itemEntries) (hnone : ∀ j, ¬ s.carries tray j)
    (hit : it.active = true) (htray : it.tray = tray) (hbin : it.bin = none) (hnodup : q.Nodup)
    (hmem : ∀ j, j ∈ q ↔ if j = i then it.state = .queued else j ∈ s.gradeQueue) :
    State.ItemLaws
      { (s.setTray tray { index := i, ticket := it.ticket }).setItem i it with gradeQueue := q } := by
  obtain ⟨⟨hfwd, hback⟩, ⟨-, hqueue⟩, ⟨hwnd, hwait⟩, hentry, hnamed⟩ := h
  have hread : ∀ j, State.item
      { (s.setTray tray { index := i, ticket := it.ticket }).setItem i it with gradeQueue := q } j =
        if j = i then it else s.item j := fun j => State.item_setItem _ i j it
  have hentries : ∀ k, State.trayEntry
      { (s.setTray tray { index := i, ticket := it.ticket }).setItem i it with gradeQueue := q } k =
        if k = tray then some { index := i, ticket := it.ticket } else s.trayEntry k :=
    fun k => s.trayEntry_setTray tray k _
  have hni : ∀ j, (s.item j).active = true → j ≠ i := by
    rintro j ha rfl
    exact ((Item.active_iff _).1 ha).1 hfree
  refine ⟨⟨fun k e he => ?_, fun j hj => ?_⟩, ⟨hnodup, fun j => ?_⟩, ⟨hwnd, fun j => ?_⟩,
    fun j hj => ?_, fun j hj => ?_⟩
  · rw [hentries] at he
    split at he
    next heq =>
      cases he
      rw [hread, if_pos rfl]
      exact ⟨hit, htray.trans heq.symm, rfl⟩
    next =>
      obtain ⟨ha, hb, hc⟩ := hfwd k e he
      rw [hread, if_neg (hni _ ha)]
      exact ⟨ha, hb, hc⟩
  · rw [hread] at hj ⊢
    rw [hentries]
    by_cases heq : j = i
    · simp only [if_pos heq, htray, if_true]
      rw [heq]
    · simp only [if_neg heq] at hj ⊢
      rw [if_neg (fun ht => hnone j ⟨hj, ht⟩)]
      exact hback j hj
  · rw [hmem, hread]
    by_cases heq : j = i
    · simp only [heq, if_true]
    · simp only [if_neg heq]; exact hqueue j
  · rw [hread]
    show j ∈ s.waitList ↔ _
    rw [hwait]
    by_cases heq : j = i
    · rw [if_pos heq, heq, hfree]
      exact ⟨fun hr => (nomatch hr), fun hr => absurd hr ((Item.active_iff _).1 hit).2⟩
    · rw [if_neg heq]
  · rw [hread, if_neg (by omega)]
    exact hentry j hj
  · rw [hread] at hj ⊢
    split
    next heq => rw [if_pos heq, hbin] at hj; cases hj
    next heq => rw [if_neg heq] at hj; exact hnamed j hj

theorem workInduct_itemLaws (tray label : Nat) {s : State} (h : s.ItemLaws) :
    (workInduct tray label s).2.ItemLaws := by
  unfold workInduct
  split
  · exact h
  · split
    · exact h
    next hnot =>
      split
      · exact h
      next i hi =>
        obtain ⟨hlt, hfree⟩ := s.freeEntry_some hi
        have hnone : ∀ j, ¬ s.carries tray j := fun j hc =>
          hnot (by rw [State.itemOnTray_of_carries h.1 hc]; rfl)
        obtain ⟨htray, -, hbin, -⟩ := s.newItem_fields tray label
        obtain ⟨m, c, hm⟩ := s.countReceived_frame label
        have hni := h.not_mem_queue (i := i) (by rw [hfree]; decide)
        simp only
        split
        · refine (h.occupy (it := { s.newItem tray label with state := .opened }) (q := s.gradeQueue)
            hfree hlt hnone rfl htray hbin h.2.1.1 fun j => ?_).congr ?_ ?_ ?_ ?_
          · split
            next heq => subst heq; exact ⟨fun hj => absurd hj hni, fun hj => (nomatch hj)⟩
            next => rfl
          all_goals rw [hm]; rfl
        · rw [State.enqueue_eq]
          refine (h.occupy (it := { s.newItem tray label with state := .queued })
            (q := s.gradeQueue ++ [i]) hfree hlt hnone rfl htray hbin
            (List.nodup_append.2 ⟨h.2.1.1, List.nodup_singleton i, fun a ha b hb => by
              rintro rfl; exact hni (List.mem_singleton.1 hb ▸ ha)⟩) fun j => ?_).congr ?_ ?_ ?_ ?_
          · rw [List.mem_append, List.mem_singleton]
            by_cases heq : j = i
            · simp [heq]
            · simp [heq]
          all_goals rw [hm]; rfl

/-! ### DESTINATION -/

/-- Two things are said of a changed item: it keeps its tray and its ticket, and its state. -/
theorem State.ItemLaws.changeAfter {s t : State} (h : s.ItemLaws) {i : Nat} {it : Item}
    (ht : ∃ bins counters, t = { s with bins := bins, counters := counters })
    (hact : (s.item i).active = true) (hit : it.active = true) (hid : (s.item i).SameIdentity it)
    (hbin : it.bin.isSome = true → it.state = .decided ∨ it.state = .routed)
    (hq : it.state = .queued ↔ (s.item i).state = .queued) : (t.setItem i it).ItemLaws := by
  obtain ⟨bins, counters, rfl⟩ := ht
  exact (h.changeItem hact hit hid hbin hq).congr rfl rfl rfl rfl

theorem workDestination_itemLaws (tray : Nat) {s : State} (h : s.ItemLaws) :
    (workDestination tray s).2.ItemLaws := by
  unfold workDestination
  split
  · exact h
  · split
    · exact h
    next i it hf =>
      obtain ⟨rfl, hact, -⟩ := h.found hf
      have waiting : ∀ hst : (s.item i).state = .queued ∨ (s.item i).state = .grading,
          (destinationWaiting i (s.item i) s).2.ItemLaws := fun hst =>
        (h.changeItem (it := (s.item i).lapDone) hact hact ⟨rfl, rfl⟩ (fun hb => by
          have hn := h.bin_none (i := i) (by rcases hst with e | e <;> rw [e] <;> decide)
            (by rcases hst with e | e <;> rw [e] <;> decide) (by rcases hst with e | e <;> rw [e] <;> decide)
          rw [show (s.item i).lapDone.bin = (s.item i).bin from rfl, hn] at hb
          cases hb) Iff.rfl).congr rfl rfl rfl rfl
      split
      next hst =>
        have hbin := h.bin_none (i := i) (by rw [hst]; decide) (by rw [hst]; decide) (by rw [hst]; decide)
        have hnq : (s.item i).state ≠ .queued := by rw [hst]; decide
        unfold destinationOpen
        simp only
        split
        · exact (h.enqueue (it := (s.item i).lapDone) hact hnq ⟨rfl, rfl⟩ hbin).congr rfl rfl rfl rfl
        · split
          · exact (h.changeItem
              (it := { (s.item i).lapDone with
                state := .routed, disposition := some .review, reason := .incomplete
                chute := some s.line.reviewChute }) hact rfl ⟨rfl, rfl⟩
              (fun _ => .inr rfl) ⟨fun hr => (nomatch hr), fun hr => absurd hr hnq⟩).congr rfl rfl rfl rfl
          · exact (h.changeItem (it := (s.item i).lapDone) hact hact ⟨rfl, rfl⟩ (fun hb => by
              rw [show (s.item i).lapDone.bin = (s.item i).bin from rfl, hbin] at hb
              cases hb) Iff.rfl).congr rfl rfl rfl rfl
      next hst => exact waiting (.inl hst)
      next hst => exact waiting (.inr hst)
      next hst =>
        obtain ⟨⟨-, hid⟩, hframe⟩ := s.reallocateIfBlocked_frame (s.item i)
        exact h.changeAfter hframe hact rfl hid (fun _ => .inr rfl)
          ⟨fun hr => (nomatch hr), fun hr => by rw [hst] at hr; cases hr⟩
      next hst =>
        have hnq : (s.item i).state ≠ .queued := by rw [hst]; decide
        have hu : ∃ bins counters, s.bump .divertFailed = { s with bins := bins, counters := counters } :=
          ⟨s.bins, _, rfl⟩
        -- the item re-decided or reallocated stays ROUTED on its tray
        have key : ∀ (x : Item) (t : State), x.state = .routed → (s.item i).SameIdentity x →
            (∃ bins counters, t = { s.bump .divertFailed with bins := bins, counters := counters }) →
            (t.setItem i x).ItemLaws := by
          rintro x t hx hid ⟨b, c, rfl⟩
          exact h.changeAfter (t := { s.bump .divertFailed with bins := b, counters := c }) ⟨b, c, rfl⟩ hact
            ((Item.active_iff x).2 (by rw [hx]; decide)) hid (fun _ => .inr hx)
            ⟨fun hr => (nomatch hx.symm.trans hr), fun hr => absurd hr hnq⟩
        unfold destinationRouted
        simp only
        split
        · exact key _ _ hst ⟨rfl, rfl⟩ (State.redecide_frame _ _)
        · obtain ⟨⟨hs, hid⟩, hframe⟩ :=
            (s.bump .divertFailed).reallocateIfBlocked_frame (s.item i).lapDone.attemptDone
          exact key _ _ (hs.trans hst) hid hframe
      · exact h
      · exact h

/-! ### DIVERTED, DIVERT FAILED, TRAY CLEARED -/

theorem workDiverted_itemLaws (tray chute : Nat) {s : State} (h : s.ItemLaws) :
    (workDiverted tray chute s).2.ItemLaws := by
  unfold workDiverted
  split
  · exact h
  · split
    · exact h
    next i it hf =>
      obtain ⟨rfl, hact, -⟩ := h.found hf
      split
      · exact h
      next hst =>
        have hnq : (s.item i).state ≠ .queued := by rw [not_not.1 hst]; decide
        -- an item retires out of a state that differs in bins and counters
        have key : ∀ (x : Item) (t : State), x.tray = (s.item i).tray →
            (∃ bins counters, t = { s with bins := bins, counters := counters }) → (t.retire i x).ItemLaws := by
          rintro x t hx ⟨b, c, rfl⟩
          exact State.ItemLaws.retire (s := { s with bins := b, counters := c })
            (h.congr rfl rfl rfl rfl) hact hx hnq
        split
        · refine key _ _ rfl ?_
          split
          · exact ⟨_, s.counters, rfl⟩
          · exact ⟨s.bins, s.counters, rfl⟩
        · obtain ⟨bins, hb⟩ := s.releaseReservation_frame (s.item i)
          exact key _ _ rfl ⟨bins, _, congrArg (fun t : State => t.bump .missorted) hb⟩

theorem workDivertFailed_itemLaws (tray cause : Nat) {s : State} (h : s.ItemLaws) :
    (workDivertFailed tray cause s).2.ItemLaws := by
  unfold workDivertFailed
  split
  · exact h
  · split
    · exact h
    · split
      · exact h
      next c _ _ i it hf =>
        obtain ⟨rfl, hact, -⟩ := h.found hf
        split
        · exact h
        next hst =>
          have hnq : (s.item i).state ≠ .queued := by rw [not_not.1 hst]; decide
          have key : ∀ (x : Item) (t : State), x.state = .decided → (s.item i).SameIdentity x →
              (∃ bins counters zones,
                t = { s with bins := bins, counters := counters, zones := zones }) →
              (t.setItem i x).ItemLaws := by
            rintro x t hx hid ⟨b, c, z, rfl⟩
            exact (h.changeItem hact ((Item.active_iff x).2 (by rw [hx]; decide)) hid (fun _ => .inl hx)
              ⟨fun hr => (nomatch hx.symm.trans hr), fun hr => absurd hr hnq⟩).congr rfl rfl rfl rfl
          have hz : ∃ counters zones, (if c = .chuteFull then
              (s.bump .divertFailed).updateZones (Zone.blockFor ((s.item i).attemptDone.chute.getD 0))
              else s.bump .divertFailed) = { s with counters := counters, zones := zones } := by
            split
            · exact ⟨_, _, rfl⟩
            · exact ⟨_, s.zones, rfl⟩
          obtain ⟨k, z, hz⟩ := hz
          simp only [hz]
          split
          · obtain ⟨b, k', hb⟩ := State.redecide_frame { s with counters := k, zones := z }
              { (s.item i).attemptDone with state := .decided }
            exact key _ _ rfl ⟨rfl, rfl⟩ ⟨b, k', z, hb⟩
          · exact key _ _ rfl ⟨rfl, rfl⟩ ⟨s.bins, k, z, rfl⟩

theorem workTrayCleared_itemLaws (tray : Nat) {s : State} (h : s.ItemLaws) :
    (workTrayCleared tray s).2.ItemLaws := by
  unfold workTrayCleared
  split
  · exact h
  · split
    · exact h
    next i it hf =>
      obtain ⟨rfl, hact, -⟩ := h.found hf
      obtain ⟨bins, hb⟩ := s.releaseReservation_frame (s.item i)
      obtain ⟨htl, ⟨hnd, hqueue⟩, hrl, hel⟩ := h
      simp only [hb]
      split
      next hst =>
        refine State.retire_itemLaws (s := State.bump
          { s with bins := bins, gradeQueue := s.gradeQueue.erase i } .removed) htl hrl hel hact rfl
          (hnd.erase i) fun j => ?_
        show j ∈ s.gradeQueue.erase i ↔ _
        rw [hnd.mem_erase_iff, hqueue]
        rfl
      next hst =>
        refine State.retire_itemLaws (s := State.bump { s with bins := bins } .removed) htl hrl hel hact rfl
          hnd fun j => ?_
        show j ∈ s.gradeQueue ↔ _
        rw [hqueue]
        exact ⟨fun hj => ⟨by rintro rfl; exact hst hj, hj⟩, fun hj => hj.2⟩

/-! ### The gradings and the evidence writes -/

theorem gradingFetch_itemLaws {s : State} (h : s.ItemLaws) : (gradingFetch s).ItemLaws := by
  unfold gradingFetch
  split
  · exact h.congr rfl rfl rfl rfl
  next i rest hq =>
    have hst : (s.item i).state = .queued := (h.2.1.2 i).1 (by rw [hq]; exact List.mem_cons_self ..)
    have hnd := h.2.1.1
    rw [hq, List.nodup_cons] at hnd
    have hc : State.ItemLaws { s.setItem i { s.item i with state := .grading } with gradeQueue := rest } := by
      refine h.change ((Item.active_iff _).2 (by rw [hst]; decide)) rfl ⟨rfl, rfl⟩ (fun hb => ?_) hnd.2
        fun j => ?_
      · have hn := h.bin_none (i := i) (by rw [hst]; decide) (by rw [hst]; decide) (by rw [hst]; decide)
        rw [show ({ s.item i with state := .grading } : Item).bin = (s.item i).bin from rfl, hn] at hb
        cases hb
      · rw [hq, List.mem_cons]
        by_cases heq : j = i
        · rw [if_pos heq, heq]
          exact ⟨fun hm => absurd hm hnd.1, fun hr => (nomatch hr)⟩
        · rw [if_neg heq]
          exact ⟨.inr, fun hm => hm.resolve_left heq⟩
    simp only
    split
    · exact hc.congr rfl rfl rfl rfl
    · exact hc.congr rfl rfl rfl rfl

theorem applyResult_itemLaws {s : State} {c : GradeCopy} {g : Option GradeResult}
    (hc : s.stillGrading c = true) (h : s.ItemLaws) : (applyResult c g s).ItemLaws := by
  have hst : (s.item c.index).state = .grading := by
    simp only [State.stillGrading, Bool.and_eq_true, beq_iff_eq] at hc
    exact hc.1
  obtain ⟨it, b, k, hid, hdec, he⟩ := applyResult_frame c g s
  rw [he]
  exact (h.changeItem ((Item.active_iff _).2 (by rw [hst]; decide))
    ((Item.active_iff _).2 (by rw [hdec]; decide)) hid (fun _ => .inl hdec)
    (by rw [hst, hdec]; decide)).congr rfl rfl rfl rfl

/-- A finding written changes the evidence alone. -/
theorem Item.withFinding_fields (it : Item) (r : ClassRecord) (f : Finding) :
    (it.withFinding r f).state = it.state ∧ (it.withFinding r f).bin = it.bin ∧
      it.SameIdentity (it.withFinding r f) := by
  cases f <;> exact ⟨rfl, rfl, rfl, rfl⟩

theorem writePiece_itemLaws {s : State} (p : Piece) (h : s.ItemLaws) : (s.writePiece p).ItemLaws := by
  unfold State.writePiece
  split
  · split
    · exact h.congr rfl rfl rfl rfl
    next i it hf =>
      obtain ⟨rfl, hact, -⟩ := h.found hf
      split
      next hst =>
        obtain ⟨hs, hb, hid⟩ := (s.item i).withFinding_fields (s.classRecord (s.item i).cls) p.finding
        have hn := h.bin_none (i := i) (by rw [hst]; decide) (by rw [hst]; decide) (by rw [hst]; decide)
        have hnq : (s.item i).state ≠ .queued := by rw [hst]; decide
        simp only
        split
        · exact h.enqueue hact hnq hid (hb.trans hn)
        · exact h.changeItem hact ((Item.active_congr hs).trans hact) hid
            (fun hsome => by rw [hb, hn] at hsome; cases hsome) (by rw [hs])
      · refine (h.changeItem (it := { s.item i with late := true }) hact hact ⟨rfl, rfl⟩ (fun hb => ?_)
          Iff.rfl).congr rfl rfl rfl rfl
        rcases h.2.2.2.2 i hb with e | e | e
        · exact .inl e
        · exact .inr e
        · exact absurd e ((Item.active_iff _).1 hact).2
  · exact h.congr rfl rfl rfl rfl

/-! ### Every command -/

theorem itemLaws_of_empty {t : State} (hi : t.items = []) (ht : t.trayIndex = []) (hq : t.gradeQueue = [])
    (hw : t.waitList = []) : t.ItemLaws := by
  have hread : ∀ j, t.item j = Item.empty := fun j => by simp only [State.item, hi]; rfl
  refine ⟨⟨fun tray e he => ?_, fun j hj => ?_⟩, ⟨hq ▸ .nil, fun j => ?_⟩, ⟨hw ▸ .nil, fun j => ?_⟩,
    fun j _ => hread j, fun j hj => ?_⟩
  · simp only [State.trayEntry, ht, tfind, reduceCtorEq] at he
  · rw [hread] at hj; cases hj
  · rw [hq, hread]; exact ⟨fun hm => (nomatch hm), fun hm => (nomatch hm)⟩
  · rw [hw, hread]; exact ⟨fun hm => (nomatch hm), fun hm => (nomatch hm)⟩
  · rw [hread] at hj; cases hj

theorem State.restartSorter_frame (s : State) : ∃ e, s.restartSorter = { s with sorterPort := e } := by
  unfold State.restartSorter
  split
  · exact ⟨_, rfl⟩
  · exact ⟨s.sorterPort, rfl⟩

/-- LINE RESTART empties the line (R192). -/
theorem lineRestartBlocks_emptied (s : State) :
    (lineRestartBlocks s).items = [] ∧ (lineRestartBlocks s).trayIndex = [] ∧
      (lineRestartBlocks s).gradeQueue = [] ∧ (lineRestartBlocks s).waitList = [] := by
  unfold lineRestartBlocks
  simp only
  generalize hu : (State.mk .. : State) = u
  obtain ⟨e, he⟩ := u.restartSorter_frame
  rw [he, ← hu]
  exact ⟨rfl, rfl, rfl, rfl⟩

theorem keptByCore_itemLaws : KeptByCore State.ItemLaws where
  quiet s t ht h := by
    obtain ⟨-, e⟩ := ht
    rw [e]
    exact h.congr rfl rfl rfl rfl
  config := .of_configTo fun s t ht h => by
    obtain ⟨_, _, _, _, _, _, _, _, _, _, _, -, e⟩ := ht
    rw [e]
    exact h.congr rfl rfl rfl rfl
  link s t ht h := by
    obtain ⟨_, _, -, e⟩ := ht
    rw [e]
    exact h.congr rfl rfl rfl rfl
  fifo _ _ _ h := h
  snapshot _ h := h
  mode _ _ _ h := h
  slotSet _ _ _ _ h := h
  slotAdjust _ _ _ _ h := h
  slotRelease _ _ _ h := h
  items p r s hr h := by
    cases r with
    | induct t l => exact workInduct_itemLaws t l h
    | destination t => exact workDestination_itemLaws t h
    | diverted t c => exact workDiverted_itemLaws t c h
    | divertFailed t c => exact workDivertFailed_itemLaws t c h
    | trayCleared t => exact workTrayCleared_itemLaws t h
    | collect => exact workCollect_itemLaws h
    | _ => cases hr
  fetch _ := gradingFetch_itemLaws
  apply _ _ _ := applyResult_itemLaws
  write _ p := writePiece_itemLaws p
  restart s _ := by
    obtain ⟨hi, ht, hq, hw⟩ := lineRestartBlocks_emptied s
    exact itemLaws_of_empty hi ht hq hw
  reset _ _ := itemLaws_of_empty rfl rfl rfl rfl

/-- Settles O56: the item laws are kept by each part of a command. -/
theorem itemLawsKept : Obligations.ItemLawsKept := fun _ _ h ht =>
  keptByCore_itemLaws.parts.step (fun _ _ h => h) h ht

end Sys2Proof.Machine
end

section
/-! PROOFS. The bins stay within capacity, and each reserved count is the number of reservations held (R131,
R138), in every step. -/

namespace Sys2Proof.Machine

/-! ### The bin the search finds (R133 to R135) -/

theorem bestOf_mem {better : Nat → Nat → Bool} {l : List Nat} {b : Nat} (h : bestOf better l = some b) :
    b ∈ l := by
  induction l generalizing b with
  | nil => cases h
  | cons a t ih =>
    unfold bestOf at h
    split at h
    · cases h; exact List.mem_cons_self ..
    next c hc =>
      split at h
      · cases h; exact List.mem_cons_of_mem _ (ih hc)
      · cases h; exact List.mem_cons_self ..

theorem State.mem_binsOf {s : State} {z b : Nat} {p : Bin → Bool} :
    b ∈ s.binsOf z p ↔ b < Config.binEntries ∧ (s.bin b).zone = z ∧ p (s.bin b) = true := by
  simp [State.binsOf]

theorem Bin.inUseFor_iff {k : Nat} {lane : Lane} {b : Bin} : b.inUseFor k lane = true ↔
    b.enabled = true ∧ b.lane = lane ∧ b.cls = some k ∧ 1 ≤ b.room := by
  simp [Bin.inUseFor, and_assoc]

theorem Bin.isEmpty_iff {b : Bin} : b.isEmpty = true ↔ b.committed = 0 ∧ b.reserved = 0 := by
  simp [Bin.isEmpty]

theorem Bin.openableFor_iff {k : Nat} {lane : Lane} {b : Bin} : b.openableFor k lane = true ↔
    b.enabled = true ∧ b.lane = lane ∧ b.isEmpty = true ∧ 1 ≤ b.capacity ∧
      (b.affinity = some k ∨ b.affinity = none) := by
  simp [Bin.openableFor, and_assoc]

/-- What the search in a zone finds is one of its bins, in use with room or empty with a capacity. -/
theorem State.searchZone_some {s : State} {k z b : Nat} {lane : Lane} (h : s.searchZone k lane z = some b) :
    b ∈ s.binsOf z (Bin.inUseFor k lane) ∨ b ∈ s.binsOf z (Bin.openableFor k lane) := by
  unfold State.searchZone at h
  split at h
  · split at h
    next c hc => cases h; unfold State.stepA at hc; exact .inl (bestOf_mem hc)
    next => unfold State.stepB at h; exact .inr (bestOf_mem h)
  · cases h

/-- The bin found has room for a unit. -/
theorem State.searchBin_room {s : State} {prefs : List Nat} {k b : Nat} {lane : Lane}
    (h : s.searchBin prefs k lane = some b) :
    b < Config.binEntries ∧ (s.bin b).committed + (s.bin b).reserved < (s.bin b).capacity := by
  obtain ⟨z, -, hz⟩ := List.exists_of_findSome?_eq_some h
  rcases State.searchZone_some hz with hm | hm
  · obtain ⟨hlt, -, hp⟩ := State.mem_binsOf.1 hm
    obtain ⟨-, -, -, hroom⟩ := Bin.inUseFor_iff.1 hp
    exact ⟨hlt, by unfold Bin.room at hroom; omega⟩
  · obtain ⟨hlt, -, hp⟩ := State.mem_binsOf.1 hm
    obtain ⟨-, -, hempty, hcap, -⟩ := Bin.openableFor_iff.1 hp
    obtain ⟨h0, h1⟩ := Bin.isEmpty_iff.1 hempty
    exact ⟨hlt, by omega⟩

/-! ### What the changes of a bin do to its counts -/

@[simp] theorem Bin.settleClass_committed (b : Bin) : b.settleClass.committed = b.committed := by
  unfold Bin.settleClass; split <;> rfl

@[simp] theorem Bin.settleClass_reserved (b : Bin) : b.settleClass.reserved = b.reserved := by
  unfold Bin.settleClass; split <;> rfl

@[simp] theorem Bin.settleClass_capacity (b : Bin) : b.settleClass.capacity = b.capacity := by
  unfold Bin.settleClass; split <;> rfl

/-- A bin within its capacity. -/
def Bin.Within (b : Bin) : Prop := b.committed + b.reserved ≤ b.capacity

theorem Bin.Within.release {b : Bin} (h : b.Within) : b.release.Within := by
  simp only [Bin.Within, Bin.release, Bin.settleClass_committed, Bin.settleClass_reserved,
    Bin.settleClass_capacity] at h ⊢
  omega

theorem Bin.Within.commit {b : Bin} (h : b.Within) : b.commit.Within := by
  simp only [Bin.Within, Bin.commit] at h ⊢
  omega

theorem Bin.Within.adjust {b : Bin} (h : b.Within) (n : Nat) (c : Option Nat) : (b.adjust n c).Within := by
  simp only [Bin.Within, Bin.adjust, Bin.settleClass_committed, Bin.settleClass_reserved,
    Bin.settleClass_capacity] at h ⊢
  omega

theorem Bin.Within.lower {b : Bin} (h : b.Within) (n : Nat) :
    ({ b with committed := b.committed - n }.settleClass).Within := by
  simp only [Bin.Within, Bin.settleClass_committed, Bin.settleClass_reserved, Bin.settleClass_capacity] at h ⊢
  omega

theorem Bin.Within.afterRestart {b : Bin} (h : b.Within) : b.afterRestart.Within := by
  simp only [Bin.Within, Bin.afterRestart, Bin.settleClass_committed, Bin.settleClass_reserved,
    Bin.settleClass_capacity] at h ⊢
  omega

/-- Settings that SLOT SET admits leave the bin within its capacity (R143, R144). -/
theorem Bin.within_withSettings {m : Mode} {b : Bin} {n : SlotSettings} (h : b.settingsRefused m n = false) :
    (b.withSettings n).Within := by
  have hle : ¬ n.capacity < b.committed + b.reserved := by
    intro hlt
    unfold Bin.settingsRefused at h
    cases m <;> simp [hlt] at h
  exact Nat.not_lt.1 hle

/-! ### The law of the Bin Map (R131) -/

theorem State.BinLaw.setBin {s : State} (h : s.BinLaw) {b : Nat} {r : Bin} (hr : r.Within) :
    (s.setBin b r).BinLaw := by
  intro j
  rw [State.bin_setBin]
  split
  · exact hr
  · exact h j

theorem State.BinLaw.congr {s t : State} (h : s.BinLaw) (ht : t.bins = s.bins) : t.BinLaw := by
  intro b
  rw [State.bin_congr ht]
  exact h b

/-- The bins after LINE RESTART (R149). -/
theorem lineRestartBlocks_bin (s : State) (b : Nat) : (lineRestartBlocks s).bin b =
    if b < Config.binEntries then (s.bin b).afterRestart else s.bin b := by
  have hb : (lineRestartBlocks s).bins = tupdate Bin.atReset Bin.afterRestart Config.binEntries s.bins := by
    unfold lineRestartBlocks
    simp only
    generalize hu : (State.mk .. : State) = u
    obtain ⟨e, he⟩ := u.restartSorter_frame
    rw [he, ← hu]
    dsimp only [State.emptyScans, State.bumpBy]
  rw [State.bin, hb]
  exact tget_tupdate _ _ _ _ _

theorem keptByCore_binLaw : KeptByCore State.BinLaw := by
  have hquiet : ∀ s t : State, s.QuietTo t → s.BinLaw → t.BinLaw := by
    rintro s t ⟨-, e⟩ h
    rw [e]; exact h
  have w : KeptByWrites State.BinLaw :=
    { quiet := hquiet
      setItem := fun _ _ _ h => h
      release := fun _ b h => h.setBin (Bin.Within.release (h b))
      commit := fun _ b h => h.setBin (Bin.Within.commit (h b))
      reserve := fun s _ k b _ hs h => h.setBin (by
        have hroom := (State.searchBin_room hs).2
        show (s.bin b).committed + ((s.bin b).reserved + 1) ≤ (s.bin b).capacity
        omega)
      zones := fun _ _ h => h
      setManifest := fun _ _ _ h => h
      setTray := fun _ _ _ h => h
      queue := fun _ _ h => h
      ticket := fun _ h => h
      retire := fun s i it h => by
        obtain ⟨_, _, _, _, e⟩ := s.retire_frame i it
        rw [e]; exact h }
  exact
    { quiet := hquiet
      config := .of_configTo fun s t ht h => by
        obtain ⟨_, _, _, _, _, _, _, _, _, _, _, -, e⟩ := ht
        rw [e]; exact h
      link := fun s t ht h => by
        obtain ⟨_, _, -, e⟩ := ht
        rw [e]; exact h
      fifo := fun _ _ _ h => h
      snapshot := fun _ h => h
      mode := fun _ _ _ h => h
      slotSet := fun _ _ _ hn h => h.setBin (Bin.within_withSettings hn)
      slotAdjust := fun _ b n c h => h.setBin (Bin.Within.adjust (h b) n c)
      slotRelease := fun _ b n h => h.setBin (Bin.Within.lower (h b) n)
      items := w.toItems.items fun s h => by
        obtain ⟨_, _, _, _, e⟩ := workCollect_frame s
        rw [e]; exact h
      fetch := fun _ => w.gradingFetch
      apply := fun c g _ _ => w.toItems.applyResult c g
      write := fun _ _ => w.toItems.writePiece
      restart := fun s h b => by
        rw [lineRestartBlocks_bin]
        split
        · exact Bin.Within.afterRestart (h b)
        · exact h b
      reset := fun _ _ _ => Nat.le_refl 0 }

/-! ### The reservations (R136, R138) -/

/-- 1 where a reservation names a bin. -/
def namesBin (o : Option Nat) (b : Nat) : Nat := if o = some b then 1 else 0

@[simp] theorem namesBin_none (b : Nat) : namesBin none b = 0 := rfl

/-- From `s` to `t` one item's reservation moves from `old` to `new`, the reserved counts with it. -/
def State.Rereserves (s t : State) (old new : Option Nat) : Prop :=
  t.mode = s.mode ∧
    ∀ b, b < Config.binEntries → (t.bin b).reserved + namesBin old b = (s.bin b).reserved + namesBin new b

theorem State.Rereserves.refl (s : State) (o : Option Nat) : s.Rereserves s o o := ⟨rfl, fun _ _ => rfl⟩

theorem State.Rereserves.trans {s t u : State} {a b c : Option Nat} (h : s.Rereserves t a b)
    (h' : t.Rereserves u b c) : s.Rereserves u a c := by
  refine ⟨h'.1.trans h.1, fun n hn => ?_⟩
  have h1 := h.2 n hn
  have h2 := h'.2 n hn
  omega

/-- A state with the same bins and mode. -/
theorem State.Rereserves.congr {s t u : State} {a b : Option Nat} (h : s.Rereserves t a b)
    (hb : u.bins = t.bins) (hm : u.mode = t.mode) : s.Rereserves u a b :=
  ⟨hm.trans h.1, fun n hn => by rw [State.bin_congr hb]; exact h.2 n hn⟩

/-- The reserved count of every bin that a reservation names is not 0. -/
def State.Backed (s : State) (o : Option Nat) : Prop :=
  ∀ b, b < Config.binEntries → o = some b → 1 ≤ (s.bin b).reserved

/-- The reserved count of one bin changes. -/
theorem State.rereserves_setBin {s : State} {b : Nat} {r : Bin} {a c : Option Nat}
    (hr : b < Config.binEntries → r.reserved + namesBin a b = (s.bin b).reserved + namesBin c b)
    (hother : ∀ j, j ≠ b → namesBin a j = namesBin c j) : s.Rereserves (s.setBin b r) a c := by
  refine ⟨rfl, fun j hj => ?_⟩
  rw [State.bin_setBin]
  by_cases h : j = b
  · rw [if_pos h, h]
    exact hr (h ▸ hj)
  · rw [if_neg h, hother j h]

theorem namesBin_self (b : Nat) : namesBin (some b) b = 1 := if_pos rfl

theorem namesBin_of_ne {j b : Nat} (h : j ≠ b) : namesBin (some b) j = 0 :=
  if_neg fun e => h (Option.some.inj e).symm

theorem State.releaseBin_rereserves {s : State} {b : Nat} (h : s.Backed (some b)) :
    s.Rereserves (s.releaseBin b) (some b) none := by
  refine State.rereserves_setBin (fun hb => ?_) fun j hj => by rw [namesBin_of_ne hj, namesBin_none]
  have hpos := h b hb rfl
  rw [namesBin_self, namesBin_none, Bin.release, Bin.settleClass_reserved]
  exact Nat.sub_add_cancel hpos

theorem State.commitBin_rereserves {s : State} {b : Nat} (h : s.Backed (some b)) :
    s.Rereserves (s.setBin b (s.bin b).commit) (some b) none := by
  refine State.rereserves_setBin (fun hb => ?_) fun j hj => by rw [namesBin_of_ne hj, namesBin_none]
  have hpos := h b hb rfl
  rw [namesBin_self, namesBin_none]
  show (s.bin b).reserved - min 1 (s.bin b).reserved + 1 = (s.bin b).reserved
  omega

theorem State.reserveBin_rereserves (s : State) (b k : Nat) :
    s.Rereserves (s.reserveBin b k) none (some b) :=
  State.rereserves_setBin (fun _ => by rw [namesBin_self, namesBin_none]; rfl)
    fun j hj => by rw [namesBin_of_ne hj, namesBin_none]

theorem State.releaseReservation_rereserves {s : State} {it : Item} (h : s.Backed (s.reservation it)) :
    s.Rereserves (s.releaseReservation it) (s.reservation it) none := by
  unfold State.releaseReservation
  split
  next b hb => rw [hb] at h ⊢; exact State.releaseBin_rereserves h
  next hb => rw [hb]; exact .refl s none

/-- The reservation of an item reads the mode, and its state and its bin. -/
theorem State.reservation_congr {s t : State} {it it' : Item} (hm : t.mode = s.mode)
    (hs : it'.state = it.state) (hb : it'.bin = it.bin) : t.reservation it' = s.reservation it := by
  simp only [State.reservation, hm, hs, hb]

theorem State.reservation_of_state {s : State} {it : Item} (hd : it.state ≠ .decided) (hr : it.state ≠ .routed) :
    s.reservation it = none := if_neg fun h => h.2.elim hd hr

theorem State.reservation_of_bin {s : State} {it : Item} (h : it.bin = none) : s.reservation it = none := by
  unfold State.reservation
  split
  · exact h
  · rfl

theorem State.reservation_of_decided {s : State} {it : Item} (hm : s.mode = .run)
    (hs : it.state = .decided ∨ it.state = .routed) : s.reservation it = it.bin := if_pos ⟨hm, hs⟩

theorem State.reservation_of_mode {s : State} (hm : s.mode ≠ .run) (it : Item) : s.reservation it = none :=
  if_neg fun h => hm h.1

theorem State.reservation_some {s : State} {it : Item} {b : Nat} (h : s.reservation it = some b) :
    s.mode = .run ∧ (it.state = .decided ∨ it.state = .routed) ∧ it.bin = some b := by
  unfold State.reservation at h
  split at h
  next hc => exact ⟨hc.1, hc.2, h⟩
  next => cases h

/-- A reallocation releases the bin, and reserves the one found or names none (R141). -/
theorem State.reallocate_cases (s : State) (it : Item) (b : Nat) :
    (∃ b', (s.reallocate it b).1.bin = some b' ∧
      (s.reallocate it b).2 = (s.releaseBin b).reserveBin b' it.cls) ∨
    ((s.reallocate it b).1.bin = none ∧
      (s.reallocate it b).2 = ((s.releaseBin b).bump .noSlot).bump .reviewed) := by
  unfold State.reallocate
  simp only
  split
  · exact .inl ⟨_, rfl, rfl⟩
  · exact .inr ⟨rfl, rfl⟩

/-- A reallocation moves an item's reservation with its bin (R141). -/
theorem State.reallocate_rereserves {s : State} {it : Item} {b : Nat} (hres : s.reservation it = some b)
    (h : s.Backed (some b)) :
    s.Rereserves (s.reallocate it b).2 (s.reservation it) (s.reservation (s.reallocate it b).1) := by
  obtain ⟨hmode, hst, -⟩ := State.reservation_some hres
  obtain ⟨⟨hst', -⟩, -⟩ := s.reallocate_frame it b
  have hrel := State.releaseBin_rereserves h
  rw [hres, State.reservation_of_decided hmode (hst' ▸ hst)]
  rcases s.reallocate_cases it b with ⟨b', hb, he⟩ | ⟨hb, he⟩
  · rw [hb, he]
    exact hrel.trans (State.reserveBin_rereserves _ b' _)
  · rw [hb, he]
    exact hrel.congr rfl rfl

theorem State.reallocateIfBlocked_rereserves {s : State} {it : Item} (h : s.Backed (s.reservation it)) :
    s.Rereserves (s.reallocateIfBlocked it).2 (s.reservation it)
      (s.reservation (s.reallocateIfBlocked it).1) := by
  unfold State.reallocateIfBlocked
  split
  next b hb =>
    split
    · exact State.reallocate_rereserves hb (hb ▸ h)
    · exact .refl s _
  next => exact .refl s _

theorem State.redecide_rereserves {s : State} {it : Item} (h : s.Backed (s.reservation it)) :
    s.Rereserves (s.redecide it).2 (s.reservation it) (s.reservation (s.redecide it).1) := by
  rw [show s.reservation (s.redecide it).1 = none from State.reservation_of_bin rfl]
  exact (State.releaseReservation_rereserves h).congr rfl rfl

/-- The bin and chute steps reserve the bin the item names, in RUN (R111, R136). -/
theorem State.placeItem_rereserves (s : State) (c : GradeCopy) (it : Item) (d : Disposition) (r : Reason) :
    s.Rereserves (s.placeItem c it d r).2 none
      (s.reservation { (s.placeItem c it d r).1 with state := .decided }) := by
  have hfin : ∀ (d : Disposition) (r : Reason) (t : State), t.bins = s.bins → t.mode = s.mode →
      s.Rereserves t none (s.reservation { finishWithoutBin s.line it d r with state := .decided }) := by
    intro d r t hb hm
    have hnone : (finishWithoutBin s.line it d r).bin = none := by
      unfold finishWithoutBin
      split <;> rfl
    have hres : s.reservation { finishWithoutBin s.line it d r with state := .decided } = none :=
      State.reservation_of_bin hnone
    rw [hres]
    exact (State.Rereserves.refl s none).congr hb hm
  unfold State.placeItem
  split
  · exact hfin d r s rfl rfl
  · split
    next b _ =>
      by_cases hm : s.mode = .run
      · simp only [hm, if_true]
        rw [State.reservation_of_decided (s := s) hm (.inl rfl)]
        exact s.reserveBin_rereserves b _
      · simp only [hm, if_false]
        rw [State.reservation_of_mode hm]
        exact .refl s none
    · exact hfin _ _ _ rfl rfl

/-! ### The law of the reservations -/

/-- One item changes, its reservation and the reserved counts with it. -/
theorem State.ReservationLaw.change {s t : State} (h : s.ReservationLaw) {i : Nat} {it : Item}
    (hlt : i < Config.itemEntries) (hread : ∀ j, t.item j = if j = i then it else s.item j)
    (hmove : s.Rereserves t (s.reservation (s.item i)) (s.reservation it)) : t.ReservationLaw := by
  obtain ⟨hmode, hcount⟩ := hmove
  have hres : ∀ x : Item, t.reservation x = s.reservation x := fun x => State.reservation_congr hmode rfl rfl
  intro b hb
  have hch := countP_range_change Config.itemEntries i (fun j => t.reservation (t.item j) == some b)
    (fun j => s.reservation (s.item j) == some b)
    (fun j hj => by simp only [hres, hread, if_neg hj])
  have hlaw := h b hb
  have hc := hcount b hb
  simp only [hres, hread, if_true, hlt, true_and, beq_iff_eq] at hch
  simp only [State.holders, hres, hread, namesBin] at hlaw hc ⊢
  omega

/-- No item's reservation changes, nor any reserved count. -/
theorem State.ReservationLaw.same {s t : State} (h : s.ReservationLaw)
    (hres : ∀ i, t.reservation (t.item i) = s.reservation (s.item i))
    (hbin : ∀ b, b < Config.binEntries → (t.bin b).reserved = (s.bin b).reserved) : t.ReservationLaw := by
  intro b hb
  rw [hbin b hb, h b hb]
  simp only [State.holders, hres]

/-- What an item holds is counted. -/
theorem State.ReservationLaw.backed {s : State} (h : s.ReservationLaw) {i : Nat} (hlt : i < Config.itemEntries) :
    s.Backed (s.reservation (s.item i)) := by
  intro b hb hres
  rw [h b hb]
  exact List.countP_pos_iff.2 ⟨i, List.mem_range.2 hlt, by simp [hres]⟩

/-- Retirement leaves one item that holds no reservation, and the others as they were. -/
theorem State.retire_item (s : State) (i : Nat) (it : Item) :
    ∃ x : Item, (x.state = .free ∨ x.state = .retiring) ∧
      ∀ j, (s.retire i it).item j = if j = i then x else s.item j := by
  by_cases hfree : s.urgent.length + s.routine.length < Config.reportRecords
  · rw [State.retire_of_free hfree]
    obtain ⟨u, v, hr⟩ := (s.clearTray it.tray).queueReport_frame (Report.ofItem s.mode it)
    rw [hr]
    exact ⟨Item.empty, .inl rfl, fun j => State.item_setItem _ _ _ _⟩
  · rw [State.retire_of_full (Nat.not_lt.1 hfree)]
    exact ⟨_, .inr rfl, fun j => (s.clearTray it.tray).item_setItem i j { it with state := .retiring }⟩

theorem State.reservation_of_left {s : State} {x : Item} (h : x.state = .free ∨ x.state = .retiring) :
    s.reservation x = none := by
  rcases h with h | h <;> exact State.reservation_of_state (by rw [h]; decide) (by rw [h]; decide)

/-- An item whose reservation has been returned or committed retires (R138). -/
theorem State.ReservationLaw.retire {s t : State} (h : s.ReservationLaw) {i : Nat} {it : Item}
    (hlt : i < Config.itemEntries) (hitems : t.items = s.items)
    (hmove : s.Rereserves t (s.reservation (s.item i)) none) : (t.retire i it).ReservationLaw := by
  obtain ⟨x, hx, hread⟩ := t.retire_item i it
  obtain ⟨_, _, _, _, hframe⟩ := t.retire_frame i it
  refine h.change hlt (it := x) (fun j => ?_) ?_
  · rw [hread, State.item_congr hitems]
  · rw [State.reservation_of_left hx]
    exact hmove.congr (by rw [hframe]; rfl) (by rw [hframe]; rfl)

end Sys2Proof.Machine
end

section
/-! PROOFS. The requests, the gradings and the evidence writes keep the law of the reservations. -/

namespace Sys2Proof.Machine

/-- An item that holds no reservation before or after changes; the reserved counts do not. -/
theorem State.ReservationLaw.unreserved {s t : State} (h : s.ReservationLaw) {i : Nat} {it : Item}
    (hlt : i < Config.itemEntries) (hread : ∀ j, t.item j = if j = i then it else s.item j)
    (hbins : t.bins = s.bins) (hmode : t.mode = s.mode)
    (hres : s.reservation it = s.reservation (s.item i)) : t.ReservationLaw :=
  h.change hlt hread (hres ▸ (State.Rereserves.refl s _).congr hbins hmode)

theorem State.ReservationLaw.setItem_bump {s : State} (h : s.ReservationLaw) {i : Nat} {it : Item} {c : Counter}
    (hlt : i < Config.itemEntries) (hres : s.reservation it = s.reservation (s.item i)) :
    ((s.setItem i it).bump c).ReservationLaw :=
  h.unreserved hlt (fun j => s.item_setItem i j it) rfl rfl hres

/-- A state that differs from `s` in no item, no bin and not in the mode. -/
theorem State.ReservationLaw.congr {s t : State} (h : s.ReservationLaw) (hi : t.items = s.items)
    (hb : t.bins = s.bins) (hm : t.mode = s.mode) : t.ReservationLaw :=
  h.same (fun i => by rw [State.item_congr hi]; exact State.reservation_congr hm rfl rfl)
    fun b _ => by rw [State.bin_congr hb]

theorem State.enqueue_frame (s : State) (i : Nat) (it : Item) :
    (∀ j, (s.enqueue i it).item j = if j = i then { it with state := .queued } else s.item j) ∧
      (s.enqueue i it).bins = s.bins ∧ (s.enqueue i it).mode = s.mode := by
  rw [State.enqueue_eq]
  exact ⟨fun j => s.item_setItem i j { it with state := .queued }, rfl, rfl⟩

theorem State.reservation_of_queued {s : State} {it : Item} (h : it.state = .queued) : s.reservation it = none :=
  State.reservation_of_state (by rw [h]; decide) (by rw [h]; decide)

theorem State.reservation_of_opened {s : State} {it : Item} (h : it.state = .opened) : s.reservation it = none :=
  State.reservation_of_state (by rw [h]; decide) (by rw [h]; decide)

theorem State.reservation_of_grading {s : State} {it : Item} (h : it.state = .grading) : s.reservation it = none :=
  State.reservation_of_state (by rw [h]; decide) (by rw [h]; decide)

theorem State.ItemLaws.lt_of_active {s : State} (h : s.ItemLaws) {i : Nat} (ha : (s.item i).active = true) :
    i < Config.itemEntries := h.lt ((Item.active_iff _).1 ha).1

/-! ### The requests of the items -/

theorem workInduct_reservationLaw (tray label : Nat) {s : State} (h : s.ReservationLaw) :
    (workInduct tray label s).2.ReservationLaw := by
  unfold workInduct
  split
  · exact h
  · split
    · exact h
    · split
      · exact h
      next i hi =>
        obtain ⟨hlt, hfree⟩ := s.freeEntry_some hi
        obtain ⟨m, c, hm⟩ := s.countReceived_frame label
        have hold : s.reservation (s.item i) = none := State.reservation_of_left (.inl hfree)
        simp only [hm]
        split
        · refine h.unreserved (it := { s.newItem tray label with state := .opened }) hlt
            (fun j => State.item_setItem _ i j _) rfl rfl ?_
          rw [hold]
          exact State.reservation_of_opened rfl
        · obtain ⟨hread, hbins, hmode⟩ := State.enqueue_frame
            ((({ s with manifests := m, counters := c, nextTicket := ticketAfter s.nextTicket } :
              State).setTray tray { index := i, ticket := (s.newItem tray label).ticket }).bump .inducted)
            i (s.newItem tray label)
          refine h.unreserved hlt hread hbins hmode ?_
          rw [hold]
          exact State.reservation_of_queued rfl

theorem workDestination_reservationLaw (tray : Nat) {s : State} (hl : s.ItemLaws) (h : s.ReservationLaw) :
    (workDestination tray s).2.ReservationLaw := by
  unfold workDestination
  split
  · exact h
  · split
    · exact h
    next i it hf =>
      obtain ⟨rfl, hact, -⟩ := hl.found hf
      have hlt := hl.lt_of_active hact
      have hback := h.backed hlt
      have waiting : (destinationWaiting i (s.item i) s).2.ReservationLaw :=
        h.setItem_bump hlt (State.reservation_congr rfl rfl rfl)
      split
      next hst =>
        have hold : s.reservation (s.item i) = none := State.reservation_of_opened hst
        have hbin := hl.bin_none (i := i) (by rw [hst]; decide) (by rw [hst]; decide) (by rw [hst]; decide)
        unfold destinationOpen
        simp only
        split
        · obtain ⟨hread, hbins, hmode⟩ := s.enqueue_frame i (s.item i).lapDone
          refine h.unreserved hlt hread hbins hmode ?_
          rw [hold]
          exact State.reservation_of_queued rfl
        · split
          · refine h.setItem_bump hlt ?_
            rw [hold]
            exact State.reservation_of_bin hbin
          · exact h.setItem_bump hlt (State.reservation_congr rfl rfl rfl)
      · exact waiting
      · exact waiting
      next hst =>
        obtain ⟨⟨hstate, -⟩, b, k, hframe⟩ := s.reallocateIfBlocked_frame (s.item i)
        have hres : s.reservation { (s.reallocateIfBlocked (s.item i)).1 with state := .routed } =
            s.reservation (s.reallocateIfBlocked (s.item i)).1 := by
          unfold State.reservation
          simp only [hstate, hst, reduceCtorEq, or_true, or_false]
        refine h.change hlt (it := { (s.reallocateIfBlocked (s.item i)).1 with state := .routed }) (fun j => ?_) ?_
        · refine (State.item_setItem _ i j _).trans ?_
          rw [hframe]
          rfl
        · rw [hres]
          exact (State.reallocateIfBlocked_rereserves hback).congr rfl rfl
      next hst =>
        have hsame : (s.bump .divertFailed).reservation (s.item i).lapDone.attemptDone =
            s.reservation (s.item i) := State.reservation_congr rfl rfl rfl
        have key : ∀ r : Item × State, r.2.items = s.items →
            (s.bump .divertFailed).Rereserves r.2 (s.reservation (s.item i))
              ((s.bump .divertFailed).reservation r.1) → (r.2.setItem i r.1).ReservationLaw := by
          intro r hitems hmove
          refine h.change hlt (it := r.1) (fun j => ?_) ?_
          · rw [State.item_setItem, State.item_congr hitems]
          · exact State.Rereserves.congr (s := s) (t := r.2) hmove rfl rfl
        unfold destinationRouted
        simp only
        split
        · obtain ⟨b, k, hframe⟩ := (s.bump .divertFailed).redecide_frame (s.item i).lapDone.attemptDone
          refine key _ (by rw [hframe]; rfl) ?_
          rw [← hsame]
          exact State.redecide_rereserves (hsame ▸ hback)
        · obtain ⟨-, b, k, hframe⟩ :=
            (s.bump .divertFailed).reallocateIfBlocked_frame (s.item i).lapDone.attemptDone
          refine key _ (by rw [hframe]; rfl) ?_
          rw [← hsame]
          exact State.reallocateIfBlocked_rereserves (hsame ▸ hback)
      · exact h
      · exact h

theorem workDiverted_reservationLaw (tray chute : Nat) {s : State} (hl : s.ItemLaws) (h : s.ReservationLaw) :
    (workDiverted tray chute s).2.ReservationLaw := by
  unfold workDiverted
  split
  · exact h
  · split
    · exact h
    next i it hf =>
      obtain ⟨rfl, hact, -⟩ := hl.found hf
      have hlt := hl.lt_of_active hact
      have hback := h.backed hlt
      split
      · exact h
      · split
        · unfold confirmDivert
          simp only
          split
          next b hb => exact h.retire hlt rfl (hb ▸ State.commitBin_rereserves (hb ▸ hback))
          next hb => exact h.retire hlt rfl (hb ▸ .refl s none)
        · obtain ⟨bins, hframe⟩ := s.releaseReservation_frame (s.item i)
          refine h.retire hlt (by rw [hframe]; rfl) ?_
          exact (State.releaseReservation_rereserves hback).congr rfl rfl

theorem workDivertFailed_reservationLaw (tray cause : Nat) {s : State} (hl : s.ItemLaws) (h : s.ReservationLaw) :
    (workDivertFailed tray cause s).2.ReservationLaw := by
  unfold workDivertFailed
  split
  · exact h
  · split
    · exact h
    · split
      · exact h
      next c _ _ i it hf =>
        obtain ⟨rfl, hact, -⟩ := hl.found hf
        have hlt := hl.lt_of_active hact
        have hback := h.backed hlt
        split
        · exact h
        next hst =>
          have hst := not_not.1 hst
          have hz : ∃ counters zones, (if c = .chuteFull then
              (s.bump .divertFailed).updateZones (Zone.blockFor ((s.item i).attemptDone.chute.getD 0))
              else s.bump .divertFailed) = { s with counters := counters, zones := zones } := by
            split
            · exact ⟨_, _, rfl⟩
            · exact ⟨_, s.zones, rfl⟩
          obtain ⟨k, z, hz⟩ := hz
          simp only [hz]
          generalize hu : ({ s with counters := k, zones := z } : State) = u
          have hmode : u.mode = s.mode := by rw [← hu]
          have hbins : u.bins = s.bins := by rw [← hu]
          have hitems : u.items = s.items := by rw [← hu]
          have hres : ∀ x : Item, u.reservation x = s.reservation x := fun x => State.reservation_congr hmode rfl rfl
          generalize hx : ({ (s.item i).attemptDone with state := .decided } : Item) = x
          have hsame : s.reservation x = s.reservation (s.item i) := by
            unfold State.reservation
            rw [← hx, hst]
            simp [Item.attemptDone]
          have hsu : s.Rereserves u (s.reservation (s.item i)) (u.reservation x) := by
            rw [hres, hsame]
            exact (State.Rereserves.refl s _).congr hbins hmode
          have hdecided : ∀ r : Item × State, r.2.items = u.items →
              u.Rereserves r.2 (u.reservation x) (u.reservation r.1) → (r.2.setItem i r.1).ReservationLaw := by
            intro r hr hmove
            refine h.change hlt (it := r.1) (fun j => ?_) ?_
            · rw [State.item_setItem, State.item_congr (hr.trans hitems)]
            · rw [← hres r.1]
              exact (hsu.trans hmove).congr rfl rfl
          refine hdecided (if u.triesSpent x then u.redecide x else (x, u)) ?_ ?_
          · split
            · obtain ⟨b, k', hframe⟩ := u.redecide_frame x
              rw [hframe]
            · rfl
          · split
            · refine State.redecide_rereserves fun b hb he => ?_
              rw [State.bin_congr hbins]
              exact hback b hb (by rw [← hsame, ← hres]; exact he)
            · exact .refl u _

theorem workTrayCleared_reservationLaw (tray : Nat) {s : State} (hl : s.ItemLaws) (h : s.ReservationLaw) :
    (workTrayCleared tray s).2.ReservationLaw := by
  unfold workTrayCleared
  split
  · exact h
  · split
    · exact h
    next i it hf =>
      obtain ⟨rfl, hact, -⟩ := hl.found hf
      have hlt := hl.lt_of_active hact
      have hmove := State.releaseReservation_rereserves (h.backed hlt)
      obtain ⟨bins, hframe⟩ := s.releaseReservation_frame (s.item i)
      simp only
      split
      · exact h.retire hlt (by rw [hframe]; rfl) (hmove.congr rfl rfl)
      · exact h.retire hlt (by rw [hframe]; rfl) (hmove.congr rfl rfl)

theorem State.serveWaitList_reservationLaw {s : State} (hl : s.ItemLaws) (h : s.ReservationLaw) :
    s.serveWaitList.ReservationLaw := by
  unfold State.serveWaitList
  split
  · exact h
  next i rest hw =>
    have hret : (s.item i).state = .retiring := (hl.2.2.1.2 i).1 (by rw [hw]; exact List.mem_cons_self ..)
    have hlt := hl.lt (i := i) (by rw [hret]; decide)
    obtain ⟨u, v, hr⟩ := State.queueReport_frame { s with waitList := rest } (Report.ofItem s.mode (s.item i))
    rw [hr]
    refine h.unreserved (it := Item.empty) hlt (fun j => State.item_setItem _ i j _) rfl rfl ?_
    rw [State.reservation_of_left (.inr hret)]
    exact State.reservation_of_left (.inl rfl)

theorem workCollect_reservationLaw {s : State} (hl : s.ItemLaws) (h : s.ReservationLaw) :
    (workCollect s).2.ReservationLaw := by
  unfold workCollect
  split
  next r rest _ => exact State.serveWaitList_reservationLaw (s := { s with urgent := rest }) hl h
  next r rest _ _ => exact State.serveWaitList_reservationLaw (s := { s with routine := rest }) hl h
  · exact h

/-! ### The gradings and the evidence writes -/

theorem gradingFetch_reservationLaw {s : State} (hl : s.ItemLaws) (h : s.ReservationLaw) :
    (gradingFetch s).ReservationLaw := by
  unfold gradingFetch
  split
  · exact h.congr rfl rfl rfl
  next i rest hq =>
    have hst : (s.item i).state = .queued := (hl.2.1.2 i).1 (by rw [hq]; exact List.mem_cons_self ..)
    have hlt := hl.lt (i := i) (by rw [hst]; decide)
    have hres : s.reservation { s.item i with state := .grading } = s.reservation (s.item i) := by
      rw [State.reservation_of_queued hst]
      exact State.reservation_of_grading rfl
    have hset : (s.setItem i { s.item i with state := .grading }).ReservationLaw :=
      h.unreserved hlt (fun j => s.item_setItem i j _) rfl rfl hres
    simp only
    split
    · exact hset.congr rfl rfl rfl
    · exact hset.congr rfl rfl rfl

theorem applyResult_reservationLaw {s : State} {c : GradeCopy} {g : Option GradeResult}
    (hc : s.stillGrading c = true) (hl : s.ItemLaws) (h : s.ReservationLaw) :
    (applyResult c g s).ReservationLaw := by
  have hst : (s.item c.index).state = .grading := by
    simp only [State.stillGrading, Bool.and_eq_true, beq_iff_eq] at hc
    exact hc.1
  have hlt := hl.lt (i := c.index) (by rw [hst]; decide)
  unfold applyResult
  simp only
  generalize ({ s.item c.index with score := g.map (·.score), grade := g.map (·.grade) } : Item) = it
  obtain ⟨-, bins, k, hp⟩ := s.placeItem_frame c it (decideDisposition c g).1 (decideDisposition c g).2
  have hmove := s.placeItem_rereserves c it (decideDisposition c g).1 (decideDisposition c g).2
  generalize s.placeItem c it (decideDisposition c g).1 (decideDisposition c g).2 = r at hp hmove ⊢
  obtain ⟨k', hk⟩ := r.2.countDecision_frame g r.1
  refine h.change hlt (it := { r.1 with state := .decided }) (fun j => ?_) ?_
  · rw [State.item_setItem, hk, hp]
    rfl
  · rw [State.reservation_of_grading hst]
    exact hmove.congr (by rw [State.setItem_bins, hk]) (by rw [State.setItem_mode, hk])

theorem writePiece_reservationLaw {s : State} (p : Piece) (hl : s.ItemLaws) (h : s.ReservationLaw) :
    (s.writePiece p).ReservationLaw := by
  unfold State.writePiece
  split
  · split
    · exact h.congr rfl rfl rfl
    next i it hf =>
      obtain ⟨rfl, hact, -⟩ := hl.found hf
      have hlt := hl.lt_of_active hact
      split
      next hst =>
        obtain ⟨hs, hb, -⟩ := (s.item i).withFinding_fields (s.classRecord (s.item i).cls) p.finding
        simp only
        split
        · obtain ⟨hread, hbins, hmode⟩ := s.enqueue_frame i
            ((s.item i).withFinding (s.classRecord (s.item i).cls) p.finding)
          refine h.unreserved hlt hread hbins hmode ?_
          rw [State.reservation_of_opened hst]
          exact State.reservation_of_queued rfl
        · exact h.unreserved hlt (fun j => s.item_setItem i j _) rfl rfl (State.reservation_congr rfl hs hb)
      · exact h.unreserved hlt (fun j => s.item_setItem i j { s.item i with late := true }) rfl rfl
          (State.reservation_congr rfl rfl rfl)
  · exact h.congr rfl rfl rfl

/-! ### Every command -/

/-- No item of an empty line holds a reservation, in any mode. -/
theorem State.ReservationLaw.mode {s : State} (h : s.ReservationLaw) (hlive : s.liveItems = 0) (m : Mode) :
    State.ReservationLaw { s with mode := m } := by
  have hfree : ∀ i, i < Config.itemEntries → (s.item i).state = .free := by
    intro i hi
    have hnot := List.countP_eq_zero.1 hlive i (List.mem_range.2 hi)
    simpa [State.item] using hnot
  intro b hb
  refine (h b hb).trans (List.countP_congr fun i hi => ?_)
  have hst := hfree i (List.mem_range.1 hi)
  have hnone : ∀ u : State, u.reservation (s.item i) = none := fun u => State.reservation_of_left (.inl hst)
  show (s.reservation (s.item i) == some b) = true ↔
    (State.reservation { s with mode := m } (s.item i) == some b) = true
  rw [hnone, hnone]

theorem State.reservationLaw_of_empty {s : State} (hitems : s.items = [])
    (hbins : ∀ b, b < Config.binEntries → (s.bin b).reserved = 0) : s.ReservationLaw := by
  intro b hb
  rw [hbins b hb]
  refine (List.countP_eq_zero.2 fun i _ => ?_).symm
  have hread : s.item i = Item.empty := by simp only [State.item, hitems]; rfl
  rw [hread, State.reservation_of_left (.inl rfl)]
  simp

/-- A reserved count that a bin's change leaves alone. -/
theorem State.ReservationLaw.setBin {s : State} (h : s.ReservationLaw) {b : Nat} {r : Bin}
    (hr : r.reserved = (s.bin b).reserved) : (s.setBin b r).ReservationLaw := by
  refine h.same (fun i => rfl) fun j _ => ?_
  rw [State.bin_setBin]
  split
  next heq => rw [hr, heq]
  next => rfl

theorem keptByCore_reservations : KeptByCore (fun s => s.ItemLaws ∧ s.ReservationLaw) where
  quiet s t ht h := by
    obtain ⟨-, e⟩ := ht
    rw [e]
    exact ⟨h.1.congr rfl rfl rfl rfl, h.2.congr rfl rfl rfl⟩
  config := .of_configTo fun s t ht h => by
    obtain ⟨_, _, _, _, _, _, _, _, _, _, _, -, e⟩ := ht
    rw [e]
    exact ⟨h.1.congr rfl rfl rfl rfl, h.2.congr rfl rfl rfl⟩
  link s t ht h := by
    obtain ⟨_, _, -, e⟩ := ht
    rw [e]
    exact ⟨h.1.congr rfl rfl rfl rfl, h.2.congr rfl rfl rfl⟩
  fifo _ _ _ h := h
  snapshot _ h := h
  mode _ m hl h := ⟨h.1, h.2.mode hl m⟩
  slotSet _ _ _ _ h := ⟨h.1, h.2.setBin rfl⟩
  slotAdjust _ _ _ _ h := ⟨h.1, h.2.setBin (by rw [Bin.adjust, Bin.settleClass_reserved])⟩
  slotRelease _ _ _ h := ⟨h.1, h.2.setBin (by rw [Bin.settleClass_reserved])⟩
  items p r s hr h := ⟨keptByCore_itemLaws.items p r s hr h.1, by
    obtain ⟨hl, h⟩ := h
    cases r with
    | induct t l => exact workInduct_reservationLaw t l h
    | destination t => exact workDestination_reservationLaw t hl h
    | diverted t c => exact workDiverted_reservationLaw t c hl h
    | divertFailed t c => exact workDivertFailed_reservationLaw t c hl h
    | trayCleared t => exact workTrayCleared_reservationLaw t hl h
    | collect => exact workCollect_reservationLaw hl h
    | _ => cases hr⟩
  fetch _ h := ⟨gradingFetch_itemLaws h.1, gradingFetch_reservationLaw h.1 h.2⟩
  apply _ _ _ hc h := ⟨applyResult_itemLaws hc h.1, applyResult_reservationLaw hc h.1 h.2⟩
  write _ p h := ⟨writePiece_itemLaws p h.1, writePiece_reservationLaw p h.1 h.2⟩
  restart s h := ⟨keptByCore_itemLaws.restart s h.1,
    State.reservationLaw_of_empty (lineRestartBlocks_emptied s).1 fun b hb => by
      rw [lineRestartBlocks_bin, if_pos hb, Bin.afterRestart, Bin.settleClass_reserved]⟩
  reset s h := ⟨keptByCore_itemLaws.reset s h.1, State.reservationLaw_of_empty rfl fun _ _ => rfl⟩

/-- Settles O57: the Bin Map's law by the writes of the bins, the reservations' together with the laws of the
items. -/
theorem binLawsKept : Obligations.BinLawsKept :=
  ⟨fun _ _ h ht => keptByCore_binLaw.parts.step (fun _ _ h => h) h ht,
    fun _ _ hl h ht => (keptByCore_reservations.parts.step (fun _ _ h => h) ⟨hl, h⟩ ht).2⟩

end Sys2Proof.Machine
end

section
/-! PROOFS. The law of the round controller, kept by every step (R51, R53, R58, R59). -/

namespace Sys2Proof.Machine

/-! ### Where the controller can stand within a step -/

/-- The controller can walk: a schedule is active and no poll is in flight, outside CONFIGURE. -/
def State.CanWalk (s : State) : Prop :=
  s.controller.active.isSome = true ∧ s.controller.inFlight = none ∧ s.mode ≠ .configure ∧
    s.controller.roundTimer ≠ none

/-- The controller has come to rest in IDLE or ROUND_WAIT, outside CONFIGURE; a poll may wait in the
slot. -/
def State.AtRest (s : State) : Prop :=
  s.controller.ScheduleLaw ∧ s.controller.inFlight = none ∧ s.mode ≠ .configure ∧
    s.controller.roundTimer ≠ none ∧
    ((s.controller.state = .idle ∧ s.controller.active = none) ∨
      (s.controller.state = .roundWait ∧ s.controller.active.isSome = true))

/-- The law reads the controller and the mode alone. -/
theorem State.ControllerLaw.congr {s t : State} (h : s.ControllerLaw) (hc : t.controller = s.controller)
    (hm : t.mode = s.mode) : t.ControllerLaw := by
  unfold State.ControllerLaw
  rw [hc, hm]
  exact h

theorem State.CanWalk.congr {s t : State} (h : s.CanWalk) (hc : t.controller = s.controller)
    (hm : t.mode = s.mode) : t.CanWalk := by
  unfold State.CanWalk
  rw [hc, hm]
  exact h

theorem RoundController.scheduleLaw_of_active {c : RoundController} (h : c.active.isSome = true) :
    c.ScheduleLaw := ⟨fun _ => h, fun _ => h⟩

/-- In AWAIT_REPLY a poll is in flight and the part is not in CONFIGURE. -/
theorem State.ControllerLaw.in_flight {s : State} (h : s.ControllerLaw) {f : InFlight}
    (hf : s.controller.inFlight = some f) :
    s.controller.state = .awaitReply ∧ s.mode ≠ .configure ∧ s.controller.roundTimer ≠ none ∧
      ((f.returnPoint = .round ∨ f.returnPoint = .roundWait) ↔ s.controller.active.isSome = true) := by
  obtain ⟨-, hfly, -, -, -, -, hret, hconf, htimer⟩ := h
  have hst := hfly.1 (by rw [hf]; rfl)
  have hm : s.mode ≠ .configure := fun hm => by rw [hconf hm] at hst; cases hst
  exact ⟨hst, hm, fun ht => hm (htimer.1 ht), hret f hf⟩

/-- A poll sent leaves the law (R53, R58). -/
theorem State.sendPoll_law {s : State} {p : Poll} {single : Bool} {ret : ReturnPoint}
    (hsched : s.controller.ScheduleLaw) (hm : s.mode ≠ .configure) (ht : s.controller.roundTimer ≠ none)
    (hret : (ret = .round ∨ ret = .roundWait) ↔ s.controller.active.isSome = true) :
    (s.sendPoll p single ret).ControllerLaw := by
  refine ⟨hsched, ⟨fun _ => rfl, fun _ => rfl⟩, fun _ => rfl, by simp [State.sendPoll], ?_, ?_, ?_, ?_, ?_⟩
  · exact fun h => (nomatch h)
  · exact fun h => (nomatch h)
  · rintro f hf
    cases hf
    exact hret
  · exact fun h => absurd h hm
  · exact ⟨fun h => absurd h ht, fun h => absurd h hm⟩

/-- A controller at rest with an empty slot obeys the law. -/
theorem State.AtRest.law {s : State} (h : s.AtRest) (hslot : s.controller.slot = none) : s.ControllerLaw := by
  obtain ⟨hsched, hfly, hm, ht, hst⟩ := h
  have hna : s.controller.state ≠ .awaitReply := by
    rcases hst with ⟨e, -⟩ | ⟨e, -⟩ <;> rw [e] <;> decide
  refine ⟨hsched, ⟨fun hs => ?_, fun hs => absurd hs hna⟩, fun hs => ?_, ?_, fun hs => ?_, fun hs => ?_,
    fun f hf => ?_, fun h => absurd h hm, ⟨fun h => absurd h ht, fun h => absurd h hm⟩⟩
  · rw [hfly] at hs; cases hs
  · rw [hslot] at hs; cases hs
  · rcases hst with ⟨e, -⟩ | ⟨e, -⟩ <;> rw [e] <;> decide
  · rcases hst with ⟨e, -⟩ | ⟨-, e⟩
    · rw [hs] at e; cases e
    · exact e
  · rcases hst with ⟨-, e⟩ | ⟨e, -⟩
    · exact e
    · rw [hs] at e; cases e
  · rw [hfly] at hf; cases hf

/-- The slotted poll is sent from rest (R58). -/
theorem State.AtRest.settleSlot {s : State} (h : s.AtRest) : s.settleSlot.ControllerLaw := by
  obtain ⟨hsched, hfly, hm, ht, hst⟩ := id h
  unfold State.settleSlot
  split
  next hs => exact h.law hs
  · rcases hst with ⟨e, ha⟩ | ⟨e, ha⟩
    · rw [e]
      refine State.sendPoll_law hsched hm ht ?_
      rw [show (s.withController fun c => { c with slot := none }).controller.active = none from ha]
      decide
    · rw [e]
      exact State.sendPoll_law hsched hm ht ⟨fun _ => ha, fun _ => .inr rfl⟩

/-- Where the law holds, a slotted poll waits for the poll in flight. -/
theorem State.ControllerLaw.settleSlot {s : State} (h : s.ControllerLaw) : s.settleSlot.ControllerLaw := by
  obtain ⟨-, -, hslot, -⟩ := id h
  unfold State.settleSlot
  split
  · exact h
  next p hp =>
    rw [hslot (by rw [hp]; rfl)]
    exact h

/-- The controller at the end of a walk or a round: under the law, or at rest with the slotted poll still to
be sent. -/
def State.Settled (s : State) : Prop := s.ControllerLaw ∨ s.AtRest

theorem State.Settled.settleSlot {s : State} (h : s.Settled) : s.settleSlot.ControllerLaw :=
  h.elim State.ControllerLaw.settleSlot State.AtRest.settleSlot

/-! ### Walks and round ends -/

theorem State.walkEntries_stands : ∀ (n pos : Nat) (s : State), s.CanWalk →
    ((State.walkEntries n pos s).1 = false ∧ (State.walkEntries n pos s).2.ControllerLaw) ∨
    ((State.walkEntries n pos s).1 = true ∧ (State.walkEntries n pos s).2.CanWalk ∧
      (State.walkEntries n pos s).2.controller.staged = s.controller.staged) := by
  intro n
  induction n with
  | zero => exact fun _ s h => .inr ⟨rfl, h, rfl⟩
  | succ n ih =>
    intro pos s h
    have hskip := ih (pos + 1) (s.bump .skippedPolls) (h.congr rfl rfl)
    unfold State.walkEntries
    split
    · exact hskip
    · split
      · obtain ⟨ha, -, hm, ht⟩ := h
        exact .inl ⟨rfl, State.sendPoll_law (RoundController.scheduleLaw_of_active ha) hm ht
          ⟨fun _ => ha, fun _ => .inl rfl⟩⟩
      · exact hskip

/-- A walk sends a poll, or comes to the round's end. -/
theorem State.walkOnce_stands {s : State} (h : s.CanWalk) :
    (s.walkOnce.1 = false ∧ s.walkOnce.2.ControllerLaw) ∨
    (s.walkOnce.1 = true ∧ s.walkOnce.2.CanWalk ∧
      s.walkOnce.2.controller.staged = s.controller.staged) := by
  obtain ⟨a, ha⟩ := Option.isSome_iff_exists.1 h.1
  unfold State.walkOnce
  rw [ha]
  simp only
  have hw := State.walkEntries_stands (a.base + a.length - s.controller.walkPos.getD a.base)
    (s.controller.walkPos.getD a.base) (s.withController fun c => { c with state := .walking }) h
  generalize State.walkEntries _ _ _ = r at hw ⊢
  rcases hw with ⟨hflag, hlaw⟩ | ⟨hflag, hcan, hstaged⟩
  · rw [hflag]
    exact .inl ⟨hflag, hlaw⟩
  · rw [hflag]
    simp only [if_true]
    split
    · obtain ⟨hact, -, hm, ht⟩ := hcan
      exact .inl ⟨rfl, State.sendPoll_law (RoundController.scheduleLaw_of_active hact) hm ht
        ⟨fun _ => hact, fun _ => .inl rfl⟩⟩
    · exact .inr ⟨rfl, hcan, hstaged⟩

/-- A round end leaves a schedule staged NOW to be walked, with nothing staged any more, or the controller
at rest. -/
theorem State.endRound_stands {s : State} (h : s.CanWalk) :
    (s.endRound.1 = true ∧ s.endRound.2.CanWalk ∧ s.endRound.2.controller.staged = none ∧
      s.controller.staged ≠ none) ∨
    (s.endRound.1 = false ∧ s.endRound.2.AtRest) := by
  obtain ⟨hact, hfly, hm, ht⟩ := h
  unfold State.endRound
  simp only
  split
  next g hg =>
    split
    · exact .inl ⟨rfl, ⟨rfl, hfly, hm, ht⟩, rfl, by rw [hg]; exact Option.some_ne_none g⟩
    · exact .inr ⟨rfl, RoundController.scheduleLaw_of_active rfl, hfly, hm, ht, .inr ⟨rfl, rfl⟩⟩
    · exact .inr ⟨rfl, RoundController.scheduleLaw_of_active rfl, hfly, hm, ht, .inr ⟨rfl, rfl⟩⟩
  next hg =>
    split
    · split
      · exact .inr ⟨rfl, RoundController.scheduleLaw_of_active hact, hfly, hm, ht, .inr ⟨rfl, hact⟩⟩
      · exact .inr ⟨rfl, ⟨fun hs => absurd hs (Option.not_isSome_iff_eq_none.2 hg), fun hp => (nomatch hp)⟩,
          hfly, hm, ht, .inl ⟨rfl, rfl⟩⟩
    next ha => exact absurd hact (Option.not_isSome_iff_eq_none.2 ha)

theorem State.walk_settled {s : State} (h : s.CanWalk) : s.walk.Settled := by
  unfold State.walk
  simp only
  rcases State.walkOnce_stands h with ⟨ha, hlaw⟩ | ⟨ha, hcan, -⟩
  · rw [ha]; exact .inl hlaw
  · rw [ha]
    rcases State.endRound_stands hcan with ⟨hb, hcan', hnone, -⟩ | ⟨hb, hrest⟩
    · rw [hb]
      rcases State.walkOnce_stands hcan' with ⟨hc, hlaw⟩ | ⟨hc, hcan'', hst⟩
      · rw [hc]; exact .inl hlaw
      · rw [hc]
        rcases State.endRound_stands hcan'' with ⟨-, -, -, hne⟩ | ⟨-, hrest⟩
        · exact absurd (hst.trans hnone) hne
        · exact .inr hrest
    · rw [hb]; exact .inr hrest

theorem State.finishRound_settled {s : State} (h : s.CanWalk) : s.finishRound.Settled := by
  unfold State.finishRound
  simp only
  rcases State.endRound_stands h with ⟨hb, hcan, -, -⟩ | ⟨hb, hrest⟩
  · rw [hb]; exact State.walk_settled hcan
  · rw [hb]; exact .inr hrest

theorem State.beginWalk_settled {s : State} (h : s.CanWalk) : s.beginWalk.Settled :=
  State.walk_settled (s := s.withController _) h

theorem State.expireRoundWait_settled {s : State} (h : s.CanWalk) : s.expireRoundWait.Settled := by
  unfold State.expireRoundWait
  split
  · exact State.finishRound_settled (s := s.withController _) h
  · exact State.beginWalk_settled h

/-! ### The events and requests of the controller -/

/-- After a poll's outcome the controller comes to stand under the law (R53, R55, R57, R58). -/
theorem State.moveOn_law {s : State} {f : InFlight} (h : s.ControllerLaw)
    (hf : s.controller.inFlight = some f) : (s.moveOn f).ControllerLaw := by
  obtain ⟨-, hm, ht, hret⟩ := h.in_flight hf
  obtain ⟨⟨hstaged, hpend⟩, -⟩ := id h
  have hidle : s.controller.active = none →
      ((s.withController fun c => { c with inFlight := none }).withController
        fun c => { c with state := .idle }).AtRest := by
    intro ha
    refine ⟨⟨hstaged, hpend⟩, rfl, hm, ht, .inl ⟨rfl, ha⟩⟩
  have hnone : ¬ (f.returnPoint = .round ∨ f.returnPoint = .roundWait) → s.controller.active = none :=
    fun hn => Option.not_isSome_iff_eq_none.1 fun ha => hn (hret.2 ha)
  unfold State.moveOn
  simp only
  split
  next hr =>
    have hcan : (s.withController fun c => { c with inFlight := none }).CanWalk :=
      ⟨hret.1 (.inl hr), rfl, hm, ht⟩
    split
    · exact (State.finishRound_settled hcan).settleSlot
    · exact (State.walk_settled hcan).settleSlot
  next hr => exact (hidle (hnone (by rw [hr]; decide))).settleSlot
  next hr => exact (hidle (hnone (by rw [hr]; decide))).settleSlot
  next hr =>
    have ha := hret.1 (.inr hr)
    split
    · refine (State.expireRoundWait_settled ?_).settleSlot
      exact ⟨ha, rfl, hm, ht⟩
    · exact State.AtRest.settleSlot ⟨RoundController.scheduleLaw_of_active ha, rfl, hm, ht, .inr ⟨rfl, ha⟩⟩

theorem expireTimer_law {s : State} (h : s.ControllerLaw) : (expireTimer s).ControllerLaw := by
  obtain ⟨hsched, hfly, hslot, hwalk, hwait, hidle, hret, hconf, htimer⟩ := id h
  unfold expireTimer
  split
  · exact h
  next t ht =>
    have hm : s.mode ≠ .configure := fun hm => by rw [htimer.2 hm] at ht; cases ht
    have hset : (s.withController fun c => { c with roundTimer := some s.link.period }).ControllerLaw :=
      ⟨hsched, hfly, hslot, hwalk, hwait, hidle, hret, hconf, ⟨fun h => (nomatch h), fun h => absurd h hm⟩⟩
    unfold State.expireRound
    split
    · exact hset
    · exact hset
    · split
      · split
        · exact ⟨hsched, hfly, hslot, hwalk, hwait, hidle, hret, hconf,
            ⟨fun h => (nomatch h), fun h => absurd h hm⟩⟩
        · exact hset
      · exact hset
    next hst =>
      refine (State.expireRoundWait_settled ?_).settleSlot
      refine ⟨hwait hst, ?_, hm, fun h => (nomatch h)⟩
      exact Option.not_isSome_iff_eq_none.1 fun hs => by
        have := hfly.1 hs
        rw [show s.controller.state = .roundWait from hst] at this
        cases this

theorem workScheduleStart_law (o : ScheduleOperands) {s : State} (hm : s.mode ≠ .configure)
    (h : s.ControllerLaw) : (workScheduleStart o s).2.ControllerLaw := by
  obtain ⟨hsched, hfly, hslot, hwalk, hwait, hidle, hret, hconf, htimer⟩ := id h
  have ht : s.controller.roundTimer ≠ none := fun ht => hm (htimer.1 ht)
  unfold workScheduleStart
  split
  · exact h
  next g _ =>
    split
    · exact h
    next hst =>
      have hst := not_not.1 hst
      have hnone : s.controller.inFlight = none := Option.not_isSome_iff_eq_none.1 fun hs => by
        have := hfly.1 hs
        rw [hst] at this
        cases this
      have hempty : s.controller.slot = none := Option.not_isSome_iff_eq_none.1 fun hs => by
        have := hslot hs
        rw [hst] at this
        cases this
      unfold State.startSchedule
      simp only
      split
      · refine (State.beginWalk_settled ?_).settleSlot
        exact ⟨rfl, hnone, hm, ht⟩
      · exact State.AtRest.law
          ⟨RoundController.scheduleLaw_of_active rfl, hnone, hm, ht, .inr ⟨rfl, rfl⟩⟩ hempty
      · exact State.AtRest.law
          ⟨RoundController.scheduleLaw_of_active rfl, hnone, hm, ht, .inr ⟨rfl, rfl⟩⟩ hempty

theorem workScheduleStage_law (o : ScheduleOperands) {s : State} (h : s.ControllerLaw) :
    (workScheduleStage o s).2.ControllerLaw := by
  unfold workScheduleStage
  split
  · exact h
  · split
    · exact h
    next ha =>
      split
      · exact h
      · obtain ⟨-, hrest⟩ := h
        have hact : s.controller.active.isSome = true := by
          cases hs : s.controller.active with
          | none => rw [hs] at ha; exact absurd rfl ha
          | some a => rfl
        exact ⟨RoundController.scheduleLaw_of_active hact, hrest⟩

theorem workScheduleCancel_law {s : State} (hm : s.mode ≠ .configure) (h : s.ControllerLaw) :
    (workScheduleCancel s).2.ControllerLaw := by
  obtain ⟨hsched, hfly, hslot, hwalk, hwait, hidle, hret, hconf, htimer⟩ := h
  have ht : s.controller.roundTimer ≠ none := fun ht => hm (htimer.1 ht)
  have hcleared : RoundController.ScheduleLaw
      { s.controller with
        active := none, staged := none, pendingStart := none, walkPos := none, expiryDue := false } :=
            ⟨fun h => (nomatch h), fun h => (nomatch h)⟩
  unfold workScheduleCancel
  simp only
  split
  next hst =>
    have hst : s.controller.state = .awaitReply := hst
    obtain ⟨f, hf⟩ := Option.isSome_iff_exists.1 (hfly.2 hst)
    refine ⟨hcleared, ?_, hslot, hwalk, fun h => ?_, fun _ => rfl, fun f' hf' => ?_, hconf, htimer⟩
    · show (s.controller.inFlight.map _).isSome = true ↔ _
      rw [Option.isSome_map]
      exact hfly
    · exact nomatch hst.symm.trans h
    · have hf' : s.controller.inFlight.map (fun f => { f with returnPoint := .idleAfterCancel }) = some f' := hf'
      rw [hf] at hf'
      cases hf'
      exact ⟨fun h => (nomatch h), fun h => (nomatch h)⟩
  next hst =>
    refine State.AtRest.settleSlot ⟨hcleared, ?_, hm, ht, .inl ⟨rfl, rfl⟩⟩
    exact Option.not_isSome_iff_eq_none.1 fun hs => hst (hfly.1 hs)

theorem workSinglePoll_law (a k : Nat) {s : State} (hm : s.mode ≠ .configure) (h : s.ControllerLaw) :
    (workSinglePoll a k s).2.ControllerLaw := by
  unfold workSinglePoll
  split
  · exact h
  next k' _ =>
    split
    · exact h
    · split
      · exact h
      · split
        · exact h
        · obtain ⟨hsched, hfly, hslot, hwalk, hwait, hidle, hret, hconf, htimer⟩ := h
          have ht : s.controller.roundTimer ≠ none := fun ht => hm (htimer.1 ht)
          by_cases hst : s.controller.state = .awaitReply
          · exact State.ControllerLaw.settleSlot
              ⟨hsched, hfly, fun _ => hst, hwalk, hwait, hidle, hret, hconf, htimer⟩
          · refine State.AtRest.settleSlot ⟨hsched, ?_, hm, ht, ?_⟩
            · exact Option.not_isSome_iff_eq_none.1 fun hs => hst (hfly.1 hs)
            · show (s.controller.state = _ ∧ _) ∨ (s.controller.state = _ ∧ _)
              cases hs : s.controller.state with
              | idle => exact .inl ⟨rfl, hidle hs⟩
              | roundWait => exact .inr ⟨rfl, hwait hs⟩
              | awaitReply => exact absurd hs hst
              | walking => exact absurd hs hwalk

/-- A stopped controller obeys the law, its timer stopped exactly in CONFIGURE. -/
theorem State.stopped_law {s : State} {timer : Option Nat} (hc : s.controller = .stopped timer)
    (ht : timer = none ↔ s.mode = .configure) : s.ControllerLaw := by
  unfold State.ControllerLaw
  rw [hc]
  exact ⟨⟨fun h => (nomatch h), fun h => (nomatch h)⟩, ⟨fun h => (nomatch h), fun h => (nomatch h)⟩,
    fun h => (nomatch h), fun h => (nomatch h), fun h => (nomatch h), fun _ => rfl, fun f h => (nomatch h),
    fun _ => rfl, ht⟩

/-- What a mode change does: to CONFIGURE it stops the controller, out of CONFIGURE it starts the timer (R59,
R188). -/
theorem State.changeMode_eq (s : State) (m : Mode) : s.changeMode m =
    { s with
      mode := m
      controller :=
        if s.mode = .configure then
          (if m = .configure then s.controller else { s.controller with roundTimer := some s.link.period })
        else if m = .configure then .stopped none else s.controller } := by
  unfold State.changeMode
  cases hs : s.mode <;> cases m <;> rfl

theorem State.changeMode_law {s : State} (m : Mode) (h : s.ControllerLaw) : (s.changeMode m).ControllerLaw := by
  obtain ⟨hsched, hfly, hslot, hwalk, hwait, hidle, hret, hconf, htimer⟩ := id h
  rw [State.changeMode_eq]
  by_cases hm : m = .configure
  · by_cases hs : s.mode = .configure
    · simp only [hs, hm, if_true]
      exact h.congr rfl hs.symm
    · simp only [hs, hm, if_true, if_false]
      exact State.stopped_law rfl ⟨fun _ => rfl, fun _ => rfl⟩
  · by_cases hs : s.mode = .configure
    · simp only [hs, hm, if_true, if_false]
      exact ⟨hsched, hfly, hslot, hwalk, hwait, hidle, hret, fun hm' => absurd hm' hm,
        ⟨fun h => (nomatch h), fun h => absurd h hm⟩⟩
    · simp only [hs, hm, if_false]
      exact ⟨hsched, hfly, hslot, hwalk, hwait, hidle, hret, fun hm' => absurd hm' hm,
        ⟨fun ht => absurd (htimer.1 ht) hs, fun h => absurd h hm⟩⟩

theorem lineRestartBlocks_controller (s : State) :
    (lineRestartBlocks s).mode = s.mode ∧ (lineRestartBlocks s).controller =
      .stopped (if s.mode = .configure then none else some s.link.period) := by
  unfold lineRestartBlocks
  simp only
  generalize hu : (State.mk .. : State) = u
  obtain ⟨e, he⟩ := u.restartSorter_frame
  rw [he, ← hu]
  exact ⟨rfl, rfl⟩

/-! ### Every command -/

theorem refusedInMode_of_not {m : Mode} {r : Request} (h : refusedInMode m r = false)
    (hr : refusedInConfigure r = true) : m ≠ .configure := by
  rintro rfl
  rw [refusedInMode, hr] at h
  cases h

theorem keptByTables_controllerLaw : KeptByTables State.ControllerLaw := by
  have hquiet : ∀ s t : State, s.QuietTo t → s.ControllerLaw → t.ControllerLaw := by
    rintro s t ⟨-, e⟩ h
    rw [e]; exact h
  have w : KeptByWrites State.ControllerLaw :=
    { quiet := hquiet
      setItem := fun _ _ _ h => h
      release := fun _ _ h => h
      commit := fun _ _ h => h
      reserve := fun _ _ _ _ _ _ h => h
      zones := fun _ _ h => h
      setManifest := fun _ _ _ h => h
      setTray := fun _ _ _ h => h
      queue := fun _ _ h => h
      ticket := fun _ h => h
      retire := fun s i it h => by
        obtain ⟨_, _, _, _, e⟩ := s.retire_frame i it
        rw [e]; exact h }
  exact
    { quiet := hquiet
      config :=
        { counts := fun _ _ ht => hquiet _ _ ht.quietTo
          setManifest := fun _ _ _ h => h
          removeManifest := fun _ _ h => h
          setClass := fun _ _ _ h => h
          clearClass := fun _ _ h => h
          line := fun _ _ h => h
          setZone := fun _ _ _ h => h
          zones := fun _ _ h => h
          setStation := fun _ _ _ h => h
          settings := fun _ _ h => h
          schedule := fun s i e h => by
            obtain ⟨t, ht⟩ := s.setScheduleEntry_frame i e
            rw [ht]; exact h
          setSettle := fun s a c h => by
            obtain ⟨t, ht⟩ := s.setSettle_frame a c
            rw [ht]; exact h
          scans := fun _ _ _ h => h }
      fifo := fun _ _ _ h => h
      snapshot := fun _ h => h
      slotSet := fun _ _ _ _ h => h
      slotAdjust := fun _ _ _ _ h => h
      slotRelease := fun _ _ _ h => h
      items := w.toItems.items fun s h => by
        obtain ⟨_, _, _, _, e⟩ := workCollect_frame s
        rw [e]; exact h
      fetch := fun _ => w.gradingFetch
      apply := fun c g _ _ => w.toItems.applyResult c g
      write := fun _ _ => w.toItems.writePiece }

/-- Judging a reply leaves the controller as it is (R61). -/
theorem State.judgeReply_controller (s : State) (f : InFlight) (frame : List Byte) :
    (s.judgeReply f frame).controller = s.controller :=
  State.judgeReply_keeps (P := fun u => u.controller = s.controller)
    (fun _ _ hq h => by obtain ⟨-, e⟩ := hq; rw [e]; exact h) (fun _ _ _ h => h)
    (fun u g h => by unfold State.offerFrame; split <;> exact h) rfl f frame

theorem State.recordOutcome_controller (s : State) (a : Nat) (good : Bool) :
    (s.recordOutcome a good).controller = s.controller := by
  obtain ⟨u, e, ⟨-, hu⟩, -, he⟩ := s.recordOutcome_frame a good
  rw [he, State.setStation_controller, hu]

theorem keptByParts_controllerLaw : KeptByParts State.ControllerLaw where
  quiet := keptByTables_controllerLaw.quiet
  work p r s hr h := by
    cases hl : movesLink r with
    | false => exact keptByTables_controllerLaw.work hl h
    | true =>
      cases r with
      | scheduleStart o => exact workScheduleStart_law o (refusedInMode_of_not hr rfl) h
      | scheduleStage o => exact workScheduleStage_law o h
      | scheduleCancel => exact workScheduleCancel_law (refusedInMode_of_not hr rfl) h
      | singlePoll a k => exact workSinglePoll_law a k (refusedInMode_of_not hr rfl) h
      | modeSet m =>
        rcases workModeSet_frame m s with e | ⟨m', -, e⟩
        · exact (congrArg State.ControllerLaw e).mpr h
        · exact (congrArg State.ControllerLaw e).mpr (State.changeMode_law m' h)
      | fullReset => exact State.stopped_law (timer := none) rfl ⟨fun _ => rfl, fun _ => rfl⟩
      | lineRestart =>
        obtain ⟨hm, hc⟩ := lineRestartBlocks_controller s
        refine State.stopped_law (s := lineRestartBlocks s) hc ?_
        rw [hm]
        by_cases hmode : s.mode = .configure <;> simp [hmode]
      | _ => cases hl
  fetch := keptByTables_controllerLaw.fetch
  apply := keptByTables_controllerLaw.apply
  write := keptByTables_controllerLaw.write
  frame _ _ _ hf h := keptByTables_controllerLaw.frame hf h
  timer _ := expireTimer_law
  poll s t ht h := by
    cases ht with
    | same => exact h
    | phase f ph hf =>
      obtain ⟨hst, -, -, hret'⟩ := h.in_flight hf
      obtain ⟨hsched, hfly, hslot, hwalk, hwait, hidle, hret, hconf, htimer⟩ := h
      refine ⟨hsched, ⟨fun _ => hst, fun _ => rfl⟩, hslot, hwalk, hwait, hidle, fun f' hf' => ?_, hconf, htimer⟩
      cases hf'
      exact hret'
    | bad f hf =>
      exact State.moveOn_law (keptByTables_controllerLaw.record h)
        ((congrArg RoundController.inFlight (s.recordOutcome_controller _ _)).trans hf)
    | judged f frame hf =>
      exact State.moveOn_law (keptByTables_controllerLaw.judge h)
        ((congrArg RoundController.inFlight (s.judgeReply_controller f frame)).trans hf)
  pinLow _ _ := State.stopped_law (timer := none) rfl ⟨fun _ => rfl, fun _ => rfl⟩

/-- Settles O58: each part of a command keeps the controller's law, walks and round ends through where they
can leave the controller standing. -/
theorem controllerLawKept : Obligations.ControllerLawKept := fun _ _ h ht =>
  keptByParts_controllerLaw.step (fun _ _ h => h) h ht

end Sys2Proof.Machine
end

section
/-! PROOFS. The clients' standing to the arbiter, kept by every step (R106, R150, R152, R156, R161). -/

namespace Sys2Proof.Machine

/-! ### Work that leaves the clients where they stand -/

/-- `t` has the clients of `s`, but for an idle Grade Computer that an item joining the queue makes post its
fetch (R106). -/
def State.ClientsTo (s t : State) : Prop :=
  t.collector = s.collector ∧ t.sorterPort = s.sorterPort ∧ t.linePort = s.linePort ∧
  ((t.arbiter = s.arbiter ∧ t.grader = s.grader ∧
      (s.grader = .idle → s.gradeQueue = [] → t.gradeQueue = [])) ∨
    (s.grader = .idle ∧ t.grader = .fetchWait ∧
      t.arbiter = { s.arbiter with waiting := s.arbiter.waiting.put true .gc }))

theorem State.clientsTo_of_same {s t : State} (ha : t.arbiter = s.arbiter) (hg : t.grader = s.grader)
    (hq : t.gradeQueue = s.gradeQueue) (hc : t.collector = s.collector) (hs : t.sorterPort = s.sorterPort)
    (hl : t.linePort = s.linePort) : s.ClientsTo t :=
  ⟨hc, hs, hl, .inl ⟨ha, hg, fun _ h => hq.trans h⟩⟩

theorem State.ClientsTo.refl (s : State) : s.ClientsTo s := clientsTo_of_same rfl rfl rfl rfl rfl rfl

theorem State.ClientsTo.trans {s t u : State} (hst : s.ClientsTo t) (htu : t.ClientsTo u) : s.ClientsTo u := by
  obtain ⟨hc, hs, hl, hst⟩ := hst
  obtain ⟨hc', hs', hl', htu⟩ := htu
  refine ⟨hc'.trans hc, hs'.trans hs, hl'.trans hl, ?_⟩
  rcases hst with ⟨ha, hg, hq⟩ | ⟨hi, hg, ha⟩ <;> rcases htu with ⟨ha', hg', hq'⟩ | ⟨hi', hg', ha'⟩
  · exact .inl ⟨ha'.trans ha, hg'.trans hg, fun hi he => hq' (hg.trans hi) (hq hi he)⟩
  · exact .inr ⟨hg.symm.trans hi', hg', by rw [ha', ha]⟩
  · exact .inr ⟨hi, hg'.trans hg, ha'.trans ha⟩
  · rw [hg] at hi'; cases hi'

theorem State.CountsTo.clientsTo {s t : State} (h : s.CountsTo t) : s.ClientsTo t := by
  obtain ⟨-, e⟩ := h
  rw [e]
  exact clientsTo_of_same rfl rfl rfl rfl rfl rfl

theorem State.LinkTo.clientsTo {s t : State} (h : s.LinkTo t) : s.ClientsTo t := by
  obtain ⟨_, _, -, e⟩ := h
  rw [e]
  exact clientsTo_of_same rfl rfl rfl rfl rfl rfl

theorem State.clientsTo_enqueue (s : State) (i : Nat) (it : Item) : s.ClientsTo (s.enqueue i it) := by
  unfold State.enqueue
  simp only
  split
  next hg => exact ⟨rfl, rfl, rfl, .inr ⟨hg, rfl, rfl⟩⟩
  next hg => exact ⟨rfl, rfl, rfl, .inl ⟨rfl, rfl, fun hi => absurd hi hg⟩⟩

/-- The writes of the item requests, the decisions and the evidence leave the clients where they stand. -/
theorem keptByItems_clientsTo (s : State) : KeptByItems s.ClientsTo where
  bump _ c h := h.trans (State.countsTo_bump _ c).clientsTo
  setItem _ _ _ h := h.trans (State.clientsTo_of_same rfl rfl rfl rfl rfl rfl)
  release _ _ h := h.trans (State.clientsTo_of_same rfl rfl rfl rfl rfl rfl)
  commit _ _ h := h.trans (State.clientsTo_of_same rfl rfl rfl rfl rfl rfl)
  reserve _ _ _ _ _ _ h := h.trans (State.clientsTo_of_same rfl rfl rfl rfl rfl rfl)
  zones _ _ h := h.trans (State.clientsTo_of_same rfl rfl rfl rfl rfl rfl)
  setManifest _ _ _ h := h.trans (State.clientsTo_of_same rfl rfl rfl rfl rfl rfl)
  setTray _ _ _ h := h.trans (State.clientsTo_of_same rfl rfl rfl rfl rfl rfl)
  enqueue _ i it h := h.trans (State.clientsTo_enqueue _ i it)
  erase u i h := h.trans ⟨rfl, rfl, rfl, .inl ⟨rfl, rfl, fun _ he => by
    show u.gradeQueue.erase i = []
    rw [he]; rfl⟩⟩
  ticket _ h := h.trans (State.clientsTo_of_same rfl rfl rfl rfl rfl rfl)
  retire u i it h := h.trans (by
    obtain ⟨_, _, _, _, e⟩ := u.retire_frame i it
    rw [e]
    exact State.clientsTo_of_same rfl rfl rfl rfl rfl rfl)

theorem keptByFrames_clientsTo (s : State) : KeptByFrames s.ClientsTo where
  config :=
    { counts := fun _ _ ht h => h.trans ht.clientsTo
      setManifest := fun _ _ _ h => h.trans (State.clientsTo_of_same rfl rfl rfl rfl rfl rfl)
      removeManifest := fun _ _ h => h.trans (State.clientsTo_of_same rfl rfl rfl rfl rfl rfl)
      setClass := fun _ _ _ h => h.trans (State.clientsTo_of_same rfl rfl rfl rfl rfl rfl)
      clearClass := fun _ _ h => h.trans (State.clientsTo_of_same rfl rfl rfl rfl rfl rfl)
      line := fun _ _ h => h.trans (State.clientsTo_of_same rfl rfl rfl rfl rfl rfl)
      setZone := fun _ _ _ h => h.trans (State.clientsTo_of_same rfl rfl rfl rfl rfl rfl)
      zones := fun _ _ h => h.trans (State.clientsTo_of_same rfl rfl rfl rfl rfl rfl)
      setStation := fun _ _ _ h => h.trans (State.clientsTo_of_same rfl rfl rfl rfl rfl rfl)
      settings := fun _ _ h => h.trans (State.clientsTo_of_same rfl rfl rfl rfl rfl rfl)
      schedule := fun u i e h => h.trans (by
        obtain ⟨t, ht⟩ := u.setScheduleEntry_frame i e
        rw [ht]
        exact State.clientsTo_of_same rfl rfl rfl rfl rfl rfl)
      setSettle := fun u a c h => h.trans (by
        obtain ⟨t, ht⟩ := u.setSettle_frame a c
        rw [ht]
        exact State.clientsTo_of_same rfl rfl rfl rfl rfl rfl)
      scans := fun _ _ _ h => h.trans (State.clientsTo_of_same rfl rfl rfl rfl rfl rfl) }
  fifo _ _ _ h := h.trans (State.clientsTo_of_same rfl rfl rfl rfl rfl rfl)

theorem keptBySettings_clientsTo (s : State) : KeptBySettings s.ClientsTo where
  toKeptByFrames := keptByFrames_clientsTo s
  slotSet _ _ _ _ h := h.trans (State.clientsTo_of_same rfl rfl rfl rfl rfl rfl)
  slotAdjust _ _ _ _ h := h.trans (State.clientsTo_of_same rfl rfl rfl rfl rfl rfl)
  slotRelease _ _ _ h := h.trans (State.clientsTo_of_same rfl rfl rfl rfl rfl rfl)

/-- The requests whose work is on the clients themselves: on the arbiter, a port's mask, or all of the
state. -/
def movesClients : Request → Bool
  | .attentionMask .. | .arbiterSet .. | .holdBegin | .holdEnd | .fullReset | .lineRestart => true
  | _ => false

/-- The work of every other request leaves the clients where they stand. -/
theorem workOf_clientsTo {p : Port} {r : Request} {s : State} (hr : movesClients r = false) :
    s.ClientsTo (workOf p r s).2 := by
  have same : ∀ {t : State}, t = s → s.ClientsTo t := fun e => e ▸ .refl s
  cases hi : movesItems r with
  | true =>
    refine (keptByItems_clientsTo s).items (fun u h => h.trans ?_) p r s hi (.refl s)
    obtain ⟨_, _, _, _, e⟩ := workCollect_frame u
    rw [e]
    exact State.clientsTo_of_same rfl rfl rfl rfl rfl rfl
  | false =>
    cases hc : configures r with
    | true => exact (keptBySettings_clientsTo s).work hc (.refl s)
    | false =>
      cases r with
      | status => exact .refl s
      | tableLimits => exact .refl s
      | itemQuery k v => exact same (workItemQuery_state k v s)
      | statusClear n =>
        obtain ⟨k, e⟩ := workStatusClear_frame n s
        exact e ▸ State.clientsTo_of_same rfl rfl rfl rfl rfl rfl
      | lampSet l k q =>
        obtain ⟨v, e⟩ := workLampSet_frame l k q s
        exact e ▸ State.clientsTo_of_same rfl rfl rfl rfl rfl rfl
      | countersSnapshot => exact State.clientsTo_of_same rfl rfl rfl rfl rfl rfl
      | countersRead => exact .refl s
      | modeSet m =>
        rcases workModeSet_frame m s with e | ⟨m', -, e⟩
        · exact same e
        · obtain ⟨c, hc⟩ := s.changeMode_frame m'
          exact (e.trans hc) ▸ State.clientsTo_of_same rfl rfl rfl rfl rfl rfl
      | scheduleStart o => exact (linkTo_workScheduleStart o s).clientsTo
      | scheduleStage o => exact (linkTo_workScheduleStage o s).clientsTo
      | scheduleCancel => exact (linkTo_workScheduleCancel s).clientsTo
      | singlePoll a n => exact (linkTo_workSinglePoll a n s).clientsTo
      | _ => simp [configures, movesItems, movesClients] at hc hi hr

theorem PollStep.clientsTo {s t : State} (h : PollStep s t) : s.ClientsTo t := by
  have k := keptByFrames_clientsTo s
  cases h with
  | same => exact .refl s
  | phase f ph => exact (State.linkTo_withController _ _).clientsTo
  | bad f => exact (k.record (.refl s)).trans (State.linkTo_moveOn _ _).clientsTo
  | judged f frame => exact (k.judge (.refl s)).trans (State.linkTo_moveOn _ _).clientsTo

/-! ### The law under changes of its parts -/

/-- The law reads no more of a state than this. -/
theorem State.ClientLaw.congr {s t : State} (h : s.ClientLaw)
    (hw : t.arbiter.waiting = s.arbiter.waiting) (hh : t.arbiter.holder = s.arbiter.holder)
    (hc : t.arbiter.chain = s.arbiter.chain)
    (hhold : t.arbiter.hold.isSome = true → s.arbiter.hold.isSome = true)
    (hg : t.grader = s.grader) (hq : s.grader = .idle → s.gradeQueue = [] → t.gradeQueue = [])
    (hcol : t.collector = s.collector) (hs : t.sorterPort.phase = s.sorterPort.phase)
    (hl : t.linePort.phase = s.linePort.phase) : t.ClientLaw := by
  obtain ⟨hchain, hholder, hcomp, hgc, hec, hspe, hlpe, hline, hsorter, hidle, hopen⟩ := h
  unfold State.ClientLaw
  simp only [PortEngine.executing, hw, hh, hc, hg, hcol, hs, hl]
  exact ⟨hchain, hholder, hcomp, hgc, hec, hspe, hlpe, hline, hsorter, fun hi => hq hi (hidle hi),
    fun ho => hopen (hhold ho)⟩

theorem State.ClientsTo.law {s t : State} (h : s.ClientsTo t) (hs : s.ClientLaw) : t.ClientLaw := by
  obtain ⟨hcol, hsor, hlin, ⟨ha, hg, hq⟩ | ⟨hi, hg, ha⟩⟩ := h
  · exact hs.congr (by rw [ha]) (by rw [ha]) (by rw [ha]) (by rw [ha]; exact id) hg hq hcol (by rw [hsor])
      (by rw [hlin])
  · obtain ⟨hchain, hholder, hcomp, hgc, hec, hspe, hlpe, hline, hsorter, hidle, hopen⟩ := hs
    unfold State.ClientLaw
    rw [hcol, hsor, hlin, ha, hg]
    refine ⟨hchain, hholder, fun hc => ?_, rfl, hec, hspe, hlpe, hline, hsorter, (nomatch ·), hopen⟩
    obtain ⟨c, hcomp⟩ := hcomp hc
    rw [hi] at hcomp
    cases hcomp

theorem State.ClientsTo.respond {s t : State} (h : s.ClientsTo t) (p : Port) (tag rq : Nat) (a : Answer) :
    (s.respond p tag rq a).ClientsTo (t.respond p tag rq a) := by
  obtain ⟨hcol, hsor, hlin, hag⟩ := h
  cases p
  · exact ⟨hcol, hsor, by simp only [State.respond, State.setPort, State.port, hlin], hag⟩
  · exact ⟨hcol, by simp only [State.respond, State.setPort, State.port, hsor], hlin, hag⟩

/-- A response held closes what the law says of its port. -/
theorem State.respond_congr {s t : State} {p : Port} {tag rq : Nat} {a : Answer}
    (h : (s.respond p tag rq a).ClientLaw)
    (hw : t.arbiter.waiting = s.arbiter.waiting) (hh : t.arbiter.holder = s.arbiter.holder)
    (hc : t.arbiter.chain = s.arbiter.chain)
    (hhold : t.arbiter.hold.isSome = true → s.arbiter.hold.isSome = true)
    (hg : t.grader = s.grader) (hq : t.gradeQueue = s.gradeQueue)
    (hcol : t.collector = s.collector) (hs : t.sorterPort.phase = s.sorterPort.phase)
    (hl : t.linePort.phase = s.linePort.phase) : (t.respond p tag rq a).ClientLaw := by
  cases p
  · exact h.congr hw hh hc hhold hg (fun _ he => hq.trans he) hcol hs rfl
  · exact h.congr hw hh hc hhold hg (fun _ he => hq.trans he) hcol rfl hl

end Sys2Proof.Machine
end

section
/-! PROOFS. The clients' standing to the arbiter, through each command. -/

namespace Sys2Proof.Machine

/-! ### The work of a request, once its port holds the answer -/

theorem PortEngine.executing_eq_false {e : PortEngine} (h : ∀ tag r, e.phase ≠ .executing tag r) :
    e.executing = false := by
  unfold PortEngine.executing
  split
  next h' => exact absurd h' (h _ _)
  next => rfl

theorem State.ClientLaw.of_emptied {t : State}
    (ha : t.arbiter.holder = none ∧ t.arbiter.chain = false ∧ t.arbiter.hold = none ∧
      t.arbiter.waiting = .empty)
    (hg : t.grader = .idle) (hq : t.gradeQueue = []) (hc : t.collector = .waiting)
    (hs : ∀ tag r, t.sorterPort.phase ≠ .executing tag r)
    (hl : ∀ tag r, t.linePort.phase ≠ .executing tag r) : t.ClientLaw := by
  obtain ⟨hholder, hchain, hhold, hwait⟩ := ha
  unfold State.ClientLaw
  rw [hholder, hchain, hhold, hwait, hg, hq, hc, PortEngine.executing_eq_false hs]
  exact ⟨by simp, .inl rfl, (nomatch ·), rfl, rfl, rfl,
    ⟨(nomatch ·), fun ⟨tag, r, h, _⟩ => absurd h (hl tag r)⟩, fun tag r h => absurd h (hl tag r),
    fun tag r h => absurd h (hs tag r), fun _ => rfl, (nomatch ·)⟩

theorem answerUnderHold_clientsTo (r : Request) (s : State) : s.ClientsTo (answerUnderHold r s).2 := by
  unfold answerUnderHold
  split
  · exact .refl s
  · split
    · exact (s.countsTo_closeRaises.trans (State.countsTo_bump _ _)).clientsTo
    · exact .refl s

/-- What the withdrawal leaves: the Sorter Port answered, its client out of the waiting set. -/
theorem State.withdrawSorter_executing {s : State} {tag : Nat} {r : Request}
    (h : s.sorterPort.phase = .executing tag r) :
    ∃ u a, s.CountsTo u ∧ s.withdrawSorter =
      { u with arbiter := { u.arbiter with waiting := u.arbiter.waiting.put false .spe } }.respond
        .sorter tag (requestCode r) a := by
  unfold State.withdrawSorter
  rw [h]
  refine ⟨_, _, ?_, rfl⟩
  unfold answerUnderHold
  split
  · exact .refl s
  · split
    · exact s.countsTo_closeRaises.trans (State.countsTo_bump _ _)
    · exact .refl s

theorem State.withdrawSorter_of_not {s : State} (h : ∀ tag r, s.sorterPort.phase ≠ .executing tag r) :
    s.withdrawSorter = s := by
  unfold State.withdrawSorter
  split
  next h' => exact absurd h' (h _ _)
  next => rfl

/-- A hold opened outside a chain, the Sorter Port's request withdrawn (R155, R157). -/
theorem State.ClientLaw.withdrawn {s t : State} (h : s.ClientLaw) {l : Option Nat}
    (hchain : s.arbiter.chain = false)
    (ha : t.arbiter = { s.arbiter with hold := l, waiting := s.arbiter.waiting.put false .spe })
    (hg : t.grader = s.grader) (hq : t.gradeQueue = s.gradeQueue) (hcol : t.collector = s.collector)
    (hs : ∀ tag r, t.sorterPort.phase ≠ .executing tag r)
    (hl : t.linePort.phase = s.linePort.phase) : t.ClientLaw := by
  obtain ⟨hch, hholder, hcomp, hgc, hec, -, hlpe, hline, -, hidle, -⟩ := h
  unfold State.ClientLaw
  rw [ha, hg, hq, hcol, hl, PortEngine.executing_eq_false hs]
  exact ⟨hch, hholder, hcomp, hgc, hec, rfl, hlpe, hline, fun tag r h => absurd h (hs tag r), hidle,
    fun _ => ⟨hchain, rfl⟩⟩

theorem State.countReading_law {p : Port} {tag rq : Nat} {s : State} {a : Answer}
    (hs : (s.respond p tag rq a).ClientLaw) : (s.countReading.respond p tag rq a).ClientLaw := by
  unfold State.countReading
  split
  · exact State.respond_congr hs rfl rfl rfl id rfl rfl rfl rfl rfl
  · exact hs

theorem workArbiterSet_law (k l : Nat) {p : Port} {tag rq : Nat} {s : State} {a : Answer}
    (hs : (s.respond p tag rq a).ClientLaw) : ((workArbiterSet k l s).2.respond p tag rq a).ClientLaw := by
  unfold workArbiterSet
  split
  · exact State.countReading_law hs
  · split
    · exact State.countReading_law (State.respond_congr hs rfl rfl rfl id rfl rfl rfl rfl rfl)
    · exact State.countReading_law hs

theorem workAttentionMask_law (m : Nat) {p : Port} {tag rq : Nat} {s : State} {a : Answer}
    (hs : (s.respond p tag rq a).ClientLaw) :
    ((workAttentionMask p m s).2.respond p tag rq a).ClientLaw := by
  unfold workAttentionMask
  split
  · exact hs
  · exact hs
  · cases p with
    | line => exact State.respond_congr hs rfl rfl rfl id rfl rfl rfl rfl rfl
    | sorter => exact State.respond_congr hs rfl rfl rfl id rfl rfl rfl rfl rfl

theorem workHoldEnd_law {p : Port} {tag rq : Nat} {s : State} {a : Answer}
    (hs : (s.respond p tag rq a).ClientLaw) : ((workHoldEnd s).2.respond p tag rq a).ClientLaw := by
  unfold workHoldEnd
  split
  · exact hs
  · exact State.respond_congr hs rfl rfl rfl (fun h => nomatch h) rfl rfl rfl rfl rfl

/-- A hold opens outside a chain and withdraws the Sorter Port's request (R157). -/
theorem workHoldBegin_law {p : Port} {tag rq : Nat} {s : State} {a : Answer}
    (hs : (s.respond p tag rq a).ClientLaw) (hchain : s.arbiter.chain = false) :
    ((workHoldBegin s).2.respond p tag rq a).ClientLaw := by
  unfold workHoldBegin
  split
  · exact hs
  · have hspe : s.arbiter.waiting.spe = (s.respond p tag rq a).sorterPort.executing := by
      obtain ⟨-, -, -, -, -, hspe, -⟩ := hs
      rw [← hspe, State.respond_arbiter]
    cases hph : s.sorterPort.phase with
    | executing tag' r =>
      obtain ⟨u, b, ⟨-, hu⟩, e⟩ := State.withdrawSorter_executing
        (s := { s with arbiter := { s.arbiter with hold := some s.arbiter.holdLimit } }) hph
      rw [e, hu]
      cases p
      · exact hs.withdrawn hchain rfl rfl rfl rfl (fun _ _ h => nomatch h) rfl
      · exact hs.withdrawn hchain rfl rfl rfl rfl (fun _ _ h => nomatch h) rfl
    | _ =>
      have hne : ∀ tag r, s.sorterPort.phase ≠ .executing tag r := fun _ _ h => by
        rw [hph] at h; cases h
      have hse : (s.respond p tag rq a).sorterPort.executing = false := by
        refine PortEngine.executing_eq_false ?_
        cases p
        · exact hne
        · exact fun _ _ h => nomatch h
      have hput : s.arbiter.waiting = s.arbiter.waiting.put false .spe := by
        rw [WaitingSet.put, ← hspe.trans hse]
      have ha : ({ s.arbiter with hold := some s.arbiter.holdLimit } : Arbiter) =
          { s.arbiter with
            hold := some s.arbiter.holdLimit, waiting := s.arbiter.waiting.put false .spe } := by
        rw [← hput]
      rw [State.withdrawSorter_of_not (s := { s with
        arbiter := { s.arbiter with hold := some s.arbiter.holdLimit } }) hne]
      cases p
      · exact hs.withdrawn hchain ha rfl rfl rfl hne rfl
      · exact hs.withdrawn hchain ha rfl rfl rfl (fun _ _ h => nomatch h) rfl

theorem fullResetBlocks_law {p : Port} {tag rq : Nat} (s : State) (a : Answer) :
    ((fullResetBlocks s).respond p tag rq a).ClientLaw := by
  cases p with
  | line => exact .of_emptied ⟨rfl, rfl, rfl, rfl⟩ rfl rfl rfl (fun _ _ h => nomatch h) (fun _ _ h => nomatch h)
  | sorter =>
    exact .of_emptied ⟨rfl, rfl, rfl, rfl⟩ rfl rfl rfl (fun _ _ h => nomatch h) (fun _ _ h => nomatch h)

theorem lineRestartBlocks_law {tag rq : Nat} (s : State) (a : Answer) :
    ((lineRestartBlocks s).respond .line tag rq a).ClientLaw := by
  unfold lineRestartBlocks
  simp only
  generalize hu : (State.mk .. : State) = u
  obtain ⟨e, he⟩ := u.restartSorter_frame
  have hs : ∀ tag r, u.restartSorter.sorterPort.phase ≠ .executing tag r := by
    unfold State.restartSorter
    split
    · exact fun _ _ h => nomatch h
    next hne => exact hne
  rw [he] at hs ⊢
  subst hu
  exact .of_emptied ⟨rfl, rfl, rfl, rfl⟩ rfl rfl rfl hs (fun _ _ h => nomatch h)

theorem workOf_law {p : Port} {r : Request} {tag rq : Nat} {s : State} {a : Answer}
    (hs : (s.respond p tag rq a).ClientLaw) (hchain : r = .holdBegin → s.arbiter.chain = false)
    (hr : r = .lineRestart → p = .line) : ((workOf p r s).2.respond p tag rq a).ClientLaw := by
  cases hm : movesClients r with
  | false => exact ((workOf_clientsTo hm).respond p tag rq a).law hs
  | true =>
    cases r with
    | attentionMask m => exact workAttentionMask_law m hs
    | arbiterSet k l => exact workArbiterSet_law k l hs
    | holdBegin => exact workHoldBegin_law hs (hchain rfl)
    | holdEnd => exact workHoldEnd_law hs
    | fullReset => exact fullResetBlocks_law s a
    | lineRestart => exact hr rfl ▸ lineRestartBlocks_law s a
    | _ => cases hm

theorem perform_law {p : Port} {r : Request} {tag : Nat} {s : State}
    (hs : ∀ a, (s.respond p tag (requestCode r) a).ClientLaw)
    (hchain : r = .holdBegin → s.arbiter.chain = false) (hr : r = .lineRestart → p = .line) :
    (perform p tag r s).ClientLaw := by
  unfold perform
  split
  · exact hs _
  · exact workOf_law (hs _) hchain hr

end Sys2Proof.Machine
end

section
/-! PROOFS. The clients' standing to the arbiter, through each access and each command. -/

namespace Sys2Proof.Machine

/-! ### A client taken out of the waiting set -/

theorem State.ClientLaw.chain_false {s : State} (h : s.ClientLaw) (hfree : s.arbiter.holder = none) :
    s.arbiter.chain = false := by
  obtain ⟨hchain, -⟩ := h
  rw [hfree] at hchain
  cases hc : s.arbiter.chain with
  | false => rfl
  | true => cases hchain.1 hc

/-- A port whose request has been granted and answered stands as the law says (R152). -/
theorem State.ClientLaw.granted_port {s : State} (h : s.ClientLaw) (p : Port) (tag rq : Nat) (a : Answer) :
    ((s.markGranted (clientOf p)).respond p tag rq a).ClientLaw := by
  obtain ⟨hchain, hholder, hcomp, hgc, hec, hspe, hlpe, hline, hsorter, hidle, hopen⟩ := h
  cases p with
  | line =>
    exact ⟨hchain, hholder, hcomp, hgc, hec, hspe, ⟨(nomatch ·), fun ⟨_, _, h, _⟩ => (nomatch h)⟩,
      fun _ _ h => (nomatch h), hsorter, hidle, hopen⟩
  | sorter =>
    exact ⟨hchain, hholder, hcomp, hgc, hec, rfl, hlpe, hline, fun _ _ h => (nomatch h), hidle,
      fun h => ⟨(hopen h).1, rfl⟩⟩

/-- The collector once its access has been granted and made (R71, R152). -/
theorem State.ClientLaw.granted_collector {s : State} (h : s.ClientLaw) :
    { s.markGranted .ec with collector := .waiting }.ClientLaw := by
  obtain ⟨hchain, hholder, hcomp, hgc, hec, hspe, hlpe, hline, hsorter, hidle, hopen⟩ := h
  exact ⟨hchain, hholder, hcomp, hgc, rfl, hspe, hlpe, hline, hsorter, hidle, hopen⟩

/-- The Grade Computer, computing, once its access has been granted (R106, R152). -/
theorem State.ClientLaw.granted_grader {s : State} (h : s.ClientLaw) (c : GradeCopy) :
    { s.markGranted .gc with grader := .computing c }.ClientLaw := by
  obtain ⟨hchain, hholder, hcomp, hgc, hec, hspe, hlpe, hline, hsorter, hidle, hopen⟩ := h
  exact ⟨hchain, hholder, fun _ => ⟨c, rfl⟩, rfl, hec, hspe, hlpe, hline, hsorter, (nomatch ·), hopen⟩

/-! ### A client that waits -/

theorem State.ClientLaw.post_port {s : State} (h : s.ClientLaw) {p : Port} {tag : Nat} {r : Request}
    (hr : takesAccess r = true) (hp : p = .sorter → s.arbiter.hold.isSome = false) :
    ((s.executing p tag r).postWaiting (clientOf p)).ClientLaw := by
  obtain ⟨hchain, hholder, hcomp, hgc, hec, hspe, hlpe, hline, hsorter, hgidle, hopen⟩ := h
  cases p with
  | line =>
    refine ⟨hchain, hholder, hcomp, hgc, hec, hspe, ⟨fun _ => ⟨tag, r, rfl, hr⟩, fun _ => rfl⟩,
      fun tag' r' he => .inl ?_, hsorter, hgidle, hopen⟩
    cases he
    exact hr
  | sorter =>
    refine ⟨hchain, hholder, hcomp, hgc, hec, rfl, hlpe, hline, fun tag' r' he => ?_, hgidle,
      fun h => ?_⟩
    · cases he
      exact hr
    · exact absurd ((hp rfl).symm.trans h) Bool.false_ne_true

/-- A reset waits for a chain to end (R161). -/
theorem State.ClientLaw.await_chain {s : State} (h : s.ClientLaw) {tag : Nat} {r : Request}
    (hidle : s.linePort.phase = .idle) (hr : r = .fullReset ∨ r = .lineRestart)
    (hc : s.arbiter.chain = true) : (s.executing .line tag r).ClientLaw := by
  obtain ⟨hchain, hholder, hcomp, hgc, hec, hspe, hlpe, hline, hsorter, hidle', hopen⟩ := h
  have hno : takesAccess r = false := by rcases hr with rfl | rfl <;> rfl
  refine ⟨hchain, hholder, hcomp, hgc, hec, hspe, ⟨fun hw => ?_, fun ⟨_, _, he, ha⟩ => ?_⟩,
    fun tag' r' he => .inr ?_, hsorter, hidle', hopen⟩
  · obtain ⟨_, _, he, _⟩ := hlpe.1 hw
    rw [hidle] at he
    cases he
  · cases he
    rw [hno] at ha
    cases ha
  · cases he
    exact ⟨hc, hr⟩

theorem State.ClientLaw.post_collector {s : State} (h : s.ClientLaw) (ps : List Piece) :
    ({ s with collector := .awaitStore ps }.postWaiting .ec).ClientLaw := by
  obtain ⟨hchain, hholder, hcomp, hgc, hec, hspe, hlpe, hline, hsorter, hidle, hopen⟩ := h
  exact ⟨hchain, hholder, hcomp, hgc, rfl, hspe, hlpe, hline, hsorter, hidle, hopen⟩

theorem State.ClientLaw.post_grader {s : State} (h : s.ClientLaw) (c : GradeCopy) (g : Option GradeResult)
    (hc : s.arbiter.chain = false) : ({ s with grader := .writeWait c g }.postWaiting .gc).ClientLaw := by
  obtain ⟨hchain, hholder, hcomp, hgc, hec, hspe, hlpe, hline, hsorter, hidle, hopen⟩ := h
  refine ⟨hchain, hholder, fun h => ?_, rfl, hec, hspe, hlpe, hline, hsorter, (nomatch ·), hopen⟩
  exact absurd (hc.symm.trans h) Bool.false_ne_true

/-! ### The accesses -/

theorem servePort_law {p : Port} {tag : Nat} {r : Request} {s : State}
    (hs : ∀ a, (s.respond p tag (requestCode r) a).ClientLaw) (hph : (s.port p).phase = .executing tag r)
    (hr : takesAccess r = true) (hchain : s.arbiter.chain = false) : (servePort p s).ClientLaw := by
  unfold servePort
  rw [hph]
  exact perform_law hs (fun _ => hchain) (fun h => by rw [h] at hr; cases hr)

/-- An evidence write leaves the other clients where they stand. -/
theorem evidenceWrite_clientsTo (ps : List Piece) (s : State) :
    State.ClientsTo { s with collector := .waiting } (evidenceWrite ps s) := by
  have k := keptByItems_clientsTo s
  have hp : ∀ (ps : List Piece) (t : State), s.ClientsTo t → s.ClientsTo (ps.foldl State.writePiece t) := by
    intro ps
    induction ps with
    | nil => exact fun _ h => h
    | cons p ps ih => exact fun t h => ih _ (k.writePiece h)
  obtain ⟨-, hsor, hlin, hag⟩ := hp ps s (.refl s)
  exact ⟨rfl, hsor, hlin, hag⟩

theorem evidenceWrite_law {ps : List Piece} {s : State}
    (hs : { s with collector := .waiting }.ClientLaw) : (evidenceWrite ps s).ClientLaw :=
  (evidenceWrite_clientsTo ps s).law hs

/-- The end of a fetch (R107, R123): the queue's head is computed, in a chain or out of it. -/
theorem gradingFetch_law {s : State} (hs : ∀ c, { s with grader := .computing c }.ClientLaw)
    (hfree : s.arbiter.holder = none) (hhold : s.arbiter.hold.isSome = false) :
    (gradingFetch s).ClientLaw := by
  have hchain := (hs (s.gradeCopy 0)).chain_false hfree
  unfold gradingFetch
  split
  next hq =>
    obtain ⟨hch, hholder, -, hgc, hec, hspe, hlpe, hline, hsorter, -, hopen⟩ := hs (s.gradeCopy 0)
    exact ⟨hch, hholder, fun h => (by rw [hchain] at h; cases h), hgc, hec, hspe, hlpe, hline, hsorter,
      fun _ => hq, hopen⟩
  next i rest _ =>
    obtain ⟨hch, hholder, hcomp, hgc, hec, hspe, hlpe, hline, hsorter, -, hopen⟩ := hs (s.gradeCopy i)
    simp only
    split
    · refine ⟨⟨fun _ => rfl, fun _ => rfl⟩, .inr rfl, fun _ => ⟨_, rfl⟩, hgc, hec, hspe, hlpe,
        fun tag r h => ?_, hsorter, (nomatch ·), fun h => ?_⟩
      · exact .inl ((hline tag r h).resolve_right fun h => by rw [hchain] at h; exact nomatch h.1)
      · exact absurd (hhold.symm.trans h) Bool.false_ne_true
    · exact ⟨hch, hholder, fun _ => ⟨_, rfl⟩, hgc, hec, hspe, hlpe, hline, hsorter, (nomatch ·), hopen⟩

/-- The end of a write-back (R110): the next fetch is posted, and a chain is over. -/
theorem State.graderDone_law {s : State} {c : GradeCopy} (hs : { s with grader := .computing c }.ClientLaw)
    (hl : ∀ tag r, s.linePort.phase = .executing tag r → takesAccess r = true) :
    { s.graderDone with arbiter := { s.graderDone.arbiter with holder := none, chain := false } }.ClientLaw := by
  obtain ⟨-, -, -, hgc, hec, hspe, hlpe, -, hsorter, -, hopen⟩ := hs
  unfold State.graderDone
  split
  next hq =>
    exact ⟨⟨(nomatch ·), (nomatch ·)⟩, .inl rfl, (nomatch ·), hgc, hec, hspe, hlpe,
      fun tag r h => .inl (hl tag r h), hsorter, fun _ => List.isEmpty_iff.1 hq,
      fun h => ⟨rfl, (hopen h).2⟩⟩
  next =>
    exact ⟨⟨(nomatch ·), (nomatch ·)⟩, .inl rfl, (nomatch ·), rfl, hec, hspe, hlpe,
      fun tag r h => .inl (hl tag r h), hsorter, (nomatch ·), fun h => ⟨rfl, (hopen h).2⟩⟩

/-- A write-back is the item's decision and then the next fetch (R110). -/
theorem gradingWriteBack_clientsTo (c : GradeCopy) (g : Option GradeResult) (s : State) :
    ∃ u, s.ClientsTo u ∧ gradingWriteBack c g s = u.graderDone := by
  refine ⟨_, ?_, rfl⟩
  split
  · exact (keptByItems_clientsTo s).applyResult c g (.refl s)
  · exact .refl s

theorem State.ClientsTo.computing {s t : State} (h : s.ClientsTo t) (hg : s.grader ≠ .idle) (c : GradeCopy) :
    State.ClientsTo { s with grader := .computing c } { t with grader := .computing c } := by
  obtain ⟨hcol, hsor, hlin, ⟨ha, -, hq⟩ | ⟨hi, -⟩⟩ := h
  · exact ⟨hcol, hsor, hlin, .inl ⟨ha, rfl, (nomatch ·)⟩⟩
  · exact absurd hi hg

theorem gradingWriteBack_law {s : State} {c d : GradeCopy} {g : Option GradeResult}
    (hs : { s with grader := .computing d }.ClientLaw) (hg : s.grader ≠ .idle)
    (hl : ∀ tag r, s.linePort.phase = .executing tag r → takesAccess r = true) :
    { gradingWriteBack c g s with
      arbiter := { (gradingWriteBack c g s).arbiter with holder := none, chain := false } }.ClientLaw := by
  obtain ⟨u, hto, e⟩ := gradingWriteBack_clientsTo c g s
  rw [e]
  refine State.graderDone_law ((hto.computing hg d).law hs) ?_
  obtain ⟨-, -, hlin, -⟩ := hto
  rw [hlin]
  exact hl

theorem State.graderDone_respond (s : State) (tag rq : Nat) (a : Answer) :
    (s.respond .line tag rq a).graderDone = s.graderDone.respond .line tag rq a := by
  unfold State.graderDone
  rw [State.respond_gradeQueue]
  split <;> rfl

/-- The same where the Line Port answers a reset that waited. -/
theorem gradingWriteBack_respond_law {s : State} {c d : GradeCopy} {g : Option GradeResult} {tag rq : Nat}
    {a : Answer} (hs : ({ s with grader := .computing d }.respond .line tag rq a).ClientLaw)
    (hg : s.grader ≠ .idle) :
    ({ gradingWriteBack c g s with
      arbiter := { (gradingWriteBack c g s).arbiter with holder := none, chain := false } }.respond
        .line tag rq a).ClientLaw := by
  obtain ⟨u, hto, e⟩ := gradingWriteBack_clientsTo c g s
  have hu := State.graderDone_law (s := u.respond .line tag rq a)
    (((hto.computing hg d).respond .line tag rq a).law hs) (fun _ _ h => nomatch h)
  rw [State.graderDone_respond] at hu
  rw [e]
  exact hu

/-- A write-back leaves the holder of the store and the chain (R123). -/
theorem gradingWriteBack_store (c : GradeCopy) (g : Option GradeResult) (s : State) :
    (gradingWriteBack c g s).arbiter.holder = s.arbiter.holder ∧
      (gradingWriteBack c g s).arbiter.chain = s.arbiter.chain := by
  obtain ⟨u, hto, e⟩ := gradingWriteBack_clientsTo c g s
  have hu : u.arbiter.holder = s.arbiter.holder ∧ u.arbiter.chain = s.arbiter.chain := by
    obtain ⟨-, -, -, ⟨ha, -⟩ | ⟨-, -, ha⟩⟩ := hto <;> rw [ha] <;> exact ⟨rfl, rfl⟩
  rw [e]
  unfold State.graderDone
  split <;> exact hu

theorem gradingWriteBack_linePort (c : GradeCopy) (g : Option GradeResult) (s : State) :
    (gradingWriteBack c g s).linePort = s.linePort := by
  obtain ⟨u, ⟨-, -, hlin, -⟩, e⟩ := gradingWriteBack_clientsTo c g s
  rw [e, ← hlin]
  unfold State.graderDone
  split <;> rfl

/-- Whether a client has work to do in an access: what it waits for a grant with. -/
def State.AsksAccess (s : State) : Client → Prop
  | .lpe => ∃ tag r, s.linePort.phase = .executing tag r ∧ takesAccess r = true
  | .spe => ∃ tag r, s.sorterPort.phase = .executing tag r ∧ takesAccess r = true
  | .ec => ∃ ps, s.collector = .awaitStore ps
  | .gc => s.grader = .fetchWait ∨ ∃ c g, s.grader = .writeWait c g

/-- Each waiting client has work to do. -/
theorem State.ClientLaw.asksAccess {s : State} (h : s.ClientLaw) {c : Client}
    (hw : s.arbiter.waiting.has c = true) : s.AsksAccess c := by
  obtain ⟨-, -, -, hgc, hec, hspe, hlpe, -, hsorter, -, -⟩ := h
  cases c with
  | lpe => exact hlpe.1 hw
  | spe =>
    have he := hspe.symm.trans hw
    unfold PortEngine.executing at he
    split at he
    next tag r hph => exact ⟨tag, r, hph, hsorter tag r hph⟩
    next => cases he
  | ec =>
    have he := hec.symm.trans hw
    unfold Collector.waits at he
    split at he
    next ps hc => exact ⟨ps, hc⟩
    next => cases he
  | gc =>
    have he := hgc.symm.trans hw
    unfold Grader.waits at he
    split at he
    next hg => exact .inl hg
    next c g hg => exact .inr ⟨c, g, hg⟩
    next => cases he

/-- The law of the clients but for what it says of one client, whose access is in progress. -/
def State.LawDuring (s : State) : Client → Prop
  | .lpe => ∀ tag rq a, (s.respond .line tag rq a).ClientLaw
  | .spe => ∀ tag rq a, (s.respond .sorter tag rq a).ClientLaw
  | .ec => { s with collector := .waiting }.ClientLaw
  | .gc => (∀ c, { s with grader := .computing c }.ClientLaw) ∧ s.arbiter.hold.isSome = false ∧
    ∀ tag r, s.linePort.phase = .executing tag r → takesAccess r = true

/-- An access taken whole leaves the clients in their standing (R150, R151). -/
theorem runAccess_law {c : Client} {s : State} (h : s.LawDuring c) (hask : s.AsksAccess c)
    (hfree : s.arbiter.holder = none) (hchain : s.arbiter.chain = false) : (runAccess c s).ClientLaw := by
  cases c with
  | lpe =>
    obtain ⟨tag, r, hph, hr⟩ := hask
    exact servePort_law (p := .line) (h tag _) hph hr hchain
  | spe =>
    obtain ⟨tag, r, hph, hr⟩ := hask
    exact servePort_law (p := .sorter) (h tag _) hph hr hchain
  | ec =>
    obtain ⟨ps, hc⟩ := hask
    unfold runAccess
    rw [hc]
    exact evidenceWrite_law h
  | gc =>
    obtain ⟨hs, hhold, hl⟩ := h
    unfold runAccess
    rcases hask with hg | ⟨d, g, hg⟩ <;> rw [hg]
    · exact gradingFetch_law hs hfree hhold
    · obtain ⟨hh, hc⟩ := gradingWriteBack_store d g s
      have hw := gradingWriteBack_law (c := d) (g := g) (hs d) (by rw [hg]; exact (nomatch ·)) hl
      exact hw.congr rfl (hh.trans hfree) (hc.trans hchain) id rfl (fun _ h => h) rfl rfl rfl

/-! ### The events -/

theorem State.ClientLaw.markGranted {s : State} (h : s.ClientLaw) (c : Client)
    (hfree : s.arbiter.holder = none) (hhold : c = .gc → s.arbiter.hold.isSome = false) :
    (s.markGranted c).LawDuring c := by
  cases c with
  | lpe => exact fun tag rq a => h.granted_port .line tag rq a
  | spe => exact fun tag rq a => h.granted_port .sorter tag rq a
  | ec => exact h.granted_collector
  | gc =>
    refine ⟨h.granted_grader, hhold rfl, fun tag r hph => ?_⟩
    have hchain := h.chain_false hfree
    obtain ⟨-, -, -, -, -, -, -, hline, -⟩ := h
    exact (hline tag r hph).resolve_right fun h => by rw [hchain] at h; exact nomatch h.1

/-- The client the arbiter chooses waits, and in a hold it is the Line Port Engine (R152, R155). -/
theorem Arbiter.choice_waits {a : Arbiter} {c : Client} (h : a.choice = some c) :
    a.waiting.has c = true ∧ (a.hold.isSome = true → c = .lpe) := by
  have hsorter : ∀ {d}, a.waiting.sorterFirst = some d → a.waiting.has d = true := by
    intro d hd
    unfold WaitingSet.sorterFirst at hd
    split at hd
    · cases hd; assumption
    · split at hd
      · cases hd; assumption
      · split at hd
        · cases hd; assumption
        · split at hd
          · cases hd; assumption
          · cases hd
  unfold Arbiter.choice at h
  split at h
  · split at h
    next hw => cases h; exact ⟨hw, fun _ => rfl⟩
    next => cases h
  next hn =>
    refine ⟨?_, fun hs => absurd hs hn⟩
    split at h
    · exact hsorter h
    · exact List.find?_some h
    · exact hsorter h

theorem grantStore_law {s : State} (h : s.ClientLaw) : (grantStore s).ClientLaw := by
  unfold grantStore
  split
  · exact h
  next hholder =>
    have hfree : s.arbiter.holder = none := by simpa using hholder
    split
    next c hc =>
      obtain ⟨hw, hhold⟩ := Arbiter.choice_waits hc
      have hask : (s.markGranted c).AsksAccess c := by
        have := h.asksAccess hw
        cases c <;> exact this
      refine runAccess_law (h.markGranted c hfree fun hgc => ?_) hask hfree (h.chain_false hfree)
      cases ho : s.arbiter.hold.isSome with
      | false => rfl
      | true => rw [hhold ho] at hgc; cases hgc
    next => exact h

/-- What a request granted at once finds (R152, R155): a free store, and outside a hold no client waiting. -/
theorem Arbiter.grantsAtOnce_iff (a : Arbiter) (c : Client) (m : Moment) :
    a.grantsAtOnce c m = true ↔ a.holder = none ∧ m = .storeFree ∧
      (if a.hold.isSome then c = .lpe else a.waiting = .empty) := by
  unfold Arbiter.grantsAtOnce
  simp only [Bool.and_eq_true, Option.isNone_iff_eq_none, beq_iff_eq, and_assoc]
  split <;> simp

theorem postPort_law {p : Port} {m : Moment} {tag : Nat} {r : Request} {s : State} (h : s.ClientLaw)
    (hr : takesAccess r = true) (hp : p = .sorter → s.arbiter.hold.isSome = false) :
    (postClient (clientOf p) m (s.executing p tag r)).ClientLaw := by
  unfold postClient
  split
  next hg =>
    have hfree : s.arbiter.holder = none := by
      cases p <;> exact ((Arbiter.grantsAtOnce_iff _ _ _).1 hg).1
    cases p with
    | line =>
      exact runAccess_law (c := .lpe) (fun tag rq a => h.granted_port .line tag rq a) ⟨tag, r, rfl, hr⟩ hfree
        (h.chain_false hfree)
    | sorter =>
      exact runAccess_law (c := .spe) (fun tag rq a => h.granted_port .sorter tag rq a) ⟨tag, r, rfl, hr⟩
        hfree (h.chain_false hfree)
  next => exact h.post_port hr hp

/-- A port that executes no request before or after a change of it. -/
theorem State.ClientLaw.setPort_rest {s : State} (h : s.ClientLaw) {p : Port} {e : PortEngine}
    (hs : ∀ tag r, (s.port p).phase ≠ .executing tag r) (he : ∀ tag r, e.phase ≠ .executing tag r) :
    (s.setPort p e).ClientLaw := by
  obtain ⟨hchain, hholder, hcomp, hgc, hec, hspe, hlpe, hline, hsorter, hgidle, hopen⟩ := h
  cases p with
  | line =>
    refine ⟨hchain, hholder, hcomp, hgc, hec, hspe, ⟨fun hw => ?_, fun ⟨tag, r, h, _⟩ => absurd h (he tag r)⟩,
      fun tag r h => absurd h (he tag r), hsorter, hgidle, hopen⟩
    obtain ⟨tag, r, h, _⟩ := hlpe.1 hw
    exact absurd h (hs tag r)
  | sorter =>
    refine ⟨hchain, hholder, hcomp, hgc, hec, hspe.trans ?_, hlpe, hline, fun tag r h => absurd h (he tag r),
      hgidle, hopen⟩
    exact (PortEngine.executing_eq_false hs).trans (PortEngine.executing_eq_false he).symm

theorem State.ClientLaw.setPort_same {s : State} (h : s.ClientLaw) {p : Port} {e : PortEngine}
    (he : e.phase = (s.port p).phase) : (s.setPort p e).ClientLaw := by
  cases p with
  | line => exact h.congr rfl rfl rfl id rfl (fun _ h => h) rfl rfl he
  | sorter => exact h.congr rfl rfl rfl id rfl (fun _ h => h) rfl he rfl

/-- An idle port that answers stands as the law says. -/
theorem State.ClientLaw.respond_idle {s : State} (h : s.ClientLaw) {p : Port}
    (hidle : (s.port p).phase = .idle) (tag rq : Nat) (a : Answer) : (s.respond p tag rq a).ClientLaw :=
  h.setPort_rest (fun _ _ h => nomatch hidle.symm.trans h) (fun _ _ h => nomatch h)

theorem State.countsTo_atMoment (s : State) (r : Request) (m : Moment) : s.CountsTo (s.atMoment r m) := by
  unfold State.atMoment
  split
  · exact s.countsTo_closeRaises
  · exact .refl s

theorem reset_line {p : Port} {r : Request} (hr : r = .fullReset ∨ r = .lineRestart)
    (hp : permitted r p = true) : p = .line := by
  cases p with
  | line => rfl
  | sorter => rcases hr with rfl | rfl <;> cases hp

theorem takeRequest_law {p : Port} {m : Moment} {tag : Nat} {r : Request} {s : State} (h : s.ClientLaw)
    (hidle : (s.port p).phase = .idle) : (takeRequest p m tag r s).ClientLaw := by
  have hanswer := h.respond_idle hidle tag
  unfold takeRequest
  split
  · exact hanswer _ _
  next hp =>
    replace hp : permitted r p = true := by simpa using hp
    split
    next hr =>
      split
      · exact ((answerUnderHold_clientsTo r s).respond p tag _ _).law (hanswer _ _)
      next hhold =>
        refine postPort_law h hr fun hs => ?_
        simpa [hs] using hhold
    next hr =>
      split
      next hreset =>
        obtain ⟨hreset, hheld⟩ := hreset
        obtain rfl := reset_line hreset hp
        refine h.await_chain hidle hreset ?_
        obtain ⟨hchain, hholder, -⟩ := h
        rcases hholder with hn | hg
        · rw [hn] at hheld; cases hheld
        · exact hchain.2 hg
      · exact perform_law (fun a => ((s.countsTo_atMoment r m).clientsTo.respond p tag _ a).law (hanswer _ a))
          (fun hb => absurd (congrArg takesAccess hb) hr) (fun hb => reset_line (.inr hb) hp)

theorem writeRequest_law {p : Port} {m : Moment} {f : FrameTaken} {s : State} (h : s.ClientLaw) :
    (writeRequest p m f s).ClientLaw := by
  have hwritten : ∀ t : State, t.ClientLaw → (t.written p).ClientLaw := by
    intro t ht
    have hmiso : (t.setPort p { t.port p with miso := [] }).ClientLaw := ht.setPort_same rfl
    cases p with
    | line => exact (State.countsTo_closeRaises _).clientsTo.law hmiso
    | sorter => exact hmiso
  unfold writeRequest
  split
  · exact h
  · refine hwritten _ ?_
    unfold takeFrameOnPort
    split
    next hidle =>
      split
      · exact takeRequest_law h hidle
      · exact h.respond_idle hidle _ _ _
    next =>
      cases p with
      | line => exact h.congr rfl rfl rfl id rfl (fun _ h => h) rfl rfl rfl
      | sorter => exact h.congr rfl rfl rfl id rfl (fun _ h => h) rfl rfl rfl

theorem collectFrame_law {m : Moment} {s : State} (h : s.ClientLaw) : (collectFrame m s).ClientLaw := by
  unfold collectFrame
  split
  next f rest hc hf =>
    have hto : s.ClientsTo (takeFrame f { s.closeRaises with fifo := rest }).2 :=
      (keptByFrames_clientsTo s).frame hf (.refl s)
    simp only
    generalize takeFrame f { s.closeRaises with fifo := rest } = r at hto
    have hr := hto.law h
    split
    · exact hr
    · unfold postClient
      split
      next hg =>
        have hfree : r.2.arbiter.holder = none := ((Arbiter.grantsAtOnce_iff _ _ _).1 hg).1
        exact runAccess_law (c := .ec) hr.granted_collector ⟨r.1, rfl⟩ hfree (hr.chain_false hfree)
      next => exact hr.post_collector r.1
  next => exact h

/-- A Line Port that answers a reset stands as the law says. -/
theorem State.ClientLaw.respond_reset {s : State} (h : s.ClientLaw) {tag : Nat} {r : Request}
    (hph : s.linePort.phase = .executing tag r) (hr : takesAccess r = false) (tag' rq : Nat) (a : Answer) :
    (s.respond .line tag' rq a).ClientLaw := by
  obtain ⟨hchain, hholder, hcomp, hgc, hec, hspe, hlpe, hline, hsorter, hgidle, hopen⟩ := h
  refine ⟨hchain, hholder, hcomp, hgc, hec, hspe, ⟨fun hw => ?_, fun ⟨_, _, h, _⟩ => (nomatch h)⟩,
    fun _ _ h => (nomatch h), hsorter, hgidle, hopen⟩
  obtain ⟨_, r', he, ha⟩ := hlpe.1 hw
  rw [hph] at he
  cases he
  exact absurd (hr.symm.trans ha) Bool.false_ne_true

theorem State.afterChain_law {s : State}
    (hreset : ∀ tag r, s.linePort.phase = .executing tag r → r = .fullReset ∨ r = .lineRestart →
      ∀ a, (s.respond .line tag (requestCode r) a).ClientLaw)
    (hother : (∀ tag r, s.linePort.phase = .executing tag r → ¬ (r = .fullReset ∨ r = .lineRestart)) →
      s.ClientLaw) : s.afterChain.ClientLaw := by
  unfold State.afterChain
  split
  next tag r hph =>
    split
    next hr =>
      exact perform_law (hreset tag r hph hr) (fun hb => by rw [hb] at hr; rcases hr with h | h <;> cases h)
        (fun _ => rfl)
    next hr =>
      refine hother fun tag' r' hph' => ?_
      cases hph.symm.trans hph'
      exact hr
  next hne => exact hother fun tag r hph => absurd hph (hne tag r)

/-- The chain's write-back frees the store, and a reset that waited for it acts (R123, R161). -/
theorem endChain_law {s : State} {c : GradeCopy} (h : s.ClientLaw) (hg : s.grader = .computing c)
    (g : Option GradeResult) :
    (State.afterChain { gradingWriteBack c g s.closeRaises with
      arbiter := { (gradingWriteBack c g s.closeRaises).arbiter with
        holder := none, chain := false } }).ClientLaw := by
  have hclose : s.closeRaises.ClientLaw := s.countsTo_closeRaises.clientsTo.law h
  have hne : s.closeRaises.grader ≠ .idle := by rw [State.closeRaises_grader, hg]; exact (nomatch ·)
  have hcomp : { s.closeRaises with grader := .computing c }.ClientLaw :=
    hclose.congr rfl rfl rfl id hg.symm (fun _ he => he) rfl rfl rfl
  have hline := gradingWriteBack_linePort c g s.closeRaises
  refine State.afterChain_law (fun tag r hph hreset a => ?_) fun hother => ?_
  · have hno : takesAccess r = false := by rcases hreset with rfl | rfl <;> rfl
    refine gradingWriteBack_respond_law (d := c) (hcomp.respond_reset (tag := tag) (r := r) ?_ hno _ _ a) hne
    exact (congrArg PortEngine.phase hline).symm.trans hph
  · refine gradingWriteBack_law hcomp hne fun tag r hph => ?_
    obtain ⟨-, -, -, -, -, -, -, hl, -⟩ := h
    exact (hl tag r hph).resolve_right fun hr =>
      hother tag r ((congrArg PortEngine.phase hline).trans hph) hr.2

theorem endComputation_law {m : Moment} {s : State} (h : s.ClientLaw) : (endComputation m s).ClientLaw := by
  unfold endComputation
  split
  next c hg =>
    split
    next => exact endChain_law h hg _
    next hc =>
      replace hc : s.arbiter.chain = false := by simpa using hc
      unfold postClient
      split
      next hgrant =>
        have hfree : s.arbiter.holder = none := ((Arbiter.grantsAtOnce_iff _ _ _).1 hgrant).1
        have hhold : s.arbiter.hold.isSome = false := by
          have := ((Arbiter.grantsAtOnce_iff _ _ _).1 hgrant).2.2
          split at this
          · cases this
          next hn => simpa using hn
        refine runAccess_law (c := .gc) ?_ (.inr ⟨c, _, rfl⟩) hfree hc
        exact h.markGranted .gc hfree fun _ => hhold
      next => exact h.post_grader c _ hc
  next => exact h

/-! ### Every command -/

theorem readPort_law {p : Port} {count : Nat} {cut : Option Nat} {s : State} (h : s.ClientLaw) :
    (readPort p count cut s).ClientLaw := by
  refine (State.countsTo_closeRaises _).clientsTo.law ?_
  simp only
  split
  · exact h.setPort_same rfl
  · split
    next hd =>
      refine h.setPort_rest (fun tag r hph => ?_) (fun _ _ h => nomatch h)
      unfold delivers at hd
      rw [hph] at hd
      cases hd
    next => exact h.setPort_same rfl

theorem holdExpires_law {s : State} (h : s.ClientLaw) : (holdExpires s).ClientLaw := by
  unfold holdExpires
  split
  · exact h.congr rfl rfl rfl (fun h => nomatch h) rfl (fun _ h => h) rfl rfl rfl
  · exact h

theorem whenRunning_law {s t : State} {f : State → State} (hf : s.ClientLaw → (f s).ClientLaw)
    (h : s.ClientLaw) (ht : whenRunning s f = .next t) : t.ClientLaw :=
  LeadsTo.whenRunning (Q := State.ClientLaw) (hf h) h ht

theorem exec_clientLaw {c : Instr} {s t : State} (ht : exec c s = .next t) (h : s.ClientLaw) :
    t.ClientLaw := by
  have poll : ∀ {u v : State}, PollStep u v → u.ClientLaw → v.ClientLaw := fun hp => hp.clientsTo.law
  cases hc : c.request? with
  | some hr =>
    obtain ⟨hd, r⟩ := hr
    rw [exec_request hc, request] at ht
    cases ht
    exact writeRequest_law h
  | none =>
    cases c with
    | writeRequestOverrun p m mosi =>
      unfold exec execWriteRequestOverrun at ht
      simp only at ht
      split at ht
      · cases ht; exact writeRequest_law h
      · exact whenRunning_law readPort_law h ht
      · cases ht; exact h
    | readResponse p r => exact whenRunning_law readPort_law h ht
    | storeAccessGrant => exact whenRunning_law grantStore_law h ht
    | computationDone m => exact whenRunning_law endComputation_law h ht
    | evidenceFrameTaken m => exact whenRunning_law collectFrame_law h ht
    | roundTimerExpiry => exact whenRunning_law (linkTo_expireTimer s).clientsTo.law h ht
    | pollTransmitted => exact whenRunning_law (poll (pollStep_startReplyTimer s)) h ht
    | replyReceived f => exact whenRunning_law (poll (pollStep_takeWholeReply f s)) h ht
    | replyTimeout => exact whenRunning_law (poll (pollStep_replyTimesOut s)) h ht
    | frameIdleGap => exact whenRunning_law (poll (pollStep_replyBreaksOff s)) h ht
    | strayReplyBytes b => cases ht; exact h
    | holdExpiry => exact whenRunning_law holdExpires_law h ht
    | resetAssert =>
      cases ht
      exact .of_emptied ⟨rfl, rfl, rfl, rfl⟩ rfl rfl rfl (fun _ _ h => nomatch h) (fun _ _ h => nomatch h)
    | resetRelease =>
      cases ht
      unfold resetPinHigh
      split <;> exact h
    | blinkPhaseToggle => exact whenRunning_law (f := fun s => { s with blinkLit := !s.blinkLit }) id h ht
    | replyFirstByte l => exact whenRunning_law (poll (pollStep_takeFirstByte l s)) h ht
    | _ => cases hc

/-- Settles O59: each access, taken whole, leaves its client where the law says, and all else leaves the
clients where they stand. -/
theorem clientLawKept : Obligations.ClientLawKept := by
  intro s t h ht
  unfold step at ht
  split at ht
  · cases ht; exact h
  · exact exec_clientLaw ht h

end Sys2Proof.Machine
end

section
/-! PROOFS. The step, and the laws after reset. -/

namespace Sys2Proof.Machine

/-- Settles O1: by the two shapes of the queue. -/
theorem stepRunsFrontCommand : Obligations.StepRunsFrontCommand :=
  ⟨fun _ _ _ h => by rw [step, h], fun _ h => by rw [step, h]⟩

theorem State.bin_of_empty {s : State} (h : s.bins = []) (b : Nat) : s.bin b = Bin.atReset := by
  rw [State.bin, h]; rfl

theorem State.reset_limitLaw : State.reset.LimitLaw := by
  rw [State.limitLaw_iff]
  exact ⟨Nat.zero_le _, fun c => (Counters.zero_base c).le.trans (Nat.zero_le _),
    fun c => (Counters.zero_base c).le.trans (Nat.zero_le _), Nat.le_refl 1, (by decide : 1 ≤ Config.lastTicket)⟩

/-- Settles O60: after reset every table is empty, the controller is stopped and no client waits. -/
theorem lawsHoldAtReset : Obligations.LawsHoldAtReset := by
  have hbin := State.bin_of_empty (s := State.reset) rfl
  refine ⟨⟨Nat.zero_le _, fun h => absurd rfl h⟩, State.reset_limitLaw, State.reset.resetBlocks_tables,
    itemLaws_of_empty rfl rfl rfl rfl, fun b => ?_, State.reservationLaw_of_empty rfl fun b _ => ?_,
    State.stopped_law (timer := none) rfl ⟨fun _ => rfl, fun _ => rfl⟩,
    .of_emptied ⟨rfl, rfl, rfl, rfl⟩ rfl rfl rfl (fun _ _ h => nomatch h) (fun _ _ h => nomatch h)⟩
  · rw [hbin]; exact Nat.zero_le _
  · rw [hbin]; rfl

end Sys2Proof.Machine
end

section
/-! PROOFS. The frames on the ports: the form of a response frame, the checks of a request frame, and the
request frames read back (R196, R197). -/

namespace Sys2Proof.Machine

/-! ### Bytes of a frame -/

theorem bytesOf_one (n : Nat) : bytesOf 1 n = [byteOf n] := rfl

theorem bytesOf_two (n : Nat) : bytesOf 2 n = [byteOf (n / 256), byteOf n] := rfl

theorem byteOf_toNat (n : Nat) : (byteOf n).toNat = n % 256 := BitVec.toNat_ofNat n 8

theorem byteAt_cons_zero (b : Byte) (bs : List Byte) : byteAt (b :: bs) 0 = b.toNat := rfl

theorem byteAt_cons_succ (b : Byte) (bs : List Byte) (i : Nat) :
    byteAt (b :: bs) (i + 1) = byteAt bs i := rfl

/-- Bytes after a frame do not change its bytes. -/
theorem byteAt_append {bs : List Byte} {i : Nat} (hi : i < bs.length) (extra : List Byte) :
    byteAt (bs ++ extra) i = byteAt bs i := by
  rw [byteAt, byteAt, List.getElem?_append_left hi]

theorem wordAt_append {bs : List Byte} {i : Nat} (hi : i + 1 < bs.length) (extra : List Byte) :
    wordAt (bs ++ extra) i = wordAt bs i := by
  rw [wordAt, wordAt, byteAt_append (Nat.lt_of_succ_lt hi), byteAt_append hi]

theorem wordAt_bytesOf {n : Nat} (hn : n < 65536) (bs : List Byte) : wordAt (bytesOf 2 n ++ bs) 0 = n := by
  rw [bytesOf_two, wordAt, List.cons_append, byteAt_cons_zero, byteAt_cons_succ, List.cons_append,
    byteAt_cons_zero, byteOf_toNat, byteOf_toNat]
  omega

theorem closeFrame_length (bs : List Byte) : (closeFrame bs).length = bs.length + 2 := by
  rw [closeFrame, List.length_append, Laws.bytesOf_length]

/-- A frame closed by its CRC passes the check (R193). -/
theorem crcHolds_closeFrame (bs : List Byte) : crcHolds (closeFrame bs) = true := by
  have hlen : (closeFrame bs).length - 2 = bs.length := by rw [closeFrame_length]; omega
  unfold crcHolds
  simp only [hlen]
  rw [closeFrame_length, closeFrame, List.drop_left, List.take_left]
  simp

/-! ### The form of a response frame (R197) -/

theorem codeNumber_lt (c : Code) : codeNumber c < 256 := by cases c <;> decide

theorem responseFrame_eq (r : Response) (overrun : Bool) :
    responseFrame r overrun = bytesOf 2 ((resultBytes r.results).length + 8) ++
      (byteOf (codeNumber r.code) :: byteOf r.request :: byteOf r.tag ::
        byteOf (bitsOf [overrun, r.held]) :: (resultBytes r.results ++
          bytesOf 2 (crc (b2 ((resultBytes r.results).length + 8) ++ b1 (codeNumber r.code) ++ b1 r.request
            ++ b1 r.tag ++ b1 (bitsOf [overrun, r.held]) ++ resultBytes r.results)).toNat)) := by
  simp only [responseFrame, closeFrame, b1, b2, bytesOf_one, List.append_assoc, List.nil_append,
    List.cons_append]

theorem responseFrame_length (r : Response) (overrun : Bool) :
    (responseFrame r overrun).length = (resultBytes r.results).length + 8 := by
  rw [responseFrame_eq]
  simp only [List.length_append, List.length_cons, Laws.bytesOf_length]
  omega

/-- Settles O4: the frame written out byte by byte. -/
theorem responseFrameForm : Obligations.ResponseFrameForm := by
  intro r overrun hreq htag hlen
  have hbytes : ∀ i, byteAt (responseFrame r overrun) (i + 2) = byteAt
      (byteOf (codeNumber r.code) :: byteOf r.request :: byteOf r.tag ::
        byteOf (bitsOf [overrun, r.held]) :: (resultBytes r.results ++
          bytesOf 2 (crc (b2 ((resultBytes r.results).length + 8) ++ b1 (codeNumber r.code) ++ b1 r.request
            ++ b1 r.tag ++ b1 (bitsOf [overrun, r.held]) ++ resultBytes r.results)).toNat)) i := by
    intro i
    rw [responseFrame_eq]
    rfl
  have hflags : byteAt (responseFrame r overrun) 5 = bitsOf [overrun, r.held] % 256 :=
    (hbytes 3).trans (byteOf_toNat _)
  refine ⟨?_, responseFrame_length r overrun, ?_, ?_, ?_, ?_, ?_, ?_, crcHolds_closeFrame _⟩
  · rw [responseFrame_length, responseFrame_eq, wordAt_bytesOf hlen]
  · exact (hbytes 0).trans ((byteOf_toNat _).trans (Nat.mod_eq_of_lt (codeNumber_lt _)))
  · exact (hbytes 1).trans ((byteOf_toNat _).trans (Nat.mod_eq_of_lt hreq))
  · exact (hbytes 2).trans ((byteOf_toNat _).trans (Nat.mod_eq_of_lt htag))
  · rw [hflags]; cases overrun <;> cases r.held <;> decide
  · rw [hflags]; cases overrun <;> cases r.held <;> decide
  · rw [responseFrame_eq]
    exact List.take_left

/-! ### The checks of a request frame (R166, R197) -/

theorem readRequestFrame_frameError {bytes : List Byte}
    (h : bytes.length < 2 ∨ wordAt bytes 0 < 6 ∨ 600 < wordAt bytes 0 ∨
      bytes.length < wordAt bytes 0 ∨ crcHolds (bytes.take (wordAt bytes 0)) = false) :
    readRequestFrame bytes = .refused .frameError (byteAt bytes 2) (byteAt bytes 3) := by
  rw [readRequestFrame, if_pos]
  simpa using h

/-- A frame whose length and CRC pass is read by its request code. -/
theorem readRequestFrame_sound {bytes : List Byte} (h6 : 6 ≤ wordAt bytes 0) (h600 : wordAt bytes 0 ≤ 600)
    (hlen : wordAt bytes 0 ≤ bytes.length) (hcrc : crcHolds (bytes.take (wordAt bytes 0)) = true) :
    readRequestFrame bytes =
      if byteAt bytes 2 = 0 ∨ 40 < byteAt bytes 2 then
        .refused .unknownRequest (byteAt bytes 2) (byteAt bytes 3)
      else
        match readOperands (byteAt bytes 2)
          (((bytes.take (wordAt bytes 0)).take (wordAt bytes 0 - 2)).drop 4) with
        | some r => .request (byteAt bytes 3) r
        | none => .refused .frameError (byteAt bytes 2) (byteAt bytes 3) := by
  unfold readRequestFrame
  simp only [hcrc, Bool.not_true, Bool.false_eq_true, or_false]
  exact if_neg (by omega)

theorem readRequestFrame_append {bytes : List Byte} (h6 : 6 ≤ wordAt bytes 0)
    (hlen : wordAt bytes 0 ≤ bytes.length) (extra : List Byte) :
    readRequestFrame (bytes ++ extra) = readRequestFrame bytes := by
  have h2 : ¬ bytes.length < 2 := by omega
  have h2' : ¬ (bytes ++ extra).length < 2 := by rw [List.length_append]; omega
  have hl : ¬ bytes.length < wordAt bytes 0 := by omega
  have hl' : ¬ (bytes ++ extra).length < wordAt bytes 0 := by rw [List.length_append]; omega
  unfold readRequestFrame
  simp only [wordAt_append (bs := bytes) (i := 0) (by omega) extra, byteAt_append (bs := bytes)
      (i := 2) (by omega) extra,
    byteAt_append (bs := bytes) (i := 3) (by omega) extra, List.take_append_of_le_length hlen, h2, h2', hl, hl']

theorem exec_writeRequest (p : Port) (m : Moment) (frame : List Byte) (s : State) :
    exec (.writeRequestOverrun p m (0xC1 :: frame)) s =
      .next (writeRequest p m (readRequestFrame frame) s) := rfl

/-- Settles O5: the checks in their order, and the answer of a frame refused in IDLE. -/
theorem faultyFramesAnswered : Obligations.FaultyFramesAnswered := by
  refine ⟨⟨fun _ => readRequestFrame_frameError, fun bytes h6 h600 hlen hcrc hcode => ?_,
    fun bytes h6 h600 hlen hcrc h1 h40 hops => ?_, fun bytes extra h6 hlen =>
      readRequestFrame_append h6 hlen extra⟩, fun c h r code rq tag s hc hf hr hi => ?_,
    fun p m bytes code rq tag s hf hr hi => ?_⟩
  · rw [readRequestFrame_sound h6 h600 hlen hcrc, if_pos hcode]
  · rw [readRequestFrame_sound h6 h600 hlen hcrc, if_neg (by omega), hops]
  · rw [exec_request hc, request, hf, writeRequest_refused hr hi]
  · rw [exec_writeRequest, hf, writeRequest_refused hr hi]

/-! ### The operands read back (R196) -/

theorem numberOf_append (bs : List Byte) (b : Byte) : numberOf (bs ++ [b]) = numberOf bs * 256 + b.toNat := by
  simp [numberOf]

theorem numberOf_bytesOf {w : Nat} : ∀ {n : Nat}, n < 256 ^ w → numberOf (bytesOf w n) = n := by
  induction w with
  | zero => intro n h; rw [pow_zero, Nat.lt_one_iff] at h; rw [h]; rfl
  | succ w ih =>
    intro n h
    have hq : n / 256 < 256 ^ w := by
      rw [pow_succ] at h
      exact Nat.div_lt_of_lt_mul (by rwa [mul_comm])
    rw [bytesOf, numberOf_append, ih hq, byteOf_toNat]
    omega

/-- A field read back, and the fields after it. -/
theorem readFields_cons {w n : Nat} (h : n < 256 ^ w) (ws : List Nat) (bs : List Byte) :
    readFields (w :: ws) (bytesOf w n ++ bs) = (readFields ws bs).map fun r => (n :: r.1, r.2) := by
  have hlen : (bytesOf w n).length = w := Laws.bytesOf_length w n
  rw [readFields, if_neg (by rw [List.length_append, hlen]; omega), List.drop_left' hlen, List.take_left' hlen,
    numberOf_bytesOf h]
  cases readFields ws bs <;> rfl

theorem readExactly_cons {w n : Nat} (h : n < 256 ^ w) (ws : List Nat) (bs : List Byte) :
    readExactly (w :: ws) (bytesOf w n ++ bs) = (readExactly ws bs).map (n :: ·) := by
  rw [readExactly, readFields_cons h, readExactly]
  match readFields ws bs with
  | none => rfl
  | some (_, []) => rfl
  | some (_, _ :: _) => rfl

theorem readExactly_last {w n : Nat} (h : n < 256 ^ w) : readExactly [w] (bytesOf w n) = some [n] := by
  have := readExactly_cons h [] []
  rwa [List.append_nil] at this

theorem readExactly_nil : readExactly [] [] = some [] := rfl

end Sys2Proof.Machine
end

section
/-! PROOFS. The request frames read back (R196, R197): what `readOperands` gives for the operand bytes of
each of the forty requests. -/

namespace Sys2Proof.Machine

theorem fits1_iff (n : Nat) : fits1 n = true ↔ n < 256 ^ 1 := by simp [fits1]

theorem fits2_iff (n : Nat) : fits2 n = true ↔ n < 256 ^ 2 := by simp [fits2]

theorem fits6_iff (n : Nat) : fits6 n = true ↔ n < 256 ^ 6 := by simp [fits6]

/-! ### List operands -/

/-- What a well-formed list operand carries. -/
theorem ListOperand.wf_iff {α : Type} (lo hi : Nat) (elem : α → Bool) (l : ListOperand α) :
    l.wf lo hi elem = true ↔ l.count < 256 ^ 1 ∧
      l.elems.length = (if inRange lo hi l.count then l.count else 0) ∧ ∀ e ∈ l.elems, elem e = true := by
  simp [ListOperand.wf, fits1_iff, inRange, and_assoc]

theorem map_toNat_byteOf {ns : List Nat} (h : ∀ n ∈ ns, fits1 n = true) :
    (ns.map byteOf).map (·.toNat) = ns := by
  rw [List.map_map]
  refine (List.map_congr_left fun n hn => ?_).trans (List.map_id ns)
  have := (fits1_iff n).1 (h n hn)
  show (byteOf n).toNat = n
  rw [byteOf_toNat]
  omega

theorem readPairs_bytes : ∀ {es : List (Nat × Nat)}, (∀ e ∈ es, (fits1 e.1 && fits1 e.2) = true) →
    readPairs (es.flatMap fun e => [byteOf e.1, byteOf e.2]) = es := by
  intro es
  induction es with
  | nil => exact fun _ => rfl
  | cons e es ih =>
    intro h
    obtain ⟨h1, h2⟩ := Bool.and_eq_true_iff.1 (h e (List.mem_cons_self ..))
    rw [fits1_iff] at h1 h2
    rw [List.flatMap_cons, List.cons_append, List.cons_append, List.nil_append, readPairs, ih fun x hx =>
        h x (List.mem_cons_of_mem _ hx), byteOf_toNat, byteOf_toNat,
      Nat.mod_eq_of_lt (by omega), Nat.mod_eq_of_lt (by omega)]

/-- A length byte and the bytes of the elements it carries are read as a list. -/
theorem readList_bytes {lo hi w n : Nat} (hn : n < 256 ^ 1) {bs : List Byte}
    (hlen : bs.length = (if inRange lo hi n then n else 0) * w) :
    readList lo hi w (bytesOf 1 n ++ bs) = some (n, bs) := by
  have hb : (byteOf n).toNat = n := by rw [byteOf_toNat]; omega
  show readList lo hi w (byteOf n :: bs) = _
  unfold readList
  simp only [hb]
  exact if_pos hlen

/-! ### The operands of each request -/

theorem readScheduleWrite_bytes {first : Nat} {es : ListOperand (Nat × Nat)}
    (h : (Request.scheduleWrite first es).wf = true) :
    readScheduleWrite (operandBytes (.scheduleWrite first es)) = some (.scheduleWrite first es) := by
  obtain ⟨hf, hes⟩ := Bool.and_eq_true_iff.1 h
  rw [ListOperand.wf_iff] at hes
  obtain ⟨hc, hlen, hes⟩ := hes
  rw [fits1_iff] at hf
  have hbytes : (es.elems.flatMap fun e => [byteOf e.1, byteOf e.2]).length =
      (if inRange 1 64 es.count then es.count else 0) * 2 := by
    rw [← hlen, List.length_flatMap]
    simp
  have hlist := readList_bytes hc hbytes
  have hread : (byteOf first).toNat = first := by rw [byteOf_toNat]; omega
  show readScheduleWrite (byteOf first :: (bytesOf 1 es.count ++ _)) = _
  unfold readScheduleWrite
  simp only [hlist, hread, readPairs_bytes hes]

/-- Fields as operand bytes, each in its width. -/
def fieldBytes (ws ns : List Nat) : List Byte := (List.zipWith bytesOf ws ns).flatten

theorem fieldBytes_nil : fieldBytes [] [] = [] := rfl

theorem fieldBytes_cons (w n : Nat) (ws ns : List Nat) :
    fieldBytes (w :: ws) (n :: ns) = bytesOf w n ++ fieldBytes ws ns := rfl

theorem fieldBytes_length : ∀ {ws ns : List Nat}, ws.length = ns.length →
    (fieldBytes ws ns).length = ws.sum
  | [], [], _ => rfl
  | w :: ws, n :: ns, h => by
    rw [fieldBytes_cons, List.length_append, Laws.bytesOf_length, List.sum_cons,
      fieldBytes_length (Nat.succ.inj h)]

theorem readFields_fieldBytes {ws ns : List Nat} (h : List.Forall₂ (fun w n => n < 256 ^ w) ws ns)
    (rest : List Byte) : readFields ws (fieldBytes ws ns ++ rest) = some (ns, rest) := by
  induction h with
  | nil => rfl
  | cons hn _ ih => rw [fieldBytes_cons, List.append_assoc, readFields_cons hn, ih]; rfl

theorem readExactly_fieldBytes {ws ns : List Nat} (h : List.Forall₂ (fun w n => n < 256 ^ w) ws ns) :
    readExactly ws (fieldBytes ws ns) = some ns := by
  have hread := readFields_fieldBytes h []
  rw [List.append_nil] at hread
  rw [readExactly, hread]

/-- The fixed fields of a class record, the class first. -/
def classFields (k : Nat) (o : ClassOperands) : List Nat :=
  [k, o.required, o.tolPermille, o.tolFloor, o.kw, o.wCap, o.grossFactor, o.skip, o.shadow,
    o.threshold, o.kDark, o.kLight, o.kx, o.sCap, o.uFree, o.ku, o.pPill, o.uCap, o.ptDet, o.ptAbs,
    o.limA, o.limB, o.limC, o.mapA, o.mapB, o.mapC, o.mapD, o.highBand]

theorem classBytes_eq (k : Nat) (o : ClassOperands) :
    bytesOf 1 k ++ classBytes o = fieldBytes (1 :: classWidths) (classFields k o) := by
  unfold classBytes classWidths classFields
  simp only [fieldBytes_cons, fieldBytes_nil]
  simp only [List.append_assoc]
  rw [List.append_nil]

theorem classFields_fit {k : Nat} {o : ClassOperands} (h : (Request.classWrite k o).wf = true) :
    List.Forall₂ (fun w n => n < 256 ^ w) (1 :: classWidths) (classFields k o) := by
  simp only [Request.wf, ClassOperands.wf, Bool.and_eq_true, fits1_iff, fits2_iff] at h
  simp only [classWidths, classFields, List.forall₂_cons, h, List.forall₂_nil_right_iff, and_self]

theorem readClassOperands_bytes {k : Nat} {o : ClassOperands} (h : (Request.classWrite k o).wf = true) :
    readClassOperands (operandBytes (.classWrite k o)) = some (k, o) := by
  have hread := fun rest => readFields_fieldBytes (classFields_fit h) rest
  obtain ⟨-, hw⟩ := Bool.and_eq_true_iff.1 h
  obtain ⟨-, hprefs⟩ := Bool.and_eq_true_iff.1 hw
  obtain ⟨hn, hlen, hfit⟩ := (ListOperand.wf_iff _ _ _ _).1 hprefs
  have hlist : readList 0 4 1 (bytesOf 1 o.prefs.count ++ o.prefs.elems.map byteOf) =
      some (o.prefs.count, o.prefs.elems.map byteOf) :=
    readList_bytes hn (by rw [List.length_map, hlen, Nat.mul_one])
  unfold readClassOperands
  rw [operandBytes, List.append_assoc, classBytes_eq, hread]
  unfold classFields
  dsimp only
  rw [hlist]
  dsimp only
  rw [map_toNat_byteOf hfit]

/-- The fields of a station entry before its selectors, the address first. -/
def stationHead (a : Nat) (o : StationOperands) : List Nat :=
  [a, o.configured, o.kind, o.holdAllowed, o.fieldMap.count]

/-- The fields of a station entry after its selectors. -/
def stationTail (o : StationOperands) : List Nat :=
  [o.code0, o.code1, o.code2, o.code3, o.band, o.settleCount, o.unsettleCount, o.holdOnMotion,
    o.holdOnOverload, o.passes, o.window, o.badLimit, o.recovery]

theorem stationBytes_eq (a : Nat) (o : StationOperands) :
    operandBytes (.stationSet a o) = fieldBytes [1, 1, 1, 1, 1] (stationHead a o) ++
      (o.fieldMap.elems.map byteOf ++
        fieldBytes [1, 1, 1, 1, 1, 1, 1, 1, 1, 1, 1, 1, 1] (stationTail o)) := by
  unfold operandBytes stationHead stationTail
  simp only [fieldBytes_cons, fieldBytes_nil]
  simp only [List.append_assoc]
  rw [List.append_nil, List.nil_append]

theorem stationFields_fit {a : Nat} {o : StationOperands} (h : (Request.stationSet a o).wf = true) :
    List.Forall₂ (fun w n => n < 256 ^ w) [1, 1, 1, 1, 1] (stationHead a o) ∧
      List.Forall₂ (fun w n => n < 256 ^ w) [1, 1, 1, 1, 1, 1, 1, 1, 1, 1, 1, 1, 1] (stationTail o) := by
  simp only [Request.wf, StationOperands.wf, ListOperand.wf_iff, Bool.and_eq_true, fits1_iff] at h
  simp only [stationHead, stationTail, List.forall₂_cons, h, List.forall₂_nil_right_iff, and_self]

theorem readStationOperands_bytes {a : Nat} {o : StationOperands} (h : (Request.stationSet a o).wf = true) :
    readStationOperands (operandBytes (.stationSet a o)) = some (a, o) := by
  obtain ⟨hhead, htail⟩ := stationFields_fit h
  have hmap : o.fieldMap.wf 4 4 fits1 = true := by
    simp only [Request.wf, StationOperands.wf, Bool.and_eq_true] at h
    simp only [h]
  obtain ⟨-, hlen, hfit⟩ := (ListOperand.wf_iff _ _ _ _).1 hmap
  have hcarried : (o.fieldMap.elems.map byteOf).length = if o.fieldMap.count = 4 then 4 else 0 := by
    rw [List.length_map, hlen]
    by_cases h4 : o.fieldMap.count = 4 <;> simp [inRange, h4]
    omega
  unfold readStationOperands
  rw [stationBytes_eq, readFields_fieldBytes hhead]
  unfold stationHead
  dsimp only
  rw [if_neg (by rw [List.length_append, hcarried]; omega), List.drop_left' hcarried,
    List.take_left' hcarried, readExactly_fieldBytes htail]
  unfold stationTail
  dsimp only
  rw [map_toNat_byteOf hfit]

theorem readOperands_operandBytes {r : Request} (h : r.wf = true) :
    readOperands (requestCode r) (operandBytes r) = some r := by
  cases r with
  | scheduleWrite first es => simp only [requestCode, readOperands, readScheduleWrite_bytes h]
  | classWrite k o => simp only [requestCode, readOperands, readClassOperands_bytes h, Option.map_some]
  | stationSet a o => simp only [requestCode, readOperands, readStationOperands_bytes h, Option.map_some]
  | _ =>
    simp only [Request.wf, LineOperands.wf, ManifestOperands.wf, SlotOperands.wf, ScheduleOperands.wf,
      Bool.and_eq_true, fits1_iff, fits2_iff, fits6_iff] at h
    simp only [requestCode, operandBytes, readOperands, List.append_assoc, readExactly_cons,
      readExactly_last, readExactly_nil, Option.map_some, h]

/-! ### The frame of each request -/

/-- No well-formed request has more operand bytes than a request frame holds (R197). -/
theorem operandBytes_length_le {r : Request} (h : r.wf = true) : (operandBytes r).length ≤ 594 := by
  cases r with
  | scheduleWrite first es =>
    obtain ⟨-, hes⟩ := Bool.and_eq_true_iff.1 h
    obtain ⟨-, hlen, -⟩ := (ListOperand.wf_iff _ _ _ _).1 hes
    have : es.elems.length ≤ 64 := by
      rw [hlen]
      split
      next hr => simp [inRange] at hr; omega
      next => omega
    simp [operandBytes, Laws.bytesOf_length, List.length_flatMap]
    omega
  | classWrite k o =>
    obtain ⟨-, hw⟩ := Bool.and_eq_true_iff.1 h
    obtain ⟨-, hprefs⟩ := Bool.and_eq_true_iff.1 hw
    obtain ⟨-, hlen, -⟩ := (ListOperand.wf_iff _ _ _ _).1 hprefs
    have : o.prefs.elems.length ≤ 4 := by
      rw [hlen]
      split
      next hr => simp [inRange] at hr; omega
      next => omega
    have hfixed : (fieldBytes (1 :: classWidths) (classFields k o)).length = 38 :=
      (fieldBytes_length (ws := 1 :: classWidths) rfl).trans (by decide)
    rw [operandBytes, List.append_assoc, classBytes_eq, List.length_append, hfixed, List.length_append,
      Laws.bytesOf_length, List.length_map]
    omega
  | stationSet a o =>
    have hmap : o.fieldMap.wf 4 4 fits1 = true := by
      simp only [Request.wf, StationOperands.wf, Bool.and_eq_true] at h
      simp only [h]
    obtain ⟨-, hlen, -⟩ := (ListOperand.wf_iff _ _ _ _).1 hmap
    have : o.fieldMap.elems.length ≤ 4 := by
      rw [hlen]
      split
      next hr => simp [inRange] at hr; omega
      next => omega
    simp [operandBytes, Laws.bytesOf_length]
    omega
  | _ => simp [operandBytes, Laws.bytesOf_length]

theorem readRequestFrame_requestFrame {tag : Nat} {r : Request} (htag : tag < 256) (h : r.wf = true) :
    readRequestFrame (requestFrame tag r) = .request tag r := by
  have hops := operandBytes_length_le h
  obtain ⟨hcode, hcode'⟩ := Laws.request_code_range r
  have hlen := Laws.requestFrame_length tag r
  have hbytes : requestFrame tag r = bytesOf 2 ((operandBytes r).length + 6) ++
      (byteOf (requestCode r) :: byteOf tag :: (operandBytes r ++ bytesOf 2
        (crc (bytesOf 2 ((operandBytes r).length + 6) ++ [byteOf (requestCode r), byteOf tag] ++
          operandBytes r)).toNat)) := by
    simp only [requestFrame, closeFrame, List.append_assoc, List.cons_append, List.nil_append]
  have hword : wordAt (requestFrame tag r) 0 = (requestFrame tag r).length := by
    rw [hlen, hbytes, wordAt_bytesOf (by omega)]
  have h2 : byteAt (requestFrame tag r) 2 = requestCode r := by
    rw [hbytes]
    exact (byteOf_toNat _).trans (Nat.mod_eq_of_lt (by omega))
  have h3 : byteAt (requestFrame tag r) 3 = tag := by
    rw [hbytes]
    exact (byteOf_toNat _).trans (Nat.mod_eq_of_lt htag)
  have hcut : ((requestFrame tag r).take ((requestFrame tag r).length - 2)).drop 4 = operandBytes r := by
    rw [List.drop_take, hlen, hbytes]
    show List.take ((operandBytes r).length + 6 - 2 - 4) (operandBytes r ++ _) = _
    rw [show (operandBytes r).length + 6 - 2 - 4 = (operandBytes r).length by omega, List.take_left]
  rw [readRequestFrame_sound (by omega) (by omega) hword.le (by
    rw [hword, List.take_length]; exact crcHolds_closeFrame _), h2, h3, hword, List.take_length, hcut,
    readOperands_operandBytes h, if_neg (by omega)]

/-- Settles O3: the operands are read back field by field, and the raw bytes of a request are read as the
request command's own frame. -/
theorem requestFrameRoundTrip : Obligations.RequestFrameRoundTrip := by
  refine ⟨fun tag r htag h => readRequestFrame_requestFrame htag h, fun c h r s hc hrec htag hwf => ?_⟩
  rw [exec_writeRequest, exec_request hc, readRequestFrame_requestFrame htag hwf, request, frameTaken, hrec]

end Sys2Proof.Machine
end

section
/-! PROOFS. A request on a port: which is taken, refused, discarded or made to wait (R150 to R152, R156, R165
to R169). -/

namespace Sys2Proof.Machine

/-! ### A request frame in IDLE -/

theorem takeRequest_notPermitted {p : Port} {r : Request} (hp : permitted r p = false) (m : Moment) (tag : Nat)
    (s : State) :
    takeRequest p m tag r s = s.respond p tag (requestCode r) { code := .notPermitted } := by
  simp [takeRequest, hp]

/-- A request that takes an access and is permitted posts its client, but for one of the Sorter Port in a
hold (R151, R156). -/
theorem takeRequest_posts {p : Port} {r : Request} {s : State} (hp : permitted r p = true)
    (hr : takesAccess r = true) (hh : ¬ (p = .sorter ∧ s.arbiter.hold.isSome = true)) (m : Moment) (tag : Nat) :
    takeRequest p m tag r s = postClient (clientOf p) m (s.executing p tag r) := by
  simp [takeRequest, hp, hr, hh]

theorem takeRequest_underHold {r : Request} {s : State} (hp : permitted r .sorter = true)
    (hr : takesAccess r = true) (hh : s.arbiter.hold.isSome = true) (m : Moment) (tag : Nat) :
    takeRequest .sorter m tag r s =
      (answerUnderHold r s).2.respond .sorter tag (requestCode r) (answerUnderHold r s).1 := by
  simp [takeRequest, hp, hr, hh]

/-- A request without an access, that is no reset in a chain, is done at once (R151, R161). -/
theorem takeRequest_performs {p : Port} {r : Request} {s : State} (hp : permitted r p = true)
    (hr : takesAccess r = false)
    (hx : ¬ ((r = .fullReset ∨ r = .lineRestart) ∧ s.arbiter.holder.isSome = true)) (m : Moment) (tag : Nat) :
    takeRequest p m tag r s = perform p tag r (s.atMoment r m) := by
  simp only [takeRequest, hp, hr, Bool.not_true, Bool.false_eq_true, if_false, if_neg hx]

theorem runAccess_clientOf {p : Port} {s : State} {tag : Nat} {r : Request}
    (hph : (s.port p).phase = .executing tag r) : runAccess (clientOf p) s = perform p tag r s := by
  have hserve : runAccess (clientOf p) s = servePort p s := by cases p <;> rfl
  rw [hserve, servePort, hph]

theorem State.markGranted_executing_phase (s : State) (p : Port) (tag : Nat) (r : Request) (c : Client) :
    (((s.executing p tag r).markGranted c).port p).phase = .executing tag r := by
  rw [State.port_markGranted, State.port_executing]

theorem postClient_granted {p : Port} {m : Moment} {tag : Nat} {r : Request} {s : State}
    (hg : s.arbiter.grantsAtOnce (clientOf p) m = true) :
    postClient (clientOf p) m (s.executing p tag r) =
      perform p tag r ((s.executing p tag r).markGranted (clientOf p)) := by
  rw [postClient, State.executing_arbiter, if_pos hg,
    runAccess_clientOf (State.markGranted_executing_phase s p tag r _)]

theorem perform_refused {p : Port} {tag : Nat} {r : Request} {s : State} (hm : refusedInMode s.mode r = true) :
    perform p tag r s = s.respond p tag (requestCode r) { code := .mode } := if_pos hm

theorem perform_done {p : Port} {tag : Nat} {r : Request} {s : State} (hm : refusedInMode s.mode r = false) :
    perform p tag r s = (workOf p r s).2.respond p tag (requestCode r) (workOf p r s).1 := by
  rw [perform, hm]
  rfl

/-- A request command whose frame is taken in IDLE. -/
theorem exec_takes {c : Instr} {h : Header} {r q : Request} {tag : Nat} {s : State}
    (hc : c.request? = some (h, r)) (hf : frameTaken h r = .request tag q) (hr : s.resetN = true)
    (hi : (s.port h.port).phase = .idle) :
    exec c s = .next ((takeRequest h.port h.moment tag q s).written h.port) := by
  rw [exec_request hc, request, hf, writeRequest_idle hr hi]

/-! ### The permission table and the mode check (R166, R169) -/

theorem permitted_line_iff (r : Request) : permitted r .line = true ↔ 7 ≤ requestCode r := by
  cases r <;> simp [permitted, sorterItem, requestCode]

theorem permitted_sorter_iff (r : Request) : permitted r .sorter = true ↔ requestCode r ≤ 10 := by
  cases r <;> simp [permitted, sorterItem, bothPorts, requestCode]

/-- Settles O6: the table by the request's code, and the refusal before any other check. -/
theorem permissionTable : Obligations.PermissionTable :=
  ⟨fun r => ⟨permitted_line_iff r, permitted_sorter_iff r⟩, fun c h r q tag s hc hf hr hi hp => by
    rw [exec_takes hc hf hr hi, takeRequest_notPermitted hp]⟩

theorem refusedInConfigure_iff (r : Request) :
    refusedInConfigure r = true ↔ requestCode r ≤ 6 ∨ (33 ≤ requestCode r ∧ requestCode r ≤ 36) := by
  cases r <;> simp [refusedInConfigure, requestCode]

theorem refusedInMode_iff (m : Mode) (r : Request) : refusedInMode m r = true ↔
    m = .configure ∧ (requestCode r ≤ 6 ∨ (33 ≤ requestCode r ∧ requestCode r ≤ 36)) := by
  rw [refusedInMode, Bool.and_eq_true, refusedInConfigure_iff, beq_iff_eq]

/-- A request refused in CONFIGURE is neither a reset nor COUNTERS SNAPSHOT. -/
theorem State.atMoment_of_refused {s : State} {q : Request} (hm : refusedInMode s.mode q = true) (m : Moment) :
    s.atMoment q m = s ∧ ¬ (q = .fullReset ∨ q = .lineRestart) := by
  obtain ⟨-, hcode⟩ := (refusedInMode_iff _ _).1 hm
  cases q <;> simp [requestCode] at hcode <;> exact ⟨rfl, by simp⟩

theorem answerUnderHold_refused {q : Request} {s : State} (hm : refusedInMode s.mode q = true) :
    answerUnderHold q s = ({ code := .mode }, s) := if_pos hm

/-- A grant closes the raises first or last: the port is answered the same. -/
theorem State.granted_answered (s : State) (p : Port) {tag : Nat} {q : Request} (hq : takesAccess q = true)
    (a : Answer) :
    (((s.executing p tag q).markGranted (clientOf p)).respond p tag (requestCode q) a).written p =
      s.closeRaises.answered p tag q a := by
  rw [State.answered, hq]
  cases p <;> rfl

/-- Settles O7: the mode check comes before the work on each of the ways a request is taken. -/
theorem modeCheck : Obligations.ModeCheck := by
  refine ⟨refusedInMode_iff, fun c h r q tag s hc hf hr hi hp hm => ⟨fun hway => ?_, fun hq hh hg => ?_⟩⟩
  · rw [exec_takes hc hf hr hi]
    obtain ⟨hat, hreset⟩ := State.atMoment_of_refused hm h.moment
    by_cases hq : takesAccess q = true
    · obtain ⟨hport, hhold⟩ := hway.resolve_left (by simp [hq])
      rw [hport] at hp ⊢
      rw [takeRequest_underHold hp hq hhold, answerUnderHold_refused hm]
    · rw [takeRequest_performs hp (by simpa using hq) (fun h => hreset h.1), hat, perform_refused hm]
  · rw [exec_takes hc hf hr hi, takeRequest_posts hp hq hh, postClient_granted hg,
      perform_refused (by cases h.port <;> exact hm), State.granted_answered s _ hq]

/-! ### A port that is not IDLE (R168) -/

/-- An overrun changes its port's mark and the counters (R168). -/
theorem State.overrun_written (s : State) (p : Port) : ∃ k, (s.overrun p).written p =
    { s with counters := k }.setPort p { s.port p with overrun := true, miso := [] } := by
  cases p
  · exact ⟨((s.overrun .line).written .line).counters, rfl⟩
  · exact ⟨((s.overrun .sorter).written .sorter).counters, rfl⟩

theorem State.port_setPort_same (s : State) (p : Port) (e : PortEngine) : (s.setPort p e).port p = e := by
  rw [State.port_setPort, if_pos rfl]

theorem State.port_setPort_ne (s : State) {p q : Port} (h : q ≠ p) (e : PortEngine) :
    (s.setPort p e).port q = s.port q := by
  rw [State.port_setPort, if_neg h]

theorem State.counter_setPort (s : State) (p : Port) (e : PortEngine) (d : Counter) :
    (s.setPort p e).counter d = s.counter d := by cases p <;> rfl

theorem State.counter_written (s : State) (p : Port) (d : Counter) :
    (s.written p).counter d = s.counter d := by
  rw [State.written, State.counter_foldRaises, State.counter_setPort]

theorem State.counter_overrun (s : State) (p : Port) (d : Counter) : (s.overrun p).counter d =
    if d = .portOverruns then min 65535 (s.counter .portOverruns + 1) else s.counter d := by
  simp only [State.overrun, State.counter_bump, State.counter_setPort, State.counter_closeRaises,
    Config.counterMax]

/-- Settles O8: whatever brings the frame, the port only marks and counts it. -/
theorem overrunDiscarded : Obligations.OverrunDiscarded := by
  intro c p s hc hr hb
  have hexec : exec c s = .next ((s.overrun p).written p) := by
    rcases hc with ⟨h, r, hc, rfl⟩ | ⟨m, bytes, rfl⟩
    · rw [exec_request hc, request, writeRequest_overrun hr hb]
    · rw [exec_writeRequest, writeRequest_overrun hr hb]
  obtain ⟨k, hk⟩ := s.overrun_written p
  refine ⟨_, hexec, ?_, fun q hq => ?_, ?_, fun d hd => ?_, ?_⟩
  · rw [hk, State.port_setPort_same]
  · rw [hk, State.port_setPort_ne _ hq]
    cases q <;> rfl
  · rw [State.counter_written, State.counter_overrun, if_pos rfl]
  · rw [State.counter_written, State.counter_overrun, if_neg hd]
  · rw [hk]
    cases p <;> rfl

/-! ### Reads (R167, R168) -/

theorem shiftOut_whole {frame : List Byte} {count : Nat} (h : frame.length ≤ count) :
    shiftOut frame count = frame ++ List.replicate (count - frame.length) 0 := by
  rw [shiftOut, List.take_append, List.take_of_length_le h, List.take_replicate, Nat.min_eq_left (Nat.sub_le ..)]

theorem shiftOut_cut {frame : List Byte} {count : Nat} (h : count < frame.length) :
    shiftOut frame count = frame.take count := by
  rw [shiftOut, List.take_append_of_le_length (Nat.le_of_lt h)]

theorem exec_readResponse {s : State} (hr : s.resetN = true) (p : Port) (count : Nat) (cut : Option Nat) :
    exec (.readResponse p { count := count, cut := cut }) s = .next (readPort p count cut s) := by
  show whenRunning s _ = _
  rw [whenRunning, if_pos hr]

/-- A read that no FULL RESET has cut short (R167). -/
theorem readPort_uncut {p : Port} {cut : Option Nat} {s : State}
    (h : (s.port p).phase ≠ .idle ∨ cut = none ∨ (s.port p).discarded = none) (count : Nat) :
    readPort p count cut s = (s.setPort p
      { (if delivers (s.port p) count then
          { s.port p with miso := readBytes (s.port p) count, phase := .idle, overrun := false }
        else { s.port p with miso := readBytes (s.port p) count }) with discarded := none }).closeRaises := by
  unfold readPort
  simp only
  split
  next hph hd =>
    rcases h with h | h | h
    · exact absurd hph h
    · cases h
    · rw [hd] at h; cases h
  next => rfl

theorem notReadyFrame_read {e : PortEngine} (h : ∀ r, e.phase ≠ .responseReady r) (count : Nat) :
    readBytes e count = shiftOut notReadyFrame count ∧ delivers e count = false := by
  unfold readBytes delivers
  cases hph : e.phase with
  | responseReady r => exact absurd hph (h r)
  | _ => exact ⟨rfl, rfl⟩

/-- Settles O9: what a read carries and leaves, by the port's phase; and a transaction by its kind byte. -/
theorem readResponse : Obligations.ReadResponse := by
  refine ⟨fun p count cut s hr => ⟨fun r hph hlen => ?_, fun r hph hlen => ?_, fun hph hcut => ?_,
    fun frame shifted hph hd hcut => ?_⟩, fun p m filler s => rfl, fun p m mosi s hm => ?_⟩
  · rw [exec_readResponse hr, readPort_uncut (.inl (by rw [hph]; exact (nomatch ·)))]
    simp only [delivers, readBytes, hph, hlen, decide_true, if_true, shiftOut_whole]
  · rw [exec_readResponse hr, readPort_uncut (.inl (by rw [hph]; exact (nomatch ·)))]
    simp only [delivers, readBytes, hph, Nat.not_le.2 hlen, decide_false, Bool.false_eq_true, if_false,
      shiftOut_cut hlen]
  · obtain ⟨hbytes, hno⟩ := notReadyFrame_read hph count
    rw [exec_readResponse hr, readPort_uncut hcut, hbytes, hno]
    rfl
  · subst hcut
    rw [exec_readResponse hr]
    unfold readPort
    simp only
    split
    next hd' hcut' => cases hd.symm.trans hd'; cases hcut'; rfl
    next hne => exact (hne frame shifted hph hd rfl).elim
  · rcases hm with rfl | ⟨k, rest, rfl, h1, h2⟩
    · rfl
    · have hk : readTransaction (k :: rest) = .ignored := by
        rw [readTransaction, writeKindByte, readKindByte, if_neg h1, if_neg h2]
      show execWriteRequestOverrun p m (k :: rest) s = _
      rw [execWriteRequestOverrun, hk]

end Sys2Proof.Machine
end

section
/-! PROOFS. Waiting and grants: the arbiter's order, and what a grant to a port serves (R150 to R157). -/

namespace Sys2Proof.Machine

/-! ### The arbiter's choice (R152, R155) -/

theorem WaitingSet.sorterFirst_eq (w : WaitingSet) :
    w.sorterFirst = [Client.spe, .gc, .ec, .lpe].find? w.has := by
  obtain ⟨lpe, spe, ec, gc⟩ := w
  cases spe <;> cases gc <;> cases ec <;> cases lpe <;> rfl

theorem grantStore_free {s : State} (hfree : s.arbiter.holder = none) {c : Client}
    (hc : s.arbiter.choice = some c) : grantStore s = runAccess c (s.markGranted c) := by
  unfold grantStore
  rw [hfree, hc]
  rfl

theorem exec_grant {s : State} (hr : s.resetN = true) : exec .storeAccessGrant s = .next (grantStore s) := by
  show whenRunning s _ = _
  rw [whenRunning, if_pos hr]

/-! ### The pointer after a grant (R152) -/

theorem State.ClientsTo.pointer {s t : State} (h : s.ClientsTo t) : t.arbiter.pointer = s.arbiter.pointer := by
  obtain ⟨-, -, -, ⟨ha, -⟩ | ⟨-, -, ha⟩⟩ := h <;> rw [ha]

theorem workHoldBegin_pointer (s : State) : (workHoldBegin s).2.arbiter.pointer = s.arbiter.pointer := by
  unfold workHoldBegin
  split
  · rfl
  · by_cases h : ∃ tag r, s.sorterPort.phase = .executing tag r
    · obtain ⟨tag, r, h⟩ := h
      obtain ⟨u, a, ⟨-, hu⟩, e⟩ := State.withdrawSorter_executing
        (s := { s with arbiter := { s.arbiter with hold := some s.arbiter.holdLimit } }) h
      rw [e, hu]
      rfl
    · have e := State.withdrawSorter_of_not
        (s := { s with arbiter := { s.arbiter with hold := some s.arbiter.holdLimit } })
        fun tag r hph => h ⟨tag, r, hph⟩
      exact (congrArg (fun u : State => u.arbiter.pointer) e).trans rfl

theorem workOf_pointer {p : Port} {r : Request} {s : State} (hr : takesAccess r = true) :
    (workOf p r s).2.arbiter.pointer = s.arbiter.pointer := by
  cases hm : movesClients r with
  | false => exact (workOf_clientsTo hm).pointer
  | true =>
    cases r with
    | arbiterSet k l =>
      show (workArbiterSet k l s).2.arbiter.pointer = _
      unfold workArbiterSet State.countReading
      split
      · split <;> rfl
      · split
        · simp only
          split <;> rfl
        · simp only
          split <;> rfl
    | holdBegin => exact workHoldBegin_pointer s
    | _ => simp [takesAccess, movesClients] at hr hm

theorem State.graderDone_pointer (s : State) : s.graderDone.arbiter.pointer = s.arbiter.pointer := by
  unfold State.graderDone
  split <;> rfl

/-- No access moves the rotation pointer. -/
theorem runAccess_pointer {c : Client} {s : State} (h : s.AsksAccess c) :
    (runAccess c s).arbiter.pointer = s.arbiter.pointer := by
  have hport : ∀ (p : Port) (tag : Nat) (r : Request), (s.port p).phase = .executing tag r →
      takesAccess r = true → (servePort p s).arbiter.pointer = s.arbiter.pointer := by
    intro p tag r hph hr
    rw [servePort, hph]
    show (perform p tag r s).arbiter.pointer = _
    unfold perform
    split
    · rw [State.respond_arbiter]
    · rw [State.respond_arbiter, workOf_pointer hr]
  cases c with
  | lpe =>
    obtain ⟨tag, r, hph, hr⟩ := h
    exact hport .line tag r hph hr
  | spe =>
    obtain ⟨tag, r, hph, hr⟩ := h
    exact hport .sorter tag r hph hr
  | ec =>
    obtain ⟨ps, hc⟩ := h
    unfold runAccess
    rw [hc]
    exact (evidenceWrite_clientsTo ps s).pointer
  | gc =>
    unfold runAccess
    rcases h with hg | ⟨c, g, hg⟩ <;> rw [hg]
    · show (gradingFetch s).arbiter.pointer = _
      unfold gradingFetch
      split
      · rfl
      · simp only
        split <;> rfl
    · obtain ⟨u, hto, e⟩ := gradingWriteBack_clientsTo c g s
      show (gradingWriteBack c g s).arbiter.pointer = _
      rw [e, State.graderDone_pointer, hto.pointer]

/-- Settles O11: the order by the strategy, and the pointer, which no access moves. -/
theorem grantOrder : Obligations.GrantOrder := by
  refine ⟨fun a hh hs => ?_, fun a hh hs => ?_, fun a hh => ?_, fun s c hr hfree hc hlaw => ?_,
    fun s hr h => ?_⟩
  · rw [Arbiter.choice, hh, ← WaitingSet.sorterFirst_eq]
    cases hk : a.strategy with
    | rotate => exact absurd hk hs
    | _ => rfl
  · rw [Arbiter.choice, hh, hs]
    show a.waiting.rotate a.pointer = _
    unfold WaitingSet.rotate
    cases a.pointer <;> rfl
  · rw [Arbiter.choice, if_pos hh]
  · refine ⟨_, by rw [exec_grant hr, grantStore_free hfree hc], ?_⟩
    have hask := hlaw.asksAccess (Arbiter.choice_waits hc).1
    rw [runAccess_pointer (by cases c <;> exact hask)]
    rfl
  · rw [exec_grant hr]
    unfold grantStore
    split
    · rfl
    next hholder =>
      have hnone : s.arbiter.choice = none := h.resolve_left fun hn => hholder (Option.isSome_iff_ne_none.2 hn)
      rw [hnone]

/-! ### Rotation is fair (R152) -/

/-- How many clients after `p` on the ring the arbiter reaches `c`: 1 to 4. -/
def Client.ahead (p c : Client) : Nat :=
  if p.next = c then 1 else if p.next.next = c then 2 else if p.next.next.next = c then 3 else 4

/-- A grant passes over no waiting client: it names the client or one before it on the ring. -/
theorem WaitingSet.rotate_ahead {w : WaitingSet} {p c d : Client} (hc : w.has c = true)
    (hd : w.rotate p = some d) : d = c ∨ d.ahead c < p.ahead c := by
  obtain ⟨lpe, spe, ec, gc⟩ := w
  cases p <;> cases c <;> cases d <;> (revert lpe spe ec gc; decide)

theorem Client.ahead_range (p c : Client) : 1 ≤ p.ahead c ∧ p.ahead c ≤ 4 := by
  cases p <;> cases c <;> decide

/-- Settles O12: each grant but to the client brings the pointer nearer to it on the ring. -/
theorem rotateGrantsWithinFour : Obligations.RotateGrantsWithinFour := by
  intro w p c hw hp
  by_contra hno
  have hstep : ∀ k, k < 4 → (p (k + 1)).ahead c < (p k).ahead c := fun k hk =>
    (WaitingSet.rotate_ahead (hw k hk) (hp k hk)).resolve_left fun h => hno ⟨k, hk, h⟩
  have h0 : (p 1).ahead c < (p 0).ahead c := hstep 0 (by omega)
  have h1 : (p 2).ahead c < (p 1).ahead c := hstep 1 (by omega)
  have h2 : (p 3).ahead c < (p 2).ahead c := hstep 2 (by omega)
  have h3 : (p 4).ahead c < (p 3).ahead c := hstep 3 (by omega)
  have hfirst := (Client.ahead_range (p 0) c).2
  have hlast := (Client.ahead_range (p 4) c).1
  omega

end Sys2Proof.Machine
end

section
/-! PROOFS. The store hold and the arbiter's own request (R153 to R160); a Line Port request taken and done
in its own step. -/

namespace Sys2Proof.Machine

/-! ### A Line Port request taken and done (R151, R166) -/

/-- A request without an access is its work and its answer. -/
theorem exec_taken_plain {c : Instr} {h : Header} {p : Port} {tag : Nat} {r : Request} {s : State}
    (hc : c.request? = some (h, r)) (ht : Taken h p tag r s) (hacc : takesAccess r = false)
    (hat : s.atMoment r h.moment = s) :
    exec c s = .next ((workOf p r s).2.answered p tag r (workOf p r s).1) := by
  have hw : s.atWork h tag r = s := by rw [State.atWork, hacc]; exact hat
  rw [exec_request hc, request_taken ht, hw, State.answered, hacc]
  rfl

/-- The state of `s` in which the work of a Line Port access is done: the port executes, the client is granted
and the raises are closed (R151, R152). -/
def State.inAccess (s : State) (tag : Nat) (r : Request) : State :=
  { s with
    linePort := { s.linePort with phase := .executing tag r }
    arbiter := (s.granted .lpe).arbiter
    counters := s.counters.fold }

theorem State.atWork_line {h : Header} {r : Request} (s : State) (tag : Nat) (hp : h.port = .line)
    (hacc : takesAccess r = true) : s.atWork h tag r = s.inAccess tag r := by
  rw [State.atWork, hacc, hp]
  rfl

theorem State.inAccess_answered (u : State) (tag : Nat) (r : Request) (a : Answer)
    (hacc : takesAccess r = true) :
    ((u.inAccess tag r).respond .line tag (requestCode r) a).written .line = u.answered .line tag r a := by
  rw [State.answered, hacc]
  show State.closeRaises _ = State.closeRaises _
  simp only [State.closeRaises, State.inAccess, State.respond, State.setPort, State.port, if_true,
    Counters.fold_fold]
  rfl

/-- A Line Port access whose work, between the grant and the answer, makes `u` of `s`. -/
theorem exec_taken_line {c : Instr} {h : Header} {tag : Nat} {r : Request} {s u : State} {a : Answer}
    (hc : c.request? = some (h, r)) (ht : Taken h .line tag r s) (hacc : takesAccess r = true)
    (hwork : workOf .line r (s.inAccess tag r) = (a, u.inAccess tag r)) :
    exec c s = .next (u.answered .line tag r a) := by
  rw [exec_request hc, request_taken ht, State.atWork_line s tag ht.1 hacc, hwork,
    State.inAccess_answered u tag r a hacc]

/-- The same where the work reads and changes neither the port, the arbiter nor the counters. -/
theorem exec_taken_access {c : Instr} {h : Header} {tag : Nat} {r : Request} {s u : State} {a : Answer}
    (hc : c.request? = some (h, r)) (ht : Taken h .line tag r s) (hacc : takesAccess r = true)
    (hwork : ∀ (l : PortEngine) (b : Arbiter) (k : Counters),
      workOf .line r { s with linePort := l, arbiter := b, counters := k } =
        (a, { u with linePort := l, arbiter := b, counters := k })) :
    exec c s = .next ({ u with linePort := s.linePort, arbiter := s.arbiter,
                               counters := s.counters }.answered .line tag r a) :=
  exec_taken_line hc ht hacc (hwork _ _ _)

/-! ### Requests that wait, and grants that serve (R150, R152) -/

/-- Settles O10: the request posted, and the access of a port engine. -/
theorem requestWaitsAndGrantServes : Obligations.RequestWaitsAndGrantServes := by
  refine ⟨fun c h r q tag s hc hf hr hi hp hq hh hg => ?_, fun p tag q s hr hfree hchoice hph => ?_⟩
  · have hexec : exec c s =
        .next (((s.executing h.port tag q).postWaiting (clientOf h.port)).written h.port) := by
      rw [exec_takes hc hf hr hi, takeRequest_posts hp hq hh, postClient, State.executing_arbiter, hg]
      rfl
    refine ⟨_, hexec, ?_⟩
    cases h.port with
    | line =>
      refine ⟨rfl, fun p hp => ?_, rfl, fun k hk => ?_, rfl⟩
      · cases p
        · exact absurd rfl hp
        · rfl
      · cases k
        · exact absurd rfl hk
        all_goals rfl
    | sorter =>
      refine ⟨rfl, fun p hp => ?_, rfl, fun k hk => ?_, rfl⟩
      · cases p
        · rfl
        · exact absurd rfl hp
      · cases k with
        | spe => exact absurd rfl hk
        | _ => rfl
  · have hexec : exec .storeAccessGrant s = .next (perform p tag q (s.markGranted (clientOf p))) := by
      rw [exec_grant hr, grantStore_free hfree hchoice,
        runAccess_clientOf (by rw [State.port_markGranted]; exact hph)]
    exact ⟨fun hm => by rw [hexec, perform_refused (s := s.markGranted _) hm],
      fun hm => by rw [hexec, perform_done (s := s.markGranted _) hm]⟩

/-! ### The Sorter Port in a hold (R156, R157) -/

theorem answerUnderHold_destination {q : Request} {s : State} (hm : refusedInMode s.mode q = false)
    (hq : requestCode q = 2) : answerUnderHold q s =
      ({ code := .ok, results := .destination .recirculate 0, held := true },
        s.closeRaises.bump .heldAnswers) := by
  cases q <;> simp [requestCode] at hq
  rw [answerUnderHold, hm]
  rfl

theorem answerUnderHold_other {q : Request} {s : State} (hm : refusedInMode s.mode q = false)
    (hq : requestCode q ≠ 2) : answerUnderHold q s = ({ code := .held }, s) := by
  cases q <;> simp [requestCode] at hq <;> simp [answerUnderHold, hm]

/-- Settles O13: a DESTINATION is counted and answered, any other request refused. -/
theorem sorterRequestsDuringHold : Obligations.SorterRequestsDuringHold := by
  intro c h r q tag s hc hport hf hr hi hp hq hm hh
  have hexec := exec_takes hc hf hr (by rw [hport]; exact hi)
  rw [hport, takeRequest_underHold hp hq hh] at hexec
  refine ⟨fun h2 => ⟨s.closeRaises.bump .heldAnswers, ?_, ?_, fun d hd => ?_, rfl⟩, fun h2 => ?_⟩
  · rw [hexec, answerUnderHold_destination hm h2, h2]
  · rw [State.counter_bump, if_pos rfl, State.counter_closeRaises]
  · rw [State.counter_bump, if_neg hd, State.counter_closeRaises]
  · rw [hexec, answerUnderHold_other hm h2]

/-! ### HOLD BEGIN, HOLD END, the expiry, ARBITER SET -/

theorem workHoldBegin_open {s : State} (h : s.arbiter.hold.isSome = true) :
    workHoldBegin s = ({ code := .held }, s) := if_pos h

/-- A hold open with the limit in force (R154). -/
def State.holdOpened (s : State) : State :=
  { s with arbiter := { s.arbiter with hold := some s.arbiter.holdLimit } }

theorem workHoldBegin_opens {s : State} (h : s.arbiter.hold = none) : workHoldBegin s =
    ({ code := .ok, results := .milliseconds s.arbiter.holdLimit }, s.holdOpened.withdrawSorter) :=
  if_neg (by rw [h]; exact Bool.false_ne_true)

theorem State.withdrawSorter_eq {s : State} {tag : Nat} {r : Request}
    (h : s.sorterPort.phase = .executing tag r) : s.withdrawSorter =
      { (answerUnderHold r s).2 with arbiter := { (answerUnderHold r s).2.arbiter with
          waiting := (answerUnderHold r s).2.arbiter.waiting.put false .spe } }.respond
        .sorter tag (requestCode r) (answerUnderHold r s).1 := by
  rw [State.withdrawSorter, h]

theorem State.phase_of_not_executing {e : PortEngine} (h : e.executing = false) (tag : Nat) (r : Request) :
    e.phase ≠ .executing tag r := by
  intro hph
  rw [PortEngine.executing, hph] at h
  cases h

/-- Settles O14: the hold opened or refused, and the Sorter Port's request withdrawn as it opens. -/
theorem holdBegin : Obligations.HoldBegin := by
  refine ⟨fun h tag s ht => ⟨fun hnone hex => ?_, fun hsome => ?_⟩,
    fun tag tag' q s hr hfree hhold hchoice hline hsorter hm => ?_⟩
  · refine exec_taken_line rfl ht rfl ((workHoldBegin_opens
        (s := s.inAccess tag .holdBegin) hnone).trans (congrArg (Prod.mk _) ?_))
    exact State.withdrawSorter_of_not (State.phase_of_not_executing hex)
  · exact exec_taken_line rfl ht rfl (workHoldBegin_open (s := s.inAccess tag .holdBegin) hsome)
  · have hserve := (requestWaitsAndGrantServes.2 .line tag .holdBegin s hr hfree hchoice hline).2
      (Bool.and_false _)
    have hwork : workOf .line .holdBegin (s.markGranted (clientOf .line)) = _ :=
      workHoldBegin_opens (s := s.markGranted .lpe) hhold
    rw [hwork, State.withdrawSorter_eq (s := (s.markGranted .lpe).holdOpened) hsorter] at hserve
    refine ⟨_, hserve, ?_⟩
    by_cases h2 : requestCode q = 2
    · rw [answerUnderHold_destination (s := (s.markGranted .lpe).holdOpened) hm h2, if_pos h2, h2]
      exact ⟨rfl, rfl, by simp [State.holdOpened], rfl⟩
    · rw [answerUnderHold_other (s := (s.markGranted .lpe).holdOpened) hm h2, if_neg h2]
      exact ⟨rfl, rfl, by simp [State.holdOpened], rfl⟩

theorem workHoldEnd_none {s : State} (h : s.arbiter.hold = none) : workHoldEnd s = ({ code := .notHeld }, s) := by
  rw [workHoldEnd, h]

theorem workHoldEnd_some {s : State} {l : Nat} (h : s.arbiter.hold = some l) : workHoldEnd s =
    ({ code := .ok, results := .milliseconds (s.heldMs l) },
      { s with arbiter := { s.arbiter with hold := none }, freeReads := s.freeReads + 1 }) := by
  rw [workHoldEnd, h]

theorem exec_holdExpiry {s : State} (hr : s.resetN = true) : exec .holdExpiry s = .next (holdExpires s) := by
  show whenRunning s _ = _
  rw [whenRunning, if_pos hr]

/-- Settles O15: the hold ended by the request and by its timer. -/
theorem holdEnds : Obligations.HoldEnds := by
  refine ⟨fun h tag limit s ht hhold => ?_, fun h tag s ht hnone => ?_, fun s hr hhold => ?_,
    fun s hr hnone => ?_⟩
  · refine ⟨s.heldMs limit, { s with
      arbiter := { s.arbiter with hold := none }, freeReads := s.freeReads + 1 }, Nat.min_le_left .., ?_, rfl⟩
    rw [exec_taken_plain (c := .holdEnd h) rfl ht rfl rfl, workOf, workHoldEnd_some hhold]
  · rw [exec_taken_plain (c := .holdEnd h) rfl ht rfl rfl, workOf, workHoldEnd_none hnone]
  · rw [exec_holdExpiry hr, holdExpires, if_pos hhold]
  · rw [exec_holdExpiry hr, holdExpires, hnone]
    rfl

/-! ### ARBITER SET (R153) -/

theorem readStrategy_strategyCode (k : Strategy) : readStrategy (strategyCode k) = some k := by
  cases k <;> rfl

/-- The time left of an open hold, as an answer reads it (R153, log 5). -/
def State.holdLeft (s : State) : Option Nat := s.arbiter.hold.map fun l => l - s.heldMs l

theorem State.holdLeft_isSome (s : State) : s.holdLeft.isSome = s.arbiter.hold.isSome := Option.isSome_map ..

theorem State.holdLeft_le {s : State} {l m : Nat} (hl : s.arbiter.hold = some l) (hm : s.holdLeft = some m) :
    m ≤ l := by
  rw [State.holdLeft, hl] at hm
  cases hm
  exact Nat.sub_le ..

theorem State.countReading_eq (s : State) : s.countReading =
    { s with freeReads := if s.arbiter.hold.isSome then s.freeReads + 1 else s.freeReads } := by
  unfold State.countReading
  split <;> rfl

theorem State.countReading_frame (s : State) :
    s.countReading = { s with freeReads := s.countReading.freeReads } := by
  rw [State.countReading_eq]

theorem workArbiterSet_sets {n limit : Nat} {k : Strategy} (hn : readStrategy n = some k)
    (hl : inRange 1 250 limit = true) (s : State) : workArbiterSet n limit s =
      ({ code := .ok, results := .arbiter k limit s.holdLeft s.arbiter.pointer },
        { s with arbiter := { s.arbiter with strategy := k, holdLimit := limit } }.countReading) := by
  rw [workArbiterSet, hn]
  exact if_pos hl

theorem workArbiterSet_range {n limit : Nat} (h : readStrategy n = none ∨ inRange 1 250 limit = false)
    (s : State) : workArbiterSet n limit s =
      ({ code := .range,
         results := .arbiter s.arbiter.strategy s.arbiter.holdLimit s.holdLeft s.arbiter.pointer },
        s.countReading) := by
  unfold workArbiterSet
  cases hn : readStrategy n with
  | none => rfl
  | some k => exact if_neg (by rw [h.resolve_left (by rw [hn]; exact (nomatch ·))]; exact Bool.false_ne_true)

theorem readStrategy_none {n : Nat} (h : 3 ≤ n) : readStrategy n = none := by
  obtain ⟨m, rfl⟩ := Nat.exists_eq_add_of_le' h
  rfl

/-- Settles O16: the two settings replaced, or refused; the time left is the timer's reading. -/
theorem arbiterSet : Obligations.ArbiterSet := by
  intro h tag limit k n s ht
  have hleft := s.holdLeft_isSome
  have hle := fun l m => s.holdLeft_le (l := l) (m := m)
  by_cases hsets : n = strategyCode k ∧ 1 ≤ limit ∧ limit ≤ 250
  · obtain ⟨hn, h1, h250⟩ := hsets
    refine ⟨s.holdLeft, { s with arbiter := { s.arbiter with strategy := k, holdLimit := limit } }.countReading,
      hleft, hle, fun _ _ _ => ⟨exec_taken_line rfl ht rfl ?_, State.countReading_frame _⟩, fun hbad => ?_⟩
    · have hk : readStrategy n = some k := hn ▸ readStrategy_strategyCode k
      refine (workArbiterSet_sets hk (by simp [inRange, h1, h250]) (s.inAccess tag (.arbiterSet n limit))).trans ?_
      rw [State.countReading_eq, State.countReading_eq]
      rfl
    · have : strategyCode k ≤ 2 := by cases k <;> decide
      omega
  · refine ⟨s.holdLeft, s.countReading, hleft, hle, fun hn h1 h250 => absurd ⟨hn, h1, h250⟩ hsets,
      fun hbad => ⟨exec_taken_line rfl ht rfl ?_, State.countReading_frame _⟩⟩
    have hrange : readStrategy n = none ∨ inRange 1 250 limit = false := by
      rcases hbad with h3 | h0
      · exact .inl (readStrategy_none h3)
      · right
        simp only [inRange, Bool.and_eq_false_iff, decide_eq_false_iff_not]
        omega
    refine (workArbiterSet_range hrange (s.inAccess tag (.arbiterSet n limit))).trans ?_
    rw [State.countReading_eq, State.countReading_eq]
    rfl

end Sys2Proof.Machine
end

section
/-! PROOFS. The status word, the attention outputs, the lamps, the table limits and the counters (R162, R170,
R171, R178 to R184). -/

namespace Sys2Proof.Machine

/-! ### The conditions (R178) -/

theorem State.conditions_bit (s : State) (i : Nat) : s.conditions.getLsbD i =
    ([s.present .anyStationDown, s.present .reportWaiting, s.present .poolEmpty,
      s.present .zoneBlocked, s.present .holdActive, s.present .roundActive,
      s.present .fifoNearFull, s.present .fifoOverflow, s.present .roundEnd,
      s.present .holdExpired, s.present .stationWentDown].getD i false) := by
  rw [State.conditions, BitVec.getLsbD_ofBoolListLE]

theorem State.anyStationDown_iff (s : State) : s.anyStationDown = true ↔
    ∃ a, a < 16 ∧ (s.station a).config.configured = true ∧ (s.station a).run.health = .down := by
  simp [State.anyStationDown, Config.stationEntries]

theorem State.zoneBlocked_iff (s : State) : s.zoneBlocked = true ↔
    ∃ z, z < 32 ∧ (s.zone z).state = .blocked := by
  simp [State.zoneBlocked, Config.zoneEntries]

theorem State.freeRecords_eq_zero (s : State) :
    s.freeRecords = 0 ↔ 128 ≤ s.urgent.length + s.routine.length := by
  simp only [State.freeRecords, Config.reportRecords]
  omega

/-- Settles O17: STATUS takes no access, and each bit is its condition's cause. -/
theorem statusWord : Obligations.StatusWord := by
  refine ⟨fun h p tag s ht => exec_taken_plain rfl ht rfl rfl, fun s => ?_⟩
  simp only [State.conditions_bit]
  refine ⟨s.anyStationDown_iff, ?_, ?_, s.zoneBlocked_iff, Iff.rfl, ?_, rfl, rfl, rfl, rfl, rfl⟩
  · show (!(s.urgent.isEmpty && s.routine.isEmpty)) = true ↔ _
    simp
  · show (s.freeRecords == 0) = true ↔ _
    rw [beq_iff_eq, s.freeRecords_eq_zero]
  · show (s.controller.state != .idle) = true ↔ _
    exact bne_iff_ne

/-! ### STATUS CLEAR and ATTENTION MASK (R171, R179) -/

theorem workStatusClear_range {n : Nat} (h : n % 64 ≠ 0 ∨ 2048 ≤ n) (s : State) :
    workStatusClear n s = ({ code := .range }, s) := by
  refine if_neg ?_
  simp only [namesOnlySticky, Bool.and_eq_true, decide_eq_true_eq]
  omega

theorem workStatusClear_clears {n : Nat} (h : n % 64 = 0) (hn : n < 2048) (s : State) :
    workStatusClear n s =
      ({ code := .ok, results := ({ s with sticky := s.sticky.clearNamed n } : State).statusWord },
        { s with sticky := s.sticky.clearNamed n }) := by
  refine if_pos ?_
  simp [namesOnlySticky, h, hn]

theorem readMask_mask {m : Nat} (h : m < 2048) : readMask m = some (some (BitVec.ofNat 11 m)) := by
  rw [readMask, if_neg (by omega), if_pos h]

theorem readMask_keep : readMask 65535 = some none := if_pos rfl

theorem readMask_range {m : Nat} (h : 2048 ≤ m) (hm : m ≠ 65535) : readMask m = none := by
  rw [readMask, if_neg hm, if_neg (by omega)]

theorem workAttentionMask_mask {m : Nat} (h : m < 2048) (p : Port) (s : State) :
    workAttentionMask p m s =
      ({ code := .ok, results := .mask (BitVec.ofNat 11 m) s.conditions },
        s.setPort p { s.port p with mask := BitVec.ofNat 11 m }) := by
  rw [workAttentionMask, readMask_mask h]
  cases p <;> rfl

theorem workAttentionMask_keep (p : Port) (s : State) : workAttentionMask p 65535 s =
    ({ code := .ok, results := .mask (s.port p).mask s.conditions }, s) := by
  rw [workAttentionMask, readMask_keep]
  rfl

theorem workAttentionMask_range {m : Nat} (h : 2048 ≤ m) (hm : m ≠ 65535) (p : Port) (s : State) :
    workAttentionMask p m s = ({ code := .range, results := .mask (s.port p).mask s.conditions }, s) := by
  rw [workAttentionMask, readMask_range h hm]
  rfl

theorem and_ne_zero_iff {w : Nat} (x y : BitVec w) :
    ((x &&& y) != 0) = true ↔ ∃ i, i < w ∧ x.getLsbD i = true ∧ y.getLsbD i = true := by
  rw [bne_iff_ne]
  constructor
  · intro h
    by_contra hno
    refine h (BitVec.eq_of_getLsbD_eq fun i hi => ?_)
    rw [BitVec.getLsbD_and]
    by_contra hb
    refine hno ⟨i, hi, ?_⟩
    simpa using hb
  · rintro ⟨i, hi, hx, hy⟩ h
    have : (x &&& y).getLsbD i = true := by rw [BitVec.getLsbD_and, hx, hy]; rfl
    rw [h] at this
    simp at this

/-- Settles O18: the two requests by the range of their operand, and the attention output bit by bit. -/
theorem statusClearAndAttentionMask : Obligations.StatusClearAndAttentionMask := by
  refine ⟨fun h tag set s ht => ⟨fun hr => ?_, fun h0 hn => ?_⟩,
    fun h p tag m s ht => ⟨fun hm => ?_, fun hm => ?_, fun hm hne => ?_⟩, fun s p => and_ne_zero_iff _ _⟩
  · rw [exec_taken_plain (c := .statusClear h set) rfl ht rfl rfl, workOf, workStatusClear_range hr]
  · refine ⟨{ s with sticky := s.sticky.clearNamed set }, ?_, rfl, rfl, rfl, rfl, rfl, rfl⟩
    rw [exec_taken_plain (c := .statusClear h set) rfl ht rfl rfl, workOf, workStatusClear_clears h0 hn]
    rfl
  · rw [exec_taken_plain (c := .attentionMask h m) rfl ht rfl rfl, workOf, workAttentionMask_mask hm]
  · subst hm
    rw [exec_taken_plain (c := .attentionMask h 65535) rfl ht rfl rfl, workOf, workAttentionMask_keep]
  · rw [exec_taken_plain (c := .attentionMask h m) rfl ht rfl rfl, workOf, workAttentionMask_range hm hne]

/-! ### TABLE LIMITS (R162) -/

/-- An access on either port that leaves the state its grant makes. -/
theorem exec_taken_reads {c : Instr} {h : Header} {p : Port} {tag : Nat} {r : Request} {s : State}
    {a : Answer} (hc : c.request? = some (h, r)) (ht : Taken h p tag r s) (hacc : takesAccess r = true)
    (hwork : workOf p r (s.atWork h tag r) = (a, s.atWork h tag r)) :
    exec c s = .next (s.closeRaises.answered p tag r a) := by
  obtain rfl : h.port = p := ht.1
  rw [exec_request hc, request_taken ht, hwork, State.atWork, hacc]
  exact congrArg Host.Outcome.next (State.granted_answered s h.port hacc a)

/-- Settles O21: each occupancy is the count the model keeps of its table. -/
theorem tableLimits : Obligations.TableLimits := by
  intro h p tag s ht
  refine exec_taken_reads rfl ht rfl ?_
  have hp : h.port = p := ht.1
  have hat : s.atWork h tag .tableLimits = (s.executing p tag .tableLimits).markGranted (clientOf p) := by
    rw [State.atWork, hp]
    rfl
  have hitems : (List.range 256).countP (fun i => decide ((s.item i).state ≠ .free)) = s.liveItems := by
    unfold State.liveItems tcount
    refine List.countP_congr fun i _ => ?_
    show decide ((s.item i).state ≠ .free) = true ↔ ((s.item i).state != .free) = true
    simp
  rw [hat, hitems]
  cases p <;> rfl

/-! ### The lamps (R183, R184) -/

theorem readLampSource_code (k : LampSource) : readLampSource (lampSourceCode k) = some k := by cases k <;> rfl

theorem readLampPattern_code (k : LampPattern) : readLampPattern (lampPatternCode k) = some k := by
  cases k <;> rfl

theorem readLampSource_none {n : Nat} (h : 10 ≤ n) : readLampSource n = none := by
  obtain ⟨m, rfl⟩ := Nat.exists_eq_add_of_le' h
  rfl

theorem readLampPattern_none {n : Nat} (h : 2 ≤ n) : readLampPattern n = none := by
  obtain ⟨m, rfl⟩ := Nat.exists_eq_add_of_le' h
  rfl

theorem workLampSet_range {l k p : Nat} (h : 4 ≤ l ∨ 10 ≤ k ∨ 2 ≤ p) (s : State) :
    workLampSet l k p s = ({ code := .range, results := s.lampResults }, s) := by
  unfold workLampSet
  split
  next hl =>
    split
    next hk hp =>
      rcases h with h | h | h
      · omega
      · rw [readLampSource_none h] at hk; cases hk
      · rw [readLampPattern_none h] at hp; cases hp
    next => rfl
  next => rfl

theorem workLampSet_sets (i : Fin 4) (src : LampSource) (pat : LampPattern) (s : State) :
    workLampSet i (lampSourceCode src) (lampPatternCode pat) s =
      ({ code := .ok,
         results := ({ s with lamps := s.lamps.set i { source := src, pattern := pat } } : State).lampResults },
        { s with lamps := s.lamps.set i { source := src, pattern := pat } }) := by
  rw [workLampSet, dif_pos i.isLt, readLampSource_code, readLampPattern_code]

/-- Settles O20: the setting replaced, and when each lamp is lit. -/
theorem lamps : Obligations.Lamps := by
  refine ⟨fun h tag lamp source pattern s ht => ⟨fun hr => ?_, fun i src pat hl hs hp => ?_⟩,
    fun s l => ?_, fun s => ?_, fun s hr => ?_⟩
  · rw [exec_taken_plain (c := .lampSet h lamp source pattern) rfl ht rfl rfl, workOf, workLampSet_range hr]
    rfl
  · subst hl hs hp
    refine ⟨{ s with lamps := s.lamps.set i { source := src, pattern := pat } }, ?_, by simp,
      fun j hj => ?_, rfl⟩
    · rw [exec_taken_plain (c := .lampSet h i _ _) rfl ht rfl rfl, workOf, workLampSet_sets]
      rfl
    · exact Vector.getElem_set_ne i.isLt j.isLt fun he => hj (Fin.ext he.symm)
  · cases hpat : l.pattern <;> simp [State.lampLit, hpat, and_assoc]
  · simp only [State.conditions_bit]
    exact ⟨rfl, rfl, beq_iff_eq, beq_iff_eq, rfl, rfl, rfl, rfl, rfl, rfl⟩
  · show whenRunning s (fun s => { s with blinkLit := !s.blinkLit }) = _
    rw [whenRunning, if_pos hr]

end Sys2Proof.Machine
end

section
/-! PROOFS. The mode, its changes and the resets (R186 to R192). -/

namespace Sys2Proof.Machine

/-! ### What keeps the mode (R186) -/

theorem keptByTables_mode (m : Mode) : KeptByTables (fun s => s.mode = m) := by
  have hquiet : ∀ s t : State, s.QuietTo t → s.mode = m → t.mode = m := by
    rintro s t ⟨-, e⟩ h
    rw [e]; exact h
  have w : KeptByWrites (fun s => s.mode = m) :=
    { quiet := hquiet
      setItem := fun _ _ _ h => h
      release := fun _ _ h => h
      commit := fun _ _ h => h
      reserve := fun _ _ _ _ _ _ h => h
      zones := fun _ _ h => h
      setManifest := fun _ _ _ h => h
      setTray := fun _ _ _ h => h
      queue := fun _ _ h => h
      ticket := fun _ h => h
      retire := fun s i it h => by
        obtain ⟨_, _, _, _, e⟩ := s.retire_frame i it
        rw [e]; exact h }
  exact
    { quiet := hquiet
      config := .of_configTo fun s t ht h => by
        obtain ⟨_, _, _, _, _, _, _, _, _, _, _, -, e⟩ := ht
        rw [e]; exact h
      fifo := fun _ _ _ h => h
      snapshot := fun _ h => h
      slotSet := fun _ _ _ _ h => h
      slotAdjust := fun _ _ _ _ h => h
      slotRelease := fun _ _ _ h => h
      items := w.toItems.items fun s h => by
        obtain ⟨_, _, _, _, e⟩ := workCollect_frame s
        rw [e]; exact h
      fetch := fun _ => w.gradingFetch
      apply := fun c g _ _ => w.toItems.applyResult c g
      write := fun _ _ => w.toItems.writePiece }

theorem State.liveItems_of_empty {s : State} (h : s.items = []) : s.liveItems = 0 := by
  rw [State.liveItems, h]
  exact List.countP_eq_zero.2 fun _ _ => Bool.false_ne_true

/-- The work of a request keeps the mode, or leaves no item live (R187, R191). -/
theorem workOf_mode (p : Port) (r : Request) {s : State} {m : Mode} (h : s.mode = m) :
    (workOf p r s).2.mode = m ∨ (workOf p r s).2.liveItems = 0 := by
  have link : ∀ {t : State}, s.LinkTo t → t.mode = m := by
    rintro t ⟨_, _, -, e⟩
    rw [e]; exact h
  cases hr : movesLink r with
  | false => exact .inl ((keptByTables_mode m).work hr h)
  | true =>
    cases r with
    | modeSet n =>
      rcases workModeSet_frame n s with e | ⟨m', hl, e⟩
      · exact .inl ((congrArg State.mode e).trans h)
      · obtain ⟨c, hc⟩ := s.changeMode_frame m'
        exact .inr ((congrArg State.liveItems (e.trans hc)).trans hl)
    | fullReset => exact .inr (State.liveItems_of_empty rfl)
    | lineRestart => exact .inr (State.liveItems_of_empty (lineRestartBlocks_emptied s).1)
    | scheduleStart o => exact .inl (link (linkTo_workScheduleStart o s))
    | scheduleStage o => exact .inl (link (linkTo_workScheduleStage o s))
    | scheduleCancel => exact .inl (link (linkTo_workScheduleCancel s))
    | singlePoll a n => exact .inl (link (linkTo_workSinglePoll a n s))
    | _ => cases hr

theorem leadsTo_mode (m : Mode) : LeadsTo (fun s => s.mode = m) (fun s => s.mode = m ∨ s.liveItems = 0) where
  quiet := (keptByTables_mode m).quiet
  after s t ht h := by
    obtain ⟨-, e⟩ := ht
    rw [e]; exact h
  weaken _ := .inl
  work p r _ _ h := workOf_mode p r h
  fetch := (keptByTables_mode m).fetch
  apply := (keptByTables_mode m).apply
  write := (keptByTables_mode m).write
  frame _ _ _ hf h := (keptByTables_mode m).frame hf h
  timer s h := by
    obtain ⟨_, _, -, e⟩ := linkTo_expireTimer s
    rw [e]; exact h
  poll s t ht h := by
    have link : ∀ {u v : State}, u.LinkTo v → u.mode = m → v.mode = m := by
      rintro u v ⟨_, _, -, e⟩ hu
      rw [e]; exact hu
    cases ht with
    | same => exact h
    | phase f ph => exact link (State.linkTo_withController _ _) h
    | bad f => exact link (State.linkTo_moveOn _ _) ((keptByTables_mode m).record h)
    | judged f frame => exact link (State.linkTo_moveOn _ _) ((keptByTables_mode m).judge h)
  pinLow _ _ := .inr (State.liveItems_of_empty rfl)

/-- Settles O24: every part of a command keeps the mode but a mode change and the resets, which find or leave no
item live. -/
theorem modeChangesOnEmptyLine : Obligations.ModeChangesOnEmptyLine := fun _ s _ ht hne =>
  ((leadsTo_mode s.mode).exec ht rfl).resolve_left hne

/-! ### MODE SET (R187, R188) -/

theorem readMode_code (m : Mode) : readMode (modeCode m) = some m := by cases m <;> rfl

theorem readMode_none {n : Nat} (h : 3 ≤ n) : readMode n = none := by
  obtain ⟨m, rfl⟩ := Nat.exists_eq_add_of_le' h
  rfl

theorem workModeSet_range {n : Nat} (h : 3 ≤ n) (s : State) :
    workModeSet n s = ({ code := .range, results := .mode s.mode s.liveItems }, s) := by
  rw [workModeSet, readMode_none h]

theorem workModeSet_live (m : Mode) {s : State} (h : s.liveItems ≠ 0) :
    workModeSet (modeCode m) s = ({ code := .itemsLive, results := .mode s.mode s.liveItems }, s) := by
  rw [workModeSet, readMode_code]
  exact if_pos h

theorem workModeSet_noReview {m : Mode} {s : State} (h : s.liveItems = 0)
    (hm : s.mode = .configure ∧ m ≠ .configure ∧ s.line.reviewChute = 0) :
    workModeSet (modeCode m) s = ({ code := .noReviewChute, results := .mode s.mode 0 }, s) := by
  rw [workModeSet, readMode_code]
  simp only [h, ne_eq, not_true_eq_false, if_false]
  exact if_pos hm

theorem workModeSet_sets {m : Mode} {s : State} (h : s.liveItems = 0)
    (hm : ¬ (s.mode = .configure ∧ m ≠ .configure ∧ s.line.reviewChute = 0)) :
    workModeSet (modeCode m) s = ({ code := .ok, results := .mode m 0 }, s.changeMode m) := by
  rw [workModeSet, readMode_code]
  simp only [h, ne_eq, not_true_eq_false, if_false]
  exact if_neg hm

/-- Settles O23: the checks in their order, and the mode change. -/
theorem modeSet : Obligations.ModeSet := by
  intro h tag n s ht
  refine ⟨fun h3 => exec_taken_access (u := s) rfl ht rfl fun l b k => workModeSet_range h3 _, ?_⟩
  rintro m rfl
  refine ⟨fun hl => exec_taken_access (u := s) rfl ht rfl fun l b k => ?_, fun hl hc hm hr => ?_,
    fun hl hm => ?_⟩
  · exact workModeSet_live m (s := { s with linePort := l, arbiter := b, counters := k }) hl
  · exact exec_taken_access (u := s) rfl ht rfl fun l b k =>
      workModeSet_noReview (s := { s with linePort := l, arbiter := b, counters := k }) hl ⟨hc, hm, hr⟩
  · refine exec_taken_access (u := { s with
      mode := m
      controller :=
        if s.mode = Mode.configure ∧ m ≠ Mode.configure then
          { s.controller with roundTimer := some s.link.period }
        else if s.mode ≠ Mode.configure ∧ m = Mode.configure then RoundController.atReset
        else s.controller }) rfl ht rfl fun l b k => ?_
    refine (workModeSet_sets (s := { s with linePort := l, arbiter := b, counters := k }) hl hm).trans ?_
    rw [State.changeMode_eq]
    by_cases hs : s.mode = .configure <;> by_cases hc : m = .configure <;> simp [hs, hc, RoundController.stopped]
    rfl

end Sys2Proof.Machine
end

section
/-! PROOFS. The values after reset, FULL RESET, LINE RESTART and the pin (R172, R190 to R192). -/

namespace Sys2Proof.Machine

theorem Counters.live_zero (i : Fin 24) : Counters.zero.live i = 0 := by
  rw [← Counters.base_fold, Counters.fold_zero, Counters.zero_base]

/-- Settles O25: the reset state, read field by field. -/
theorem resetValues : Obligations.ResetValues := by
  refine ⟨rfl, rfl, fun _ => rfl, fun _ => rfl, fun _ => rfl, fun _ => ⟨rfl, rfl⟩, fun _ => rfl, fun _ => rfl,
    fun _ => ⟨rfl, rfl⟩, fun _ => rfl, fun _ => rfl, rfl, rfl, rfl, rfl, rfl, rfl, rfl, rfl, rfl, rfl, rfl, rfl,
    rfl, rfl, rfl, fun p => ?_, rfl, fun c => Counters.live_zero _, fun i => Vector.getElem_replicate _, rfl, rfl,
    rfl, rfl, rfl⟩
  cases p <;> exact ⟨rfl, rfl, rfl, rfl⟩

theorem fullResetBlocks_respond (s : State) (tag : Nat) :
    (fullResetBlocks s).respond .line tag 12 { code := .ok } =
      { State.reset with
        resetN := s.resetN
        linePort := { phase := .responseReady { code := .ok, request := 12, tag := tag,
                                                held := false, results := .none }
                      overrun := s.linePort.overrun, mask := 0, miso := s.linePort.miso, discarded := none }
        sorterPort := { phase := .idle, overrun := false, mask := 0, miso := s.sorterPort.miso
                        discarded := s.sorterPort.cutByReset }
        blinkLit := s.blinkLit, linkTxd := s.linkTxd, freeReads := s.freeReads
        pending := s.pending } := rfl

/-- What a FULL RESET leaves of the response a port held, spelled out by the port's phase (R172). -/
theorem PortEngine.cutByReset_eq (e : PortEngine) : e.cutByReset =
    (match e.phase with
      | .responseReady r => some (responseFrame r e.overrun)
      | .idle => e.discarded
      | .executing .. => none) := rfl

/-- Settles O26: the blocks after reset and the Line Port's answer, in one transaction. -/
theorem fullReset : Obligations.FullReset := by
  intro h tag s ht
  have hr : s.resetN = true := ht.2.2.1
  have hdone : exec (.fullReset h) s =
      .next (((fullResetBlocks s).respond .line tag 12 { code := .ok }).written .line) :=
    exec_taken_plain rfl ht rfl rfl
  rw [hdone, fullResetBlocks_respond, hr, PortEngine.cutByReset_eq]
  have hk : State.reset.counters.fold = State.reset.counters := Counters.fold_zero
  simp only [State.written, State.foldRaises, State.setPort, State.port, State.closeRaises, hk]
  rfl

/-! ### LINE RESTART (R192) -/

/-- A Sorter Port after LINE RESTART: a request in hand is answered RESTARTED (R172). -/
def PortEngine.restarted (e : PortEngine) : PortEngine :=
  { e with
    phase := match e.phase with
      | .executing tag r => .responseReady { code := .restarted, request := requestCode r, tag := tag,
                                             held := false, results := .none }
      | ph => ph }

theorem PortEngine.restarted_of_not {e : PortEngine} (h : ∀ tag r, e.phase ≠ .executing tag r) :
    e.restarted = e := by
  obtain ⟨phase, _, _, _, _⟩ := e
  cases phase with
  | executing tag r => exact absurd rfl (h tag r)
  | _ => rfl

theorem State.restartSorter_eq (s : State) :
    s.restartSorter = { s with sorterPort := s.sorterPort.restarted } := by
  unfold State.restartSorter
  split
  next tag r h =>
    rw [PortEngine.restarted, h]
    rfl
  next h => rw [PortEngine.restarted_of_not h]

/-- LINE RESTART, block by block. -/
theorem lineRestartBlocks_eq (s : State) : lineRestartBlocks s =
    { s with
      items := [], trayIndex := [], gradeQueue := [], waitList := []
      bins := tupdate Bin.atReset Bin.afterRestart Config.binEntries s.bins
      arbiter := s.arbiter.afterRestart
      stations := tupdate Station.atReset (fun e => { e with run := .atReset }) Config.stationEntries s.stations
      controller := .stopped (if s.mode = .configure then none else some s.link.period)
      fifo := [], collector := .waiting, settle := [], grader := .idle
      scan0 := s.scan0.emptied, scan1 := s.scan1.emptied
      counters := (s.bumpBy .reportsLost s.waitList.length).counters
      sorterPort := s.sorterPort.restarted } := by
  unfold lineRestartBlocks
  rw [State.restartSorter_eq]
  dsimp only [State.emptyScans, State.bumpBy]
  congr 1

theorem Bin.afterRestart_eq (b : Bin) : b.afterRestart =
    { b with
      reserved := 0
      cls := if b.committed = 0 ∧ b.affinity = none then none else b.cls } := by
  by_cases h : b.committed = 0 ∧ b.affinity = none
  · obtain ⟨hc, ha⟩ := h
    simp [Bin.afterRestart, Bin.settleClass, Bin.isEmpty, hc, ha]
  · unfold Bin.afterRestart Bin.settleClass
    rw [if_neg (by simpa [Bin.isEmpty] using h), if_neg h]

theorem lineRestartBlocks_restarted (s : State) : s.RestartedAs (lineRestartBlocks s) := by
  have hbin := lineRestartBlocks_bin s
  have hstation : ∀ a, (lineRestartBlocks s).station a =
      if a < Config.stationEntries then { s.station a with run := .atReset } else s.station a := by
    intro a
    have hst : (lineRestartBlocks s).stations = tupdate Station.atReset
        (fun e => { e with run := .atReset }) Config.stationEntries s.stations := by
      rw [lineRestartBlocks_eq]
    rw [State.station, hst]
    exact tget_tupdate _ _ _ _ _
  have hcounter : ∀ d, (lineRestartBlocks s).counter d = (s.bumpBy .reportsLost s.waitList.length).counter d := by
    intro d
    have hk : (lineRestartBlocks s).counters = (s.bumpBy .reportsLost s.waitList.length).counters := by
      rw [lineRestartBlocks_eq]
    rw [State.counter, hk, State.counter]
  refine ⟨?_, ?_, ?_, ?_, ?_, ?_, ?_, ?_, ?_, ?_, fun b hb => ?_, fun a ha => ?_, ?_, fun d hd => ?_, ?_, ?_, ?_, ?_⟩
  · rw [lineRestartBlocks_eq]
  · rw [lineRestartBlocks_eq]
  · rw [lineRestartBlocks_eq]
  · rw [lineRestartBlocks_eq]
  · rw [lineRestartBlocks_eq]
  · rw [lineRestartBlocks_eq]
  · rw [lineRestartBlocks_eq]
  · rw [lineRestartBlocks_eq]
  · rw [lineRestartBlocks_eq]; rfl
  · rw [lineRestartBlocks_eq]; rfl
  · rw [hbin, if_pos hb, Bin.afterRestart_eq]
  · rw [hstation, if_pos ha]; rfl
  · rw [hcounter, State.counter_bumpBy, if_pos rfl]
  · rw [hcounter, State.counter_bumpBy, if_neg hd]
  · rw [lineRestartBlocks_eq]; rfl
  · rw [lineRestartBlocks_eq]; rfl
  · rw [lineRestartBlocks_eq]; rfl
  · rw [lineRestartBlocks_eq]

/-- Settles O27: the blocks restarted, and the Line Port's answer. -/
theorem lineRestart : Obligations.LineRestart := by
  intro h tag s ht
  exact ⟨lineRestartBlocks s, exec_taken_plain rfl ht rfl rfl, lineRestartBlocks_restarted s⟩

/-! ### A reset that waits for a chain (R161) -/

theorem takeRequest_awaits {r : Request} {s : State} (hr : r = .fullReset ∨ r = .lineRestart)
    (hh : s.arbiter.holder.isSome = true) (m : Moment) (tag : Nat) :
    takeRequest .line m tag r s = s.executing .line tag r := by
  have hp : permitted r .line = true := by rcases hr with rfl | rfl <;> rfl
  have ha : takesAccess r = false := by rcases hr with rfl | rfl <;> rfl
  unfold takeRequest
  rw [hp, ha]
  exact if_pos (And.intro hr hh)

theorem State.afterChain_reset {s : State} {tag : Nat} {r : Request} (hph : s.linePort.phase = .executing tag r)
    (hr : r = .fullReset ∨ r = .lineRestart) : s.afterChain =
      (workOf .line r s).2.respond .line tag (requestCode r) (workOf .line r s).1 := by
  have hm : refusedInMode s.mode r = false := by rcases hr with rfl | rfl <;> exact Bool.and_false _
  rw [State.afterChain, hph]
  exact (if_pos hr).trans (perform_done hm)

theorem endComputation_chain {s : State} {c : GradeCopy} (hg : s.grader = .computing c)
    (hc : s.arbiter.chain = true) (m : Moment) : endComputation m s =
      State.afterChain { gradingWriteBack c (computeResult c) s.closeRaises with
        arbiter := { (gradingWriteBack c (computeResult c) s.closeRaises).arbiter with
          holder := none, chain := false } } := by
  rw [endComputation, hg]
  exact if_pos hc

theorem exec_computationDone {s : State} (hr : s.resetN = true) (m : Moment) :
    exec (.computationDone m) s = .next (endComputation m s) := by
  show whenRunning s _ = _
  rw [whenRunning, if_pos hr]

theorem gradingWriteBack_resetN (c : GradeCopy) (g : Option GradeResult) (s : State) :
    (gradingWriteBack c g s).resetN = s.resetN := by
  have hdone : ∀ t : State, t.graderDone.resetN = t.resetN := fun t => by
    unfold State.graderDone
    split <;> rfl
  rw [gradingWriteBack, hdone]
  split
  · obtain ⟨it, bins, k, -, -, e⟩ := applyResult_frame c g s
    rw [e]
    rfl
  · rfl

/-- Settles O28: the reset kept in hand, and the same reset once the chain's write-back has freed the store. -/
theorem resetWaitsForChain : Obligations.ResetWaitsForChain := by
  refine ⟨fun c h r tag s hc hp hf hreset hr hi hh => ?_, fun m copy tag w v s hr hg hchain hw hv => ?_⟩
  · rw [exec_takes hc hf hr (by rw [hp]; exact hi), hp, takeRequest_awaits hreset hh]
    rfl
  · have hline : v.linePort = s.linePort := by
      rw [hv]
      exact (congrArg State.linePort hw).trans (gradingWriteBack_linePort copy _ s.closeRaises)
    have hresetN : v.resetN = true := by
      rw [hv]
      exact (congrArg State.resetN hw).trans ((gradingWriteBack_resetN copy _ s.closeRaises).trans hr)
    have hexec : exec (.computationDone m) s = .next v.afterChain := by
      rw [exec_computationDone hr, endComputation_chain hg hchain, hv, hw]
    refine ⟨fun hph => ⟨lineRestartBlocks v, ?_, lineRestartBlocks_restarted v⟩, fun hph => ?_⟩
    · rw [hexec, State.afterChain_reset (by rw [hline]; exact hph) (.inr rfl)]
      rfl
    · rw [hexec, State.afterChain_reset (by rw [hline]; exact hph) (.inl rfl)]
      show Host.Outcome.next ((fullResetBlocks v).respond .line tag 12 { code := .ok }) = _
      rw [fullResetBlocks_respond, hresetN, PortEngine.cutByReset_eq]
      rfl

/-! ### The pin (R190) -/

/-- Settles O29: both edges, and each command by whether it asks for RESET_N. -/
theorem resetPin : Obligations.ResetPin := by
  refine ⟨⟨fun s => rfl, fun s h => ?_, fun s h => ?_, fun s h => ⟨fun p => ?_, ?_⟩⟩, fun c s h hlow hhigh => ?_⟩
  · show Host.Outcome.next (resetPinHigh s) = _
    rw [resetPinHigh, h]
    rfl
  · show Host.Outcome.next (resetPinHigh s) = _
    rw [resetPinHigh, if_pos h]
  · rw [State.ready, h, Bool.false_and]
  · rw [State.transmitterEnabled, h, Bool.false_and]
  · have hwrite : ∀ p m f, writeRequest p m f s = s := fun p m f => by rw [writeRequest, h]; rfl
    have hevent : ∀ f, whenRunning s f = .next s := fun f => by rw [whenRunning, h]; rfl
    cases hc : c.request? with
    | some hr =>
      obtain ⟨hd, r⟩ := hr
      rw [exec_request hc, request, hwrite]
    | none =>
      cases c with
      | writeRequestOverrun p m mosi =>
        show execWriteRequestOverrun p m mosi s = _
        unfold execWriteRequestOverrun
        split
        · rw [hwrite]
        · exact hevent _
        · rfl
      | resetAssert => exact absurd rfl hlow
      | resetRelease => exact absurd rfl hhigh
      | strayReplyBytes b => rfl
      | readResponse p r => exact hevent _
      | storeAccessGrant => exact hevent _
      | computationDone m => exact hevent _
      | evidenceFrameTaken m => exact hevent _
      | roundTimerExpiry => exact hevent _
      | pollTransmitted => exact hevent _
      | replyReceived f => exact hevent _
      | replyTimeout => exact hevent _
      | frameIdleGap => exact hevent _
      | holdExpiry => exact hevent _
      | blinkPhaseToggle => exact hevent fun s => { s with blinkLit := !s.blinkLit }
      | replyFirstByte l => exact hevent _
      | _ => cases hc

end Sys2Proof.Machine
end

section
/-! PROOFS. COUNTERS SNAPSHOT and COUNTERS READ, COLLECT, and the fields of a report (R174 to R182). -/

namespace Sys2Proof.Machine

/-! ### Which raises a snapshot can divide (R181, log 18) -/

theorem Counters.recent_raise (k : Counters) (i j : Fin 24) (n : Nat) :
    (k.raise i n).recent[j] = if j = i then k.recent[i] + n else k.recent[j] := by
  by_cases h : j = i
  · subst h
    simp [Counters.raise]
  · have hi : ¬ (i : Nat) = j := fun e => h (Fin.ext e.symm)
    simp [Counters.raise, h, hi]

theorem State.recordOutcome_counters (s : State) (a : Nat) (good : Bool) :
    (s.recordOutcome a good).counters =
      if good then s.counters.fold else s.counters.fold.raise Counter.badReplies.index 1 := by
  unfold State.recordOutcome
  simp only [State.setStation_counters]
  cases good <;> split <;> rfl

/-- A snapshot taken while no event is in progress finds every raise made. -/
theorem State.atMoment_recent (s : State) (m : Moment) (i : Fin 24) :
    (s.atMoment .countersSnapshot m).counters.recent[i] ≤ s.counters.recent[i] := by
  cases m with
  | storeFree => exact (s.counters.recent_fold i).trans_le (Nat.zero_le _)
  | _ => exact le_rfl

theorem State.atMoment_late (s : State) (i : Fin 24) :
    (s.atMoment .countersSnapshot .storeFree).lateRaises[i] = 0 :=
  Nat.eq_zero_of_le_zero ((State.lateRaises_le _ i).trans_eq (s.counters.recent_fold i))

theorem State.snapshotValues_atMoment (s : State) (m : Moment) (i : Fin 24) :
    (s.atMoment .countersSnapshot m).snapshotValues[i] =
      min 65535 (s.counters.base[i] +
        (s.counters.recent[i] - (s.atMoment .countersSnapshot m).lateRaises[i])) := by
  cases m with
  | storeFree =>
    rw [State.snapshotValues_get, State.atMoment_late]
    show min 65535 (s.counters.fold.base[i] + (s.counters.fold.recent[i] - 0)) = _
    rw [Counters.base_fold, Counters.recent_fold, Counters.live, Config.counterMax]
    omega
  | _ => exact State.snapshotValues_get s i

/-- Settles O19: the snapshot from its two vectors, and each closing as a fold of the counters. -/
theorem countersSnapshotAndRead : Obligations.CountersSnapshotAndRead := by
  refine ⟨fun h tag s ht => ?_, fun h tag s ht => exec_taken_plain rfl ht rfl rfl, fun s d => rfl,
    fun s => ⟨fun d => s.counter_closeRaises d, s.counters.recent_fold, rfl⟩, fun p r s t hr he d => ?_,
    fun c h r s t hc hr hp he d => ?_, fun c s => rfl, fun a good d s => ?_,
    fun c h r s t hc hr hp hb he d => ?_⟩
  · obtain ⟨v, hv⟩ : ∃ v, s.atMoment .countersSnapshot h.moment = v := ⟨_, rfl⟩
    have hexec : exec (.countersSnapshot h) s = .next ((workCountersSnapshot v).2.answered .line tag
        .countersSnapshot (workCountersSnapshot v).1) := by
      rw [exec_request (c := .countersSnapshot h) rfl, request_taken ht]
      have hat : s.atWork h tag .countersSnapshot = v := hv
      rw [hat]
      rfl
    refine ⟨fun d => v.lateRaises[d], (workCountersSnapshot v).2, hexec, fun hm d => ?_, fun d =>
      ⟨?_, ?_, Counters.zero_base d, rfl⟩, ?_⟩
    · rw [← hv, hm]
      exact s.atMoment_late d
    · rw [← hv]
      exact (State.lateRaises_le _ d).trans (s.atMoment_recent h.moment d)
    · rw [← hv]
      exact s.snapshotValues_atMoment h.moment d
    · rw [← hv]
      cases h.moment <;> rfl
  · obtain ⟨count, cut⟩ := r
    rw [exec_readResponse hr] at he
    injection he with he
    rw [← he]
    exact Counters.recent_fold _ d
  · rw [exec_request hc, request, hp, writeRequest, hr] at he
    injection he with he
    rw [← he]
    exact Counters.recent_fold _ d
  · rw [State.recordOutcome_counters]
    cases good with
    | true => rw [if_pos rfl, if_neg (fun h => Bool.noConfusion h.1), Counters.recent_fold]
    | false => simp only [Bool.false_eq_true, if_false, Counters.recent_raise, Counters.recent_fold, true_and,
        Nat.zero_add]
  · rw [exec_request hc, request, hp, writeRequest_overrun (p := .sorter) hr hb] at he
    injection he with he
    rw [← he]
    show (s.counters.fold.raise Counter.portOverruns.index 1).recent[d] = _
    rw [Counters.recent_raise, Counters.recent_fold, Counters.recent_fold]

/-! ### Reports (R174) and COLLECT (R176, R24) -/

theorem State.queueReport_queues (s : State) (r : Report) : s.queueReport r =
    { s with
      urgent := if r.reason = .none then s.urgent else s.urgent ++ [r]
      routine := if r.reason = .none then s.routine ++ [r] else s.routine } := by
  unfold State.queueReport
  split <;> rfl

theorem State.serveWaitList_nil {s : State} (h : s.waitList = []) : s.serveWaitList = s := by
  rw [State.serveWaitList, h]

/-- The item at the head of the wait list has its report built and becomes FREE (R24). -/
theorem State.serveWaitList_cons {s : State} {i : Nat} {rest : List Nat} (h : s.waitList = i :: rest) :
    s.serveWaitList =
      { s with
        waitList := rest
        urgent := if (s.item i).reason = Reason.none then s.urgent
          else s.urgent ++ [Report.ofItem s.mode (s.item i)]
        routine := if (s.item i).reason = Reason.none then s.routine ++ [Report.ofItem s.mode (s.item i)]
          else s.routine }.setItem i Item.empty := by
  rw [State.serveWaitList, h]
  simp only [State.queueReport_queues]
  rfl

theorem workCollect_empty {s : State} (hu : s.urgent = []) (hr : s.routine = []) :
    workCollect s = ({ code := .empty, results := .queueLengths 0 0 128 s.waitList.length }, s) := by
  rw [workCollect, hu, hr]
  simp only [State.freeRecords, hu, hr]
  rfl

/-- What COLLECT answers of a report taken, with the queues after it. -/
def State.collected (s : State) (isUrgent : Bool) (r : Report) : Answer :=
  { code := .ok,
    results := .report isUrgent r s.urgent.length s.routine.length
      (128 - (s.urgent.length + s.routine.length)) s.waitList.length }

theorem workCollect_urgent {s : State} {r : Report} {rest : List Report} (hu : s.urgent = r :: rest) :
    workCollect s =
      ({ s with urgent := rest }.serveWaitList.collected true r, { s with urgent := rest }.serveWaitList) := by
  rw [workCollect, hu]
  rfl

theorem workCollect_routine {s : State} {r : Report} {rest : List Report} (hu : s.urgent = [])
    (hr : s.routine = r :: rest) :
    workCollect s =
      ({ s with urgent := [], routine := rest }.serveWaitList.collected false r,
        { s with urgent := [], routine := rest }.serveWaitList) := by
  have hs : { s with routine := rest } = { s with urgent := [], routine := rest } := by rw [← hu]
  rw [← hs, workCollect, hu, hr]
  rfl

/-- Serving the wait list reads neither the ports, the arbiter nor the counters. -/
theorem State.serveWaitList_access (s : State) (l : PortEngine) (b : Arbiter) (k : Counters) :
    { s with linePort := l, arbiter := b, counters := k }.serveWaitList =
      { s.serveWaitList with linePort := l, arbiter := b, counters := k } := by
  have hcases : s.waitList = [] ∨ ∃ i rest, s.waitList = i :: rest := by cases s.waitList <;> simp
  rcases hcases with h | ⟨i, rest, h⟩
  · rw [State.serveWaitList_nil h, State.serveWaitList_nil
        (s := { s with linePort := l, arbiter := b, counters := k }) h]
  · rw [State.serveWaitList_cons h,
      State.serveWaitList_cons (s := { s with linePort := l, arbiter := b, counters := k }) h]
    rfl

/-- The state COLLECT leaves of `s` with the queues `u` and `r`, one record freed. -/
def State.collectedFrom (s : State) (u r : List Report) : State := { s with urgent := u, routine := r }.serveWaitList

theorem exec_collect {h : Header} {tag : Nat} {s : State} {r : Report} {isUrgent : Bool} {u₀ r₀ : List Report}
    (ht : Taken h .line tag .collect s)
    (hq : (isUrgent = true ∧ s.urgent = r :: u₀ ∧ s.routine = r₀) ∨
      (isUrgent = false ∧ s.urgent = [] ∧ u₀ = [] ∧ s.routine = r :: r₀)) :
    exec (.collect h) s = .next ((s.collectedFrom u₀ r₀).answered .line tag .collect
      ((s.collectedFrom u₀ r₀).collected isUrgent r)) := by
  have hkeep : s.collectedFrom u₀ r₀ = { s.collectedFrom u₀ r₀ with
      linePort := s.linePort, arbiter := s.arbiter, counters := s.counters } :=
    State.serveWaitList_access { s with urgent := u₀, routine := r₀ } s.linePort s.arbiter s.counters
  rw [hkeep]
  refine exec_taken_access rfl ht rfl fun l b k => ?_
  have hmoves := State.serveWaitList_access { s with urgent := u₀, routine := r₀ } l b k
  rcases hq with ⟨rfl, hu, rfl⟩ | ⟨rfl, hu, rfl, hr⟩
  · refine (workCollect_urgent (s := { s with linePort := l, arbiter := b, counters := k }) hu).trans ?_
    exact congrArg (fun t : State => (t.collected true r, t)) hmoves
  · refine (workCollect_routine (s := { s with linePort := l, arbiter := b, counters := k }) hu hr).trans ?_
    exact congrArg (fun t : State => (t.collected false r, t)) hmoves

/-- Settles O22: the fields from the record's own, and each queue in turn. -/
theorem collect : Obligations.Collect := by
  refine ⟨fun mode it r hr => ?_, fun h tag s ht => ⟨fun hu hr => ?_, fun r isUrgent u₀ r₀ hq => ?_⟩⟩
  · subst hr
    refine ⟨rfl, rfl, rfl, rfl, fun d hd => ?_, rfl, rfl, rfl, rfl, fun he => ?_, fun e he => ?_, rfl, fun hc => ?_,
      fun c hc => ?_, rfl, rfl, rfl, rfl, by simp [Report.ofItem], rfl, rfl⟩
    all_goals simp only [Report.ofItem]
    · rw [hd]; rfl
    · rw [he]; rfl
    · rw [he]; rfl
    · rw [hc]; rfl
    · rw [hc]; rfl
  · exact exec_taken_access (u := s) rfl ht rfl fun l b k =>
      workCollect_empty (s := { s with linePort := l, arbiter := b, counters := k }) hu hr
  · refine ⟨s.collectedFrom u₀ r₀, exec_collect ht hq, fun hw => ?_, fun i rest hw => ?_⟩
    · exact State.serveWaitList_nil (s := { s with urgent := u₀, routine := r₀ }) hw
    · have hserve : s.collectedFrom u₀ r₀ = _ :=
        State.serveWaitList_cons (s := { s with urgent := u₀, routine := r₀ }) hw
      have hitem : ∀ j, (s.collectedFrom u₀ r₀).item j = if j = i then Item.empty else s.item j := fun j => by
        rw [hserve, State.item_setItem]
        rfl
      refine ⟨?_, ?_, ?_, ?_, fun j hj => ?_, ?_⟩
      · rw [hserve]; rfl
      · rw [hserve]; rfl
      · rw [hserve]; rfl
      · rw [hitem, if_pos rfl]
      · rw [hitem, if_neg hj]
      · rw [hserve]; rfl

end Sys2Proof.Machine
end

section
/-! PROOFS. The operand forms, and the requests over the Manifest Directory, the Class Table and the line
settings (R28 to R43). -/

namespace Sys2Proof.Machine

/-! ### Operand forms (R196) -/

theorem inRange_iff {lo hi n : Nat} : inRange lo hi n = true ↔ lo ≤ n ∧ n ≤ hi := by simp [inRange]

theorem readYesNo_eq_some_iff {n : Nat} {b : Bool} : readYesNo n = some b ↔ n = yesNoCode b := by
  match n with
  | 0 => cases b <;> simp [readYesNo, yesNoCode]
  | 1 => cases b <;> simp [readYesNo, yesNoCode]
  | n + 2 => cases b <;> simp [readYesNo, yesNoCode]

theorem readYesNo_of_le {n : Nat} (h : n ≤ 1) : readYesNo n = some (decide (n = 0)) := by
  rw [readYesNo_eq_some_iff, yesNoCode]
  by_cases h0 : n = 0
  · rw [decide_eq_true h0, if_pos rfl, h0]
  · rw [decide_eq_false h0, if_neg Bool.false_ne_true]
    omega

theorem readYesNo_of_gt {n : Nat} (h : 1 < n) : readYesNo n = none := by
  cases hb : readYesNo n with
  | none => rfl
  | some b =>
    rw [readYesNo_eq_some_iff] at hb
    cases b <;> simp [yesNoCode] at hb <;> omega

theorem readOptional_any (hi : Nat) : readOptional hi 255 = some none := if_pos rfl

theorem readOptional_of_le {hi n : Nat} (h : n ≤ hi) (hne : n ≠ 255) : readOptional hi n = some (some n) := by
  rw [readOptional, if_neg hne, if_pos h]

theorem readOptional_of_gt {hi n : Nat} (h : hi < n) (hne : n ≠ 255) : readOptional hi n = none := by
  rw [readOptional, if_neg hne, if_neg (Nat.not_le.2 h)]

/-- A disposition operand names a disposition up to 5 and none past it. -/
theorem readDisposition_cases (n : Nat) :
    (∃ d, readDisposition n = some d ∧ dispositionCode d = n ∧ n ≤ 5) ∨ (readDisposition n = none ∧ 5 < n) := by
  match n with
  | 0 | 1 | 2 | 3 | 4 | 5 => exact .inl ⟨_, rfl, rfl, by decide⟩
  | n + 6 => exact .inr ⟨rfl, by omega⟩

/-! ### Manifests (R29 to R31) -/

theorem readManifest_range {o : ManifestOperands}
    (h : o.label = 0 ∨ 2 ^ 48 ≤ o.label ∨ 63 < o.cls ∨ o.nominal = 0 ∨ 20000 < o.nominal ∨ 7 < o.band ∨
      1 < o.hygiene ∨ o.expected = 0 ∨ 15 < o.expected) : readManifest o = none := by
  unfold readManifest
  by_cases hh : o.hygiene ≤ 1
  · rw [readYesNo_of_le hh]
    refine if_neg ?_
    simp only [Bool.and_eq_true, inRange_iff, decide_eq_true_eq]
    omega
  · rw [readYesNo_of_gt (by omega)]

theorem readManifest_fields {o : ManifestOperands} (h1 : 1 ≤ o.label) (h2 : o.label < 2 ^ 48) (h3 : o.cls ≤ 63)
    (h4 : 1 ≤ o.nominal) (h5 : o.nominal ≤ 20000) (h6 : o.band ≤ 7) (h7 : o.hygiene ≤ 1) (h8 : 1 ≤ o.expected)
    (h9 : o.expected ≤ 15) :
    readManifest o = some { cls := o.cls, nominal := o.nominal, band := o.band, hygiene := decide (o.hygiene = 0),
                            expected := o.expected, received := 0 } := by
  unfold readManifest
  rw [readYesNo_of_le h7]
  refine if_pos ?_
  simp only [Bool.and_eq_true, inRange_iff, decide_eq_true_eq]
  omega

/-- A request refused in an access changes nothing: its work answers of any state that differs from `s` in
what the grant itself moves. -/
theorem exec_taken_refused {c : Instr} {h : Header} {tag : Nat} {r : Request} {s : State} {a : Answer}
    (hc : c.request? = some (h, r)) (ht : Taken h .line tag r s) (hacc : takesAccess r = true)
    (hwork : ∀ (l : PortEngine) (b : Arbiter) (k : Counters),
      workOf .line r { s with linePort := l, arbiter := b, counters := k } =
        (a, { s with linePort := l, arbiter := b, counters := k })) :
    exec c s = .next (s.answered .line tag r a) := exec_taken_access hc ht hacc hwork

theorem workManifestPost_range {o : ManifestOperands} {s : State} (h : readManifest o = none) :
    workManifestPost o s = ({ code := .range, results := .posted none s.manifests.length }, s) := by
  rw [workManifestPost, h]
  rfl

theorem workManifestPost_inUse {o : ManifestOperands} {s : State} {m old : Manifest}
    (h : readManifest o = some m) (hold : s.manifest o.label = some old) (hr : 1 ≤ old.received) :
    workManifestPost o s = ({ code := .inUse, results := .posted none s.manifests.length }, s) := by
  rw [workManifestPost, h, hold]
  exact if_pos hr

theorem workManifestPost_full {o : ManifestOperands} {s : State} {m : Manifest}
    (h : readManifest o = some m) (hold : s.manifest o.label = none) (hf : 4096 ≤ s.manifests.length) :
    workManifestPost o s = ({ code := .full, results := .posted none s.manifests.length }, s) := by
  rw [workManifestPost, h, hold]
  exact if_pos hf

theorem workManifestPost_posts {o : ManifestOperands} {s : State} {m : Manifest}
    (h : readManifest o = some m) (hu : ∀ old, s.manifest o.label = some old → old.received = 0)
    (hf : s.manifest o.label = none → s.manifests.length < 4096) :
    workManifestPost o s =
      ({ code := .ok,
         results := .posted (some (if (s.manifest o.label).isSome then .replaced else .inserted))
           (s.setManifest o.label m).manifests.length }, s.setManifest o.label m) := by
  cases hold : s.manifest o.label with
  | none =>
    rw [workManifestPost, h, hold]
    exact if_neg (Nat.not_le.2 (hf hold))
  | some old =>
    rw [workManifestPost, h, hold]
    exact if_neg (Nat.not_lt.2 (hu old hold).le)

theorem length_tinsert {α : Type} (t : Table α) (k : Nat) (v : α) : (tinsert t k v).length = t.length + 1 := by
  induction t with
  | nil => rfl
  | cons e t ih =>
    unfold tinsert
    split
    · rfl
    · rw [List.length_cons, ih]; rfl

theorem terase_of_lt {α : Type} {t : Table α} {k : Nat} (h : ∀ e ∈ t, k < e.1) :
    terase t k = t ∧ tfind t k = none := by
  induction t with
  | nil => exact ⟨rfl, rfl⟩
  | cons e t ih =>
    obtain ⟨j, v⟩ := e
    have hj : j ≠ k := (h (j, v) (List.mem_cons_self ..)).ne'
    obtain ⟨he, hf⟩ := ih fun e he => h e (List.mem_cons_of_mem _ he)
    rw [terase, tfind, if_neg hj, if_neg hj, he, hf]
    exact ⟨rfl, rfl⟩

/-- In a table in order each number stands once. -/
theorem length_terase {α : Type} {t : Table α} (hs : tsorted t) (k : Nat) :
    (terase t k).length + (if (tfind t k).isSome then 1 else 0) = t.length := by
  induction t with
  | nil => rfl
  | cons e t ih =>
    obtain ⟨j, v⟩ := e
    obtain ⟨hlt, hs⟩ := List.pairwise_cons.1 hs
    rw [terase, tfind]
    by_cases hj : j = k
    · subst hj
      rw [if_pos rfl, if_pos rfl, (terase_of_lt fun e he => hlt e.1 (List.mem_map_of_mem he)).1]
      rfl
    · rw [if_neg hj, if_neg hj, List.length_cons, List.length_cons, ← ih hs]
      omega

theorem length_tset {α : Type} {t : Table α} (hs : tsorted t) (k : Nat) (v : α) :
    (tset t k v).length = t.length + if (tfind t k).isSome then 0 else 1 := by
  have := length_terase hs k
  rw [tset, length_tinsert]
  split <;> simp_all

/-- Settles O30: the checks in their order, then the entry written. -/
theorem manifestPost : Obligations.ManifestPost := by
  intro h tag o s ht
  refine ⟨fun hr => ?_, fun h1 h2 h3 h4 h5 h6 h7 h8 h9 => ?_⟩
  · exact exec_taken_refused rfl ht rfl fun l b k =>
      workManifestPost_range (s := { s with linePort := l, arbiter := b, counters := k }) (readManifest_range hr)
  have hm := readManifest_fields h1 h2 h3 h4 h5 h6 h7 h8 h9
  refine ⟨fun old hold hr => ?_, fun hold hf => ?_, fun hu hf => ?_⟩
  · exact exec_taken_refused rfl ht rfl fun l b k =>
      workManifestPost_inUse (s := { s with linePort := l, arbiter := b, counters := k }) hm hold hr
  · exact exec_taken_refused rfl ht rfl fun l b k =>
      workManifestPost_full (s := { s with linePort := l, arbiter := b, counters := k }) hm hold hf
  · refine ⟨s.setManifest o.label _, exec_taken_access (u := s.setManifest o.label _) rfl ht rfl fun l b k =>
      workManifestPost_posts (s := { s with linePort := l, arbiter := b, counters := k }) hm hu hf,
      ?_, fun l hl => ?_, fun hs => length_tset hs _ _, rfl⟩
    · rw [State.manifest_setManifest, if_pos rfl]
    · rw [State.manifest_setManifest, if_neg hl]

theorem workManifestWithdraw_notFound {label : Nat} {s : State} (h0 : label ≠ 0) (h : s.manifest label = none) :
    workManifestWithdraw label s = ({ code := .notFound }, s) := by
  rw [workManifestWithdraw, if_neg h0, h]

theorem workManifestWithdraw_found {label : Nat} {s : State} {m : Manifest} (h0 : label ≠ 0)
    (h : s.manifest label = some m) : workManifestWithdraw label s =
      ({ code := .ok, results := .withdrawn m.expected m.received (s.removeManifest label).manifests.length },
        s.removeManifest label) := by
  rw [workManifestWithdraw, if_neg h0, h]
  rfl

theorem workManifestRead_notFound {label : Nat} {s : State} (h0 : label ≠ 0) (h : s.manifest label = none) :
    workManifestRead label s = ({ code := .notFound }, s) := by
  rw [workManifestRead, if_neg h0, h]

theorem workManifestRead_found {label : Nat} {s : State} {m : Manifest} (h0 : label ≠ 0)
    (h : s.manifest label = some m) :
    workManifestRead label s = ({ code := .ok, results := .manifest label m }, s) := by
  rw [workManifestRead, if_neg h0, h]

/-- Settles O31: label 0, an absent label and an entry found, for each of the two requests. -/
theorem manifestWithdrawAndRead : Obligations.ManifestWithdrawAndRead := by
  refine ⟨fun h tag label s ht => ⟨fun h0 => ?_, fun h0 hm => ?_, fun m h0 hm => ?_⟩,
    fun h tag label s ht => ⟨fun h0 => ?_, fun h0 hm => ?_, fun m h0 hm => ?_⟩⟩
  · exact exec_taken_refused rfl ht rfl fun l b k => if_pos h0
  · exact exec_taken_refused rfl ht rfl fun l b k =>
      workManifestWithdraw_notFound (s := { s with linePort := l, arbiter := b, counters := k }) h0 hm
  · refine ⟨s.removeManifest label, exec_taken_access (u := s.removeManifest label) rfl ht rfl fun l b k =>
      workManifestWithdraw_found (s := { s with linePort := l, arbiter := b, counters := k }) h0 hm,
      ?_, fun l hl => ?_, rfl⟩
    · rw [State.manifest_removeManifest, if_pos rfl]
    · rw [State.manifest_removeManifest, if_neg hl]
  · exact exec_taken_refused rfl ht rfl fun l b k => if_pos h0
  · exact exec_taken_refused rfl ht rfl fun l b k =>
      workManifestRead_notFound (s := { s with linePort := l, arbiter := b, counters := k }) h0 hm
  · exact exec_taken_refused rfl ht rfl fun l b k =>
      workManifestRead_found (s := { s with linePort := l, arbiter := b, counters := k }) h0 hm

/-! ### Classes (R35 to R39) -/

/-- Every field of a class record in its range (R35). -/
def ClassInRange (o : ClassOperands) : Prop :=
  o.required < 16 ∧ o.tolPermille ≤ 500 ∧ o.tolFloor ≤ 255 ∧ o.kw ≤ 255 ∧ o.wCap ≤ 1000 ∧
  2 ≤ o.grossFactor ∧ o.grossFactor ≤ 15 ∧ o.skip ≤ 63 ∧ o.shadow ≤ 15 ∧ 1 ≤ o.threshold ∧
  o.threshold ≤ 127 ∧ o.kDark ≤ 15 ∧ o.kLight ≤ 15 ∧ o.kx ≤ 63 ∧ o.sCap ≤ 1000 ∧
  o.uFree ≤ 255 ∧ o.ku ≤ 63 ∧ o.pPill ≤ 255 ∧ o.uCap ≤ 1000 ∧ o.ptDet ≤ 1000 ∧
  o.ptAbs ≤ 1000 ∧ o.limA ≤ 1000 ∧ o.limB ≤ 1000 ∧ o.limC ≤ 1000 ∧ o.mapA ≤ 5 ∧ o.mapB ≤ 5 ∧
  o.mapC ≤ 5 ∧ o.mapD ≤ 5 ∧ o.highBand ≤ 8 ∧ o.prefs.count ≤ 4 ∧ ∀ z ∈ o.prefs.elems, z ≤ 31

theorem readDisposition_le {n : Nat} {d : Disposition} (h : readDisposition n = some d) :
    dispositionCode d = n ∧ n ≤ 5 := by
  obtain ⟨d', hd, hcode, hle⟩ | ⟨hno, -⟩ := readDisposition_cases n
  · obtain rfl : d' = d := Option.some.inj (hd.symm.trans h)
    exact ⟨hcode, hle⟩
  · cases hno.symm.trans h

theorem readDisposition_of_le {n : Nat} (h : n ≤ 5) : ∃ d, readDisposition n = some d := by
  obtain ⟨d, hd, -, -⟩ | ⟨-, hgt⟩ := readDisposition_cases n
  · exact ⟨d, hd⟩
  · omega

theorem readClassRecord_inRange {o : ClassOperands} {r : ClassRecord} (h : readClassRecord o = some r) :
    ClassInRange o := by
  unfold readClassRecord at h
  split at h
  next hc =>
    split at h
    next a b c d ha hb hcc hd =>
      simp only [inRange_iff, List.all_eq_true, decide_eq_true_eq, and_assoc] at hc
      have hA := (readDisposition_le ha).2
      have hB := (readDisposition_le hb).2
      have hC := (readDisposition_le hcc).2
      have hD := (readDisposition_le hd).2
      unfold ClassInRange
      tauto
    next => cases h
  next => cases h

theorem readClassRecord_isSome_iff (o : ClassOperands) : (readClassRecord o).isSome = true ↔ ClassInRange o := by
  refine ⟨fun h => readClassRecord_inRange (Option.some_get h).symm, fun h => ?_⟩
  have hmaps : o.mapA ≤ 5 ∧ o.mapB ≤ 5 ∧ o.mapC ≤ 5 ∧ o.mapD ≤ 5 := by
    unfold ClassInRange at h
    tauto
  obtain ⟨hA, hB, hC, hD⟩ := hmaps
  obtain ⟨a, ha⟩ := readDisposition_of_le hA
  obtain ⟨b, hb⟩ := readDisposition_of_le hB
  obtain ⟨c, hc⟩ := readDisposition_of_le hC
  obtain ⟨d, hd⟩ := readDisposition_of_le hD
  rw [readClassRecord, ha, hb, hc, hd, if_pos]
  · rfl
  · simp only [inRange_iff, List.all_eq_true, decide_eq_true_eq, and_assoc]
    unfold ClassInRange at h
    tauto

/-- The fields of the record read are the operands (R35). -/
theorem readClassRecord_fields {o : ClassOperands} {r : ClassRecord} (h : readClassRecord o = some r) :
    r.required = BitVec.ofNat 4 o.required ∧ r.tolPermille = o.tolPermille ∧
    r.tolFloor = o.tolFloor ∧ r.kw = o.kw ∧ r.wCap = o.wCap ∧ r.grossFactor = o.grossFactor ∧
    r.skip = o.skip ∧ r.shadow = o.shadow ∧ r.threshold = o.threshold ∧ r.kDark = o.kDark ∧
    r.kLight = o.kLight ∧ r.kx = o.kx ∧ r.sCap = o.sCap ∧ r.uFree = o.uFree ∧ r.ku = o.ku ∧
    r.pPill = o.pPill ∧ r.uCap = o.uCap ∧ r.ptDet = o.ptDet ∧ r.ptAbs = o.ptAbs ∧
    r.limA = o.limA ∧ r.limB = o.limB ∧ r.limC = o.limC ∧ dispositionCode r.mapA = o.mapA ∧
    dispositionCode r.mapB = o.mapB ∧ dispositionCode r.mapC = o.mapC ∧
    dispositionCode r.mapD = o.mapD ∧ r.highBand = o.highBand ∧ r.prefs = o.prefs.elems := by
  unfold readClassRecord at h
  split at h
  · split at h
    next a b c d ha hb hcc hd =>
      cases h
      simp only [true_and, (readDisposition_le ha).1, (readDisposition_le hb).1, (readDisposition_le hcc).1,
        (readDisposition_le hd).1]
    next => cases h
  · cases h

theorem workClassWrite_range {k : Nat} {o : ClassOperands} {s : State} (h : 63 < k ∨ readClassRecord o = none) :
    workClassWrite k o s = ({ code := .range }, s) := by
  unfold workClassWrite
  split
  · rfl
  next hk => rw [h.resolve_left hk]

theorem workClassWrite_inRange {k : Nat} {o : ClassOperands} {s : State} {r : ClassRecord} (hk : k ≤ 63)
    (h : readClassRecord o = some r) : workClassWrite k o s =
      if limitsInOrder r then ({ code := .ok }, s.setClass k r) else ({ code := .order }, s) := by
  rw [workClassWrite, if_neg (Nat.not_lt.2 hk), h]

theorem limitsInOrder_iff {r : ClassRecord} : limitsInOrder r = true ↔ r.limA ≤ r.limB ∧ r.limB ≤ r.limC := by
  simp [limitsInOrder]

/-- Settles O32: the three outcomes of CLASS WRITE, the record read, and the two of CLASS CLEAR. -/
theorem classWriteAndClear : Obligations.ClassWriteAndClear := by
  refine ⟨fun h tag k o s ht => ⟨fun hr => ?_, fun r hk hr => ⟨fun ho => ?_, fun ha hb => ?_⟩⟩,
    fun o => ⟨readClassRecord_isSome_iff o, fun r => readClassRecord_fields⟩,
    fun h tag k s ht => ⟨fun hk => ?_, fun hk => ?_⟩⟩
  · exact exec_taken_refused rfl ht rfl fun l b k => workClassWrite_range hr
  · exact exec_taken_refused rfl ht rfl fun l b c =>
      (workClassWrite_inRange hk hr).trans (if_neg (by rw [limitsInOrder_iff]; omega))
  · refine ⟨s.setClass k r, exec_taken_access (u := s.setClass k r) rfl ht rfl fun l b c =>
      (workClassWrite_inRange hk hr).trans (if_pos (limitsInOrder_iff.2 ⟨ha, hb⟩)), ?_, ?_, fun j hj => ⟨?_, ?_⟩, rfl⟩
    · rw [State.classValid_setClass, decide_eq_true rfl, Bool.true_or]
    · rw [State.classRecord_setClass, if_pos rfl]
    · rw [State.classValid_setClass, decide_eq_false hj, Bool.false_or]
    · rw [State.classRecord_setClass, if_neg hj]
  · exact exec_taken_refused rfl ht rfl fun l b c => if_pos hk
  · refine ⟨s.clearClass k, exec_taken_access (u := s.clearClass k) rfl ht rfl fun l b c =>
      if_neg (Nat.not_lt.2 hk), ?_, ?_, fun j hj => ⟨?_, ?_⟩, rfl⟩
    · rw [State.classValid_clearClass, decide_eq_true rfl]; rfl
    · rw [State.classRecord_clearClass, if_pos rfl]
    · rw [State.classValid_clearClass, decide_eq_false hj]; rfl
    · rw [State.classRecord_clearClass, if_neg hj]

/-! ### Line settings (R42, R43) -/

theorem readLineSettings_range {o : LineOperands}
    (h : o.maxLaps = 0 ∨ 8 < o.maxLaps ∨ o.divertTries = 0 ∨ 7 < o.divertTries ∨
      63 < o.fallbackClass ∨ (31 < o.overflowZone ∧ o.overflowZone ≠ 255) ∨
      47 < o.reviewChute ∨ 47 < o.refurbishChute ∨ 47 < o.outletChute ∨ 47 < o.recycleChute) :
    readLineSettings o = none := by
  unfold readLineSettings
  split
  · rfl
  next zone hz =>
    refine if_neg fun hc => ?_
    simp only [Bool.and_eq_true, inRange_iff, decide_eq_true_eq] at hc
    have hzone : ¬ (31 < o.overflowZone ∧ o.overflowZone ≠ 255) := fun ⟨h1, h2⟩ => by
      rw [readOptional_of_gt h1 h2] at hz
      cases hz
    omega

theorem readLineSettings_fields {o : LineOperands} (h1 : 1 ≤ o.maxLaps) (h2 : o.maxLaps ≤ 8)
    (h3 : 1 ≤ o.divertTries) (h4 : o.divertTries ≤ 7) (h5 : o.fallbackClass ≤ 63)
    (h6 : o.overflowZone ≤ 31 ∨ o.overflowZone = 255) (h7 : o.reviewChute ≤ 47) (h8 : o.refurbishChute ≤ 47)
    (h9 : o.outletChute ≤ 47) (h10 : o.recycleChute ≤ 47) :
    readLineSettings o = some
      { maxLaps := o.maxLaps, divertTries := o.divertTries, fallbackClass := o.fallbackClass,
        overflowZone := if o.overflowZone = 255 then none else some o.overflowZone,
        reviewChute := o.reviewChute, refurbishChute := o.refurbishChute,
        outletChute := o.outletChute, recycleChute := o.recycleChute } := by
  have hzone : readOptional 31 o.overflowZone =
      some (if o.overflowZone = 255 then none else some o.overflowZone) := by
    unfold readOptional
    split
    · rfl
    next hne => exact if_pos (h6.resolve_right hne)
  rw [readLineSettings, hzone]
  refine if_pos ?_
  simp only [Bool.and_eq_true, inRange_iff, decide_eq_true_eq]
  omega

theorem workLineSet_mode {o : LineOperands} {s : State} (h : s.mode ≠ .configure) :
    workLineSet o s = ({ code := .mode, results := .line s.line }, s) := if_neg h

theorem workLineSet_range {o : LineOperands} {s : State} (h : s.mode = .configure)
    (hr : readLineSettings o = none) : workLineSet o s = ({ code := .range, results := .line s.line }, s) := by
  rw [workLineSet, if_pos h, hr]

theorem workLineSet_sets {o : LineOperands} {s : State} {l : LineSettings} (h : s.mode = .configure)
    (hr : readLineSettings o = some l) :
    workLineSet o s = ({ code := .ok, results := .line l }, { s with line := l }) := by
  rw [workLineSet, if_pos h, hr]

/-- Settles O34: the mode before the fields, and the settings as the operands. -/
theorem lineSet : Obligations.LineSet := by
  refine fun h tag o s ht => ⟨fun hm => ?_, fun hm hr => ?_, fun hm h1 h2 h3 h4 h5 h6 h7 h8 h9 h10 => ?_⟩
  · exact exec_taken_refused rfl ht rfl fun l b k =>
      workLineSet_mode (s := { s with linePort := l, arbiter := b, counters := k }) hm
  · exact exec_taken_refused rfl ht rfl fun l b k =>
      workLineSet_range (s := { s with linePort := l, arbiter := b, counters := k }) hm (readLineSettings_range hr)
  · exact ⟨_, rfl, exec_taken_access (u := { s with line := _ }) rfl ht rfl fun l b k =>
      workLineSet_sets (s := { s with linePort := l, arbiter := b, counters := k }) hm
        (readLineSettings_fields h1 h2 h3 h4 h5 h6 h7 h8 h9 h10)⟩

end Sys2Proof.Machine
end

section
/-! PROOFS. The zone and bin requests and the allocation search (R127 to R147). -/

namespace Sys2Proof.Machine

/-! ### ZONE SET (R128) -/

theorem State.binsNaming_eq (s : State) (z : Nat) :
    s.binsNaming z = (List.range 1024).countP fun b => decide ((s.bin b).zone = z) := by
  unfold State.binsNaming tcount
  exact List.countP_congr fun b _ => by rw [beq_iff_eq, decide_eq_true_eq]; rfl

theorem workZoneSet_range {z chute k : Nat} {s : State} (hz : z ≤ 31)
    (h : k = 1 ∨ 3 ≤ k ∨ 47 < chute ∨ (k = 0 ∧ chute = 0)) :
    workZoneSet z chute k s = ({ code := .range, results := s.zoneResults z }, s) := by
  rw [workZoneSet, if_neg (Nat.not_lt.2 hz)]
  match k with
  | 0 => exact if_neg (by rw [inRange_iff]; omega)
  | 1 => rfl
  | 2 => exact if_neg (by omega)
  | k + 3 => rfl

theorem workZoneSet_sets {z chute k : Nat} {st : ZoneState} {s : State} (hz : z ≤ 31) (hc : chute ≤ 47)
    (h : (k = 0 ∧ st = .opened ∧ 1 ≤ chute) ∨ (k = 2 ∧ st = .closed)) :
    workZoneSet z chute k s =
      ({ code := .ok, results := (s.setZone z { chute := chute, state := st }).zoneResults z },
        s.setZone z { chute := chute, state := st }) := by
  rw [workZoneSet, if_neg (Nat.not_lt.2 hz)]
  rcases h with ⟨rfl, rfl, h1⟩ | ⟨rfl, rfl⟩
  · exact if_pos (inRange_iff.2 ⟨h1, hc⟩)
  · exact if_pos hc

/-- Settles O35: the zone out of range, the fields out of range, and the zone replaced. -/
theorem zoneSet : Obligations.ZoneSet := by
  refine fun h tag z chute k s ht => ⟨fun hz => ?_, fun hz hr => ?_, fun st hz hc hk => ?_⟩
  · exact exec_taken_refused rfl ht rfl fun l b k => if_pos hz
  · rw [← s.binsNaming_eq z]
    exact exec_taken_refused rfl ht rfl fun l b k => workZoneSet_range hz hr
  · have hset : (s.setZone z { chute := chute, state := st }).zoneResults z =
        .zone { chute := chute, state := st } (s.binsNaming z) := by
      rw [State.zoneResults, State.zone_setZone, if_pos rfl]
      rfl
    refine ⟨s.setZone z { chute := chute, state := st }, ?_, ?_, fun y hy => ?_, rfl⟩
    · rw [← s.binsNaming_eq z, ← hset]
      exact exec_taken_access (u := s.setZone z { chute := chute, state := st }) rfl ht rfl fun l b k =>
        workZoneSet_sets hz hc hk
    · rw [State.zone_setZone, if_pos rfl]
    · rw [State.zone_setZone, if_neg hy]

/-! ### SLOT SET (R142 to R144) -/

theorem readLane_code (l : Lane) : readLane (laneCode l) = some l := by cases l <;> rfl

theorem readLane_none {n : Nat} (h : 1 < n) : readLane n = none := by
  obtain ⟨m, rfl⟩ := Nat.exists_eq_add_of_le' h
  rfl

theorem readSlotSettings_range {o : SlotOperands}
    (h : 31 < o.zone ∨ 1 < o.lane ∨ 255 < o.capacity ∨ (63 < o.affinity ∧ o.affinity ≠ 255) ∨ 1 < o.enabled) :
    readSlotSettings o = none := by
  unfold readSlotSettings
  split
  next lane affinity enabled hl ha he =>
    refine if_neg fun hc => ?_
    rcases h with h | h | h | ⟨h1, h2⟩ | h
    · omega
    · rw [readLane_none h] at hl; cases hl
    · omega
    · rw [readOptional_of_gt h1 h2] at ha; cases ha
    · rw [readYesNo_of_gt h] at he; cases he
  next => rfl

theorem readSlotSettings_fields {o : SlotOperands} {lane : Lane} {affinity : Option Nat} {enabled : Bool}
    (hz : o.zone ≤ 31) (hc : o.capacity ≤ 255) (hl : o.lane = laneCode lane)
    (ha : (affinity = none ∧ o.affinity = 255) ∨ (affinity = some o.affinity ∧ o.affinity ≤ 63))
    (he : o.enabled = yesNoCode enabled) : readSlotSettings o =
      some { zone := o.zone, lane := lane, capacity := o.capacity, affinity := affinity, enabled := enabled } := by
  have haff : readOptional 63 o.affinity = some affinity := by
    rcases ha with ⟨rfl, h⟩ | ⟨rfl, h⟩
    · rw [h, readOptional_any]
    · exact readOptional_of_le h (by omega)
  rw [readSlotSettings, hl, readLane_code, haff, readYesNo_eq_some_iff.2 he]
  exact if_pos ⟨hz, hc⟩

/-- The occupancy checks of SLOT SET (R143, R144). -/
theorem Bin.settingsRefused_iff (m : Mode) (b : Bin) (n : SlotSettings) : b.settingsRefused m n = true ↔
    n.capacity < b.committed + b.reserved ∨
      (m ≠ .configure ∧
        (((n.zone ≠ b.zone ∨ n.lane ≠ b.lane ∨ n.affinity ≠ b.affinity) ∧ 0 < b.committed + b.reserved) ∨
          (n.enabled = false ∧ 0 < b.reserved))) := by
  have hempty : b.isEmpty = false ↔ 0 < b.committed + b.reserved := by
    rw [← Bool.not_eq_true, Bin.isEmpty_iff]
    omega
  have hother : m ≠ .configure → b.settingsRefused m n =
      (((n.zone != b.zone || n.lane != b.lane || n.affinity != b.affinity) && !b.isEmpty)
        || decide (n.capacity < b.committed + b.reserved)
        || (!n.enabled && decide (0 < b.reserved))) := by
    cases m with
    | configure => exact fun h => absurd rfl h
    | _ => exact fun _ => rfl
  by_cases hm : m = .configure
  · subst hm
    simp [Bin.settingsRefused]
  · rw [hother hm]
    simp only [Bool.or_eq_true, Bool.and_eq_true, bne_iff_ne, Bool.not_eq_true', decide_eq_true_eq, hempty, ne_eq,
      hm, not_false_eq_true, true_and, or_assoc]
    tauto

theorem workSlotSet_range {b : Nat} {o : SlotOperands} {s : State} (hb : b ≤ 1023)
    (h : readSlotSettings o = none) :
    workSlotSet b o s = ({ code := .range, results := s.slotResults b none }, s) := by
  rw [workSlotSet, if_neg (Nat.not_lt.2 hb), h]

theorem workSlotSet_occupied {b : Nat} {o : SlotOperands} {n : SlotSettings} {s : State} (hb : b ≤ 1023)
    (h : readSlotSettings o = some n) (hr : (s.bin b).settingsRefused s.mode n = true) :
    workSlotSet b o s = ({ code := .occupied, results := s.slotResults b none }, s) := by
  rw [workSlotSet, if_neg (Nat.not_lt.2 hb), h]
  exact if_pos hr

theorem workSlotSet_sets {b : Nat} {o : SlotOperands} {n : SlotSettings} {s : State} (hb : b ≤ 1023)
    (h : readSlotSettings o = some n) (hr : ¬ (s.bin b).settingsRefused s.mode n = true) :
    workSlotSet b o s =
      ({ code := .ok, results := (s.setBin b ((s.bin b).withSettings n)).slotResults b none },
        s.setBin b ((s.bin b).withSettings n)) := by
  rw [workSlotSet, if_neg (Nat.not_lt.2 hb), h]
  exact if_neg hr

theorem Bin.withSettings_eq (b : Bin) (n : SlotSettings) : b.withSettings n =
    { zone := n.zone, lane := n.lane, capacity := n.capacity, committed := b.committed, reserved := b.reserved,
      affinity := n.affinity, enabled := n.enabled,
      cls := if n.affinity.isSome then n.affinity
             else if b.committed + b.reserved = 0 then none else b.cls } := by
  have hempty : b.isEmpty = true ↔ b.committed + b.reserved = 0 := by rw [Bin.isEmpty_iff]; omega
  unfold Bin.withSettings
  congr 1
  cases n.affinity with
  | some k => rfl
  | none =>
    show (if b.isEmpty = true then none else b.cls) = if b.committed + b.reserved = 0 then none else b.cls
    exact if_congr hempty rfl rfl

/-- What an answer about a bin carries once its record is set. -/
theorem State.slotResults_setBin (s : State) (b : Nat) (r : Bin) (amount : Option Nat) :
    (s.setBin b r).slotResults b amount = .slot amount r r.room (s.zone r.zone) := by
  rw [State.slotResults, State.bin_setBin, if_pos rfl, State.zone_congr (State.setBin_zones ..)]

/-- Settles O36: the checks in their order, then the record from the settings. -/
theorem slotSet : Obligations.SlotSet := by
  rintro h tag b o old s ht rfl
  refine ⟨fun hb => ?_, fun hb hr => ?_, fun lane affinity enabled hb hz hc hl ha he => ?_⟩
  · exact exec_taken_refused rfl ht rfl fun l a k => if_pos hb
  · exact exec_taken_refused rfl ht rfl fun l a k => workSlotSet_range hb (readSlotSettings_range hr)
  have hn := readSlotSettings_fields hz hc hl ha he
  refine ⟨fun hocc => ?_, fun hfits hallowed => ?_⟩
  · exact exec_taken_refused rfl ht rfl fun l a k =>
      workSlotSet_occupied (s := { s with linePort := l, arbiter := a, counters := k }) hb hn
        ((Bin.settingsRefused_iff ..).2 hocc)
  · have hno : ¬ (s.bin b).settingsRefused s.mode
        { zone := o.zone, lane := lane, capacity := o.capacity, affinity := affinity, enabled := enabled } = true := by
      rw [Bin.settingsRefused_iff]
      rintro (hlt | ⟨hm, hbad⟩)
      · exact absurd hlt (Nat.not_lt.2 hfits)
      · obtain ⟨hsame, hen⟩ := hallowed.resolve_left hm
        rcases hbad with ⟨hdiff, hpos⟩ | ⟨hdis, hpos⟩
        · rcases hsame with h0 | ⟨h1, h2, h3⟩
          · omega
          · exact hdiff.elim (· h1) fun h => h.elim (· h2) (· h3)
        · rcases hen with hen | hen
          · exact absurd (hen.symm.trans hdis) (by decide)
          · omega
    obtain ⟨n, hnew⟩ : ∃ n : SlotSettings, n =
        { zone := o.zone, lane := lane, capacity := o.capacity, affinity := affinity, enabled := enabled } := ⟨_, rfl⟩
    rw [← hnew] at hno hn
    have hres : (s.setBin b ((s.bin b).withSettings n)).slotResults b none =
        .slot none ((s.setBin b ((s.bin b).withSettings n)).bin b)
          (o.capacity - ((s.bin b).committed + (s.bin b).reserved)) (s.zone o.zone) := by
      rw [State.slotResults_setBin, State.bin_setBin, if_pos rfl, Bin.withSettings_eq, hnew]
      rfl
    refine ⟨s.setBin b ((s.bin b).withSettings n), ?_, ?_, fun d hd => ?_, rfl⟩
    · rw [← hres]
      exact exec_taken_access (u := s.setBin b ((s.bin b).withSettings n)) rfl ht rfl
        fun l a k => workSlotSet_sets (s := { s with linePort := l, arbiter := a, counters := k }) hb hn hno
    · rw [State.bin_setBin, if_pos rfl, Bin.withSettings_eq, hnew]
    · rw [State.bin_setBin, if_neg hd]

/-! ### SLOT ADJUST, SLOT RELEASE and SLOT READ (R145 to R147) -/

theorem Bin.settleClass_eq (b : Bin) : b.settleClass =
    { b with cls := if b.committed + b.reserved = 0 ∧ b.affinity = none then none else b.cls } := by
  have hiff : (b.isEmpty && b.affinity.isNone) = true ↔ b.committed + b.reserved = 0 ∧ b.affinity = none := by
    rw [Bool.and_eq_true, Bin.isEmpty_iff, Option.isNone_iff_eq_none, Nat.add_eq_zero_iff]
  unfold Bin.settleClass
  by_cases h : b.committed + b.reserved = 0 ∧ b.affinity = none
  · rw [if_pos (hiff.2 h), if_pos h]
  · rw [if_neg fun hb => h (hiff.1 hb), if_neg h]

/-- The class an adjustment names is taken where a bin that has none gets units. -/
theorem Bin.adjust_eq {b : Bin} {n k : Nat} {c : Option Nat}
    (h : (c = some k ∧ (b.cls = none ∨ b.cls = some k)) ∨ (c = none ∧ (n = 0 ∨ b.cls.isSome = true))) :
    b.adjust n c =
      { b with
        committed := min n (b.capacity - b.reserved)
        cls := if min n (b.capacity - b.reserved) + b.reserved = 0 ∧ b.affinity = none then none
               else if b.cls = none ∧ 0 < min n (b.capacity - b.reserved) then some k else b.cls } := by
  have hcls : (if b.cls.isNone && decide (0 < min n (b.capacity - b.reserved)) then c else b.cls) =
      if b.cls = none ∧ 0 < min n (b.capacity - b.reserved) then some k else b.cls := by
    simp only [Bool.and_eq_true, Option.isNone_iff_eq_none, decide_eq_true_eq]
    split
    next hc =>
      obtain ⟨hnone, hpos⟩ := hc
      rcases h with ⟨h, -⟩ | ⟨-, h | h⟩
      · exact h
      · subst h
        rw [Nat.zero_min] at hpos
        cases hpos
      · rw [hnone] at h
        cases h
    · rfl
  unfold Bin.adjust
  dsimp only
  rw [hcls, Bin.settleClass_eq]

theorem workSlotAdjust_range {b n k : Nat} {s : State} (hb : b ≤ 1023) (h : 255 < n ∨ (63 < k ∧ k ≠ 255)) :
    workSlotAdjust b n k s = ({ code := .range, results := s.slotResults b none }, s) := by
  rw [workSlotAdjust, if_neg (Nat.not_lt.2 hb)]
  split
  · rfl
  next c hc =>
    refine if_pos (h.resolve_right fun ⟨h1, h2⟩ => ?_)
    rw [readOptional_of_gt h1 h2] at hc
    cases hc

/-- SLOT ADJUST past its range checks. -/
theorem workSlotAdjust_inRange {b n k : Nat} {s : State} {c : Option Nat} (hb : b ≤ 1023) (hn : n ≤ 255)
    (hc : readOptional 63 k = some c) : workSlotAdjust b n k s =
      if c.isSome && (s.bin b).cls.isSome && c != (s.bin b).cls then
        ({ code := .classConflict, results := s.slotResults b none }, s)
      else if decide (0 < n) && c.isNone && (s.bin b).cls.isNone then
        ({ code := .noClass, results := s.slotResults b none }, s)
      else
        ({ code := .ok,
           results := (s.setBin b ((s.bin b).adjust n c)).slotResults b
             (some (n - ((s.bin b).adjust n c).committed)) }, s.setBin b ((s.bin b).adjust n c)) := by
  rw [workSlotAdjust, if_neg (Nat.not_lt.2 hb), hc]
  exact if_neg (Nat.not_lt.2 hn)

theorem workSlotAdjust_conflict {b n k c : Nat} {s : State} (hb : b ≤ 1023) (hn : n ≤ 255) (hk : k ≤ 63)
    (hc : (s.bin b).cls = some c) (hne : c ≠ k) :
    workSlotAdjust b n k s = ({ code := .classConflict, results := s.slotResults b none }, s) := by
  rw [workSlotAdjust_inRange hb hn (readOptional_of_le hk (by omega)), hc]
  exact if_pos (by simpa using hne.symm)

theorem workSlotAdjust_noClass {b n : Nat} {s : State} (hb : b ≤ 1023) (h1 : 1 ≤ n) (hn : n ≤ 255)
    (hc : (s.bin b).cls = none) :
    workSlotAdjust b n 255 s = ({ code := .noClass, results := s.slotResults b none }, s) := by
  rw [workSlotAdjust_inRange hb hn (readOptional_any 63), hc, if_neg (by simp),
      if_pos (by simpa using Nat.lt_of_succ_le h1)]

theorem workSlotAdjust_adjusts {b n k : Nat} {s : State} {c : Option Nat} (hb : b ≤ 1023) (hn : n ≤ 255)
    (hc : readOptional 63 k = some c)
    (h : (c = some k ∧ ((s.bin b).cls = none ∨ (s.bin b).cls = some k)) ∨
      (c = none ∧ (n = 0 ∨ (s.bin b).cls.isSome = true))) :
    workSlotAdjust b n k s =
      ({ code := .ok,
         results := (s.setBin b ((s.bin b).adjust n c)).slotResults b
           (some (n - ((s.bin b).adjust n c).committed)) }, s.setBin b ((s.bin b).adjust n c)) := by
  rw [workSlotAdjust_inRange hb hn hc]
  rcases h with ⟨rfl, hcls⟩ | ⟨rfl, hcls⟩
  · rw [if_neg, if_neg]
    · simp
    · rcases hcls with hcls | hcls <;> rw [hcls] <;> simp
  · rw [if_neg, if_neg]
    · rcases hcls with rfl | hcls
      · simp
      · simpa using fun _ h => by rw [h] at hcls; cases hcls
    · simp

theorem workSlotRelease_range {b n : Nat} {s : State} (hb : b ≤ 1023) (hn : 255 < n) :
    workSlotRelease b n s = ({ code := .range, results := s.slotResults b none }, s) := by
  rw [workSlotRelease, if_neg (Nat.not_lt.2 hb), if_pos hn]

/-- A bin after a release of at most `n` committed units (R146). -/
def Bin.released (b : Bin) (n : Nat) : Bin :=
  { b with
    committed := b.committed - min n b.committed
    cls := if b.committed - min n b.committed + b.reserved = 0 ∧ b.affinity = none then none else b.cls }

theorem workSlotRelease_releases {b n : Nat} {s : State} (hb : b ≤ 1023) (hn : n ≤ 255) :
    workSlotRelease b n s =
      ({ code := .ok,
         results := (s.setBin b ((s.bin b).released n)).slotResults b (some (min n (s.bin b).committed)) },
        s.setBin b ((s.bin b).released n)) := by
  rw [workSlotRelease, if_neg (Nat.not_lt.2 hb), if_neg (Nat.not_lt.2 hn)]
  simp only [Bin.settleClass_eq]
  rfl

theorem workSlotRead_reads {b : Nat} {s : State} (hb : b ≤ 1023) :
    workSlotRead b s = ({ code := .ok, results := s.slotResults b none }, s) := if_neg (Nat.not_lt.2 hb)

/-- Settles O37: each request by its checks in order, then the record it leaves. -/
theorem slotAdjustReleaseAndRead : Obligations.SlotAdjustReleaseAndRead := by
  refine ⟨?_, ?_, fun h tag b s ht => ⟨fun hb => ?_, fun hb => ?_⟩⟩
  · rintro h tag b n k old s ht rfl
    refine ⟨fun hb => ?_, fun hb hr => ?_, fun c hb hn hk hc hne => ?_, fun hb h1 hn hk hc => ?_,
      fun hb hn hcls => ?_⟩
    · exact exec_taken_refused rfl ht rfl fun l a k => if_pos hb
    · exact exec_taken_refused rfl ht rfl fun l a k => workSlotAdjust_range hb hr
    · exact exec_taken_refused rfl ht rfl fun l a q =>
        workSlotAdjust_conflict (s := { s with linePort := l, arbiter := a, counters := q }) hb hn hk hc hne
    · subst hk
      exact exec_taken_refused rfl ht rfl fun l a q =>
        workSlotAdjust_noClass (s := { s with linePort := l, arbiter := a, counters := q }) hb h1 hn hc
    · obtain ⟨c, hc, hcase⟩ : ∃ c, readOptional 63 k = some c ∧
          ((c = some k ∧ ((s.bin b).cls = none ∨ (s.bin b).cls = some k)) ∨
            (c = none ∧ (n = 0 ∨ (s.bin b).cls.isSome = true))) := by
        rcases hcls with ⟨hk, hcls⟩ | ⟨rfl, hcls⟩
        · exact ⟨some k, readOptional_of_le hk (by omega), .inl ⟨rfl, hcls⟩⟩
        · exact ⟨none, readOptional_any 63, .inr ⟨rfl, hcls⟩⟩
      have hadjust := Bin.adjust_eq hcase
      have hres : (s.setBin b ((s.bin b).adjust n c)).slotResults b
            (some (n - ((s.bin b).adjust n c).committed)) =
          .slot (some (n - min n ((s.bin b).capacity - (s.bin b).reserved)))
            ((s.setBin b ((s.bin b).adjust n c)).bin b)
            ((s.bin b).capacity - (min n ((s.bin b).capacity - (s.bin b).reserved) + (s.bin b).reserved))
            (s.zone (s.bin b).zone) := by
        rw [State.slotResults_setBin, State.bin_setBin, if_pos rfl, hadjust]
        rfl
      refine ⟨s.setBin b ((s.bin b).adjust n c), _, rfl, ?_, ?_, fun d hd => ?_, rfl⟩
      · rw [← hres]
        exact exec_taken_access (u := s.setBin b ((s.bin b).adjust n c)) rfl ht rfl fun l a q =>
          workSlotAdjust_adjusts (s := { s with linePort := l, arbiter := a, counters := q }) hb hn hc hcase
      · rw [State.bin_setBin, if_pos rfl, hadjust]
      · rw [State.bin_setBin, if_neg hd]
  · rintro h tag b n old s ht rfl
    refine ⟨fun hb => ?_, fun hb hn => ?_, fun hb hn => ?_⟩
    · exact exec_taken_refused rfl ht rfl fun l a k => if_pos hb
    · exact exec_taken_refused rfl ht rfl fun l a k => workSlotRelease_range hb hn
    · have hres : (s.setBin b ((s.bin b).released n)).slotResults b (some (min n (s.bin b).committed)) =
          .slot (some (min n (s.bin b).committed)) ((s.setBin b ((s.bin b).released n)).bin b)
            ((s.bin b).capacity - ((s.bin b).committed - min n (s.bin b).committed + (s.bin b).reserved))
            (s.zone (s.bin b).zone) := by
        rw [State.slotResults_setBin, State.bin_setBin, if_pos rfl]
        rfl
      refine ⟨s.setBin b ((s.bin b).released n), _, rfl, ?_, ?_, fun d hd => ?_, rfl⟩
      · rw [← hres]
        exact exec_taken_access (u := s.setBin b ((s.bin b).released n)) rfl ht rfl
          fun l a k => workSlotRelease_releases hb hn
      · rw [State.bin_setBin, if_pos rfl, Bin.released]
      · rw [State.bin_setBin, if_neg hd]
  · exact exec_taken_refused rfl ht rfl fun l a k => if_pos hb
  · exact exec_taken_refused rfl ht rfl fun l a k => workSlotRead_reads hb

/-! ### The allocation search (R133 to R135) -/

/-- Two names in a list of candidates name the zone once: repeats find nothing new. -/
theorem findSome_dedup {α : Type} (f : Nat → Option α) (zs acc : List Nat) :
    (zs.foldl (fun acc z => if acc.contains z then acc else acc ++ [z]) acc).findSome? f =
      (acc ++ zs).findSome? f := by
  induction zs generalizing acc with
  | nil => rw [List.foldl_nil, List.append_nil]
  | cons z zs ih =>
    rw [List.foldl_cons, ih]
    split
    next hz =>
      rw [List.findSome?_append, List.findSome?_append, List.findSome?_cons]
      cases hacc : acc.findSome? f with
      | some v => rfl
      | none =>
        rw [List.findSome?_eq_none_iff.1 hacc z (List.contains_iff_mem.1 hz)]
    · rw [List.append_assoc]; rfl

theorem State.searchBin_candidates (s : State) (prefs : List Nat) (k : Nat) (lane : Lane) :
    s.searchBin prefs k lane = (prefs ++ s.line.overflowZone.toList).findSome? (s.searchZone k lane) := by
  unfold State.searchBin candidateZones
  cases s.line.overflowZone with
  | none =>
    show (List.foldl (fun acc z => if acc.contains z then acc else acc ++ [z]) [] prefs).findSome? _ = _
    rw [Option.toList_none, findSome_dedup, List.nil_append, List.append_nil]
  | some z =>
    show (List.foldl (fun acc z => if acc.contains z then acc else acc ++ [z])
      (List.foldl (fun acc z => if acc.contains z then acc else acc ++ [z]) [] prefs) [z]).findSome? _ = _
    rw [← List.foldl_append, findSome_dedup, List.nil_append, Option.toList_some]

/-- The ranking of a step of the search: a strict order whose ties are as one. -/
structure Ranking (better : Nat → Nat → Bool) : Prop where
  asymm : ∀ a b, better a b = true → better b a = false
  through : ∀ a b c, better c a = true → better c b = true ∨ better b a = true

theorem bestOf_eq_none {better : Nat → Nat → Bool} {l : List Nat} : bestOf better l = none ↔ l = [] := by
  cases l with
  | nil => exact iff_of_true rfl rfl
  | cons a t =>
    unfold bestOf
    refine iff_of_false (fun h => ?_) (List.cons_ne_nil a t)
    split at h
    · cases h
    · split at h <;> cases h

theorem bestOf_spec {better : Nat → Nat → Bool} (hb : Ranking better) {l : List Nat} (hl : l.Pairwise (· < ·))
    {b : Nat} (h : bestOf better l = some b) (d : Nat) (hd : d ∈ l) :
    better b d = true ∨ (better d b = false ∧ b ≤ d) := by
  have irrefl : ∀ a, better a a = false := fun a => by
    cases haa : better a a with
    | false => rfl
    | true => exact (hb.asymm a a haa).symm.trans haa |>.symm
  induction l generalizing b d with
  | nil => cases h
  | cons a t ih =>
    obtain ⟨hlt, ht⟩ := List.pairwise_cons.1 hl
    unfold bestOf at h
    split at h
    next hnone =>
      obtain rfl := Option.some.inj h
      rw [bestOf_eq_none.1 hnone, List.mem_singleton] at hd
      subst hd
      exact .inr ⟨irrefl d, le_rfl⟩
    next c hc =>
      have hother := ih ht hc
      split at h
      next hbetter =>
        obtain rfl := Option.some.inj h
        rcases List.mem_cons.1 hd with rfl | hd
        · exact .inl hbetter
        · exact hother d hd
      next hnot =>
        obtain rfl := Option.some.inj h
        rcases List.mem_cons.1 hd with rfl | hd
        · exact .inr ⟨irrefl d, le_rfl⟩
        · refine .inr ⟨?_, (hlt d hd).le⟩
          by_contra hda
          rw [Bool.not_eq_false] at hda
          rcases hb.through a c d hda with hdc | hca
          · rcases hother d hd with hcd | ⟨hdc', -⟩
            · exact absurd ((hb.asymm _ _ hcd).symm.trans hdc) Bool.false_ne_true
            · exact absurd (hdc'.symm.trans hdc) Bool.false_ne_true
          · exact hnot hca

/-- What a search step finds of a list in number order: an entry that no other beats, and of equals the
lowest number. -/
theorem bestOf_iff {better : Nat → Nat → Bool} (hb : Ranking better) {l : List Nat} (hl : l.Pairwise (· < ·))
    (b : Nat) : bestOf better l = some b ↔
      b ∈ l ∧ ∀ d ∈ l, better b d = true ∨ (better d b = false ∧ b ≤ d) := by
  refine ⟨fun h => ⟨bestOf_mem h, bestOf_spec hb hl h⟩, fun ⟨hmem, hbest⟩ => ?_⟩
  cases hc : bestOf better l with
  | none =>
    rw [bestOf_eq_none.1 hc] at hmem
    cases hmem
  | some c =>
    have h1 := hbest c (bestOf_mem hc)
    have h2 := bestOf_spec hb hl hc b hmem
    rcases h1 with h1 | ⟨h1, hle⟩
    · rcases h2 with h2 | ⟨h2, -⟩
      · exact absurd ((hb.asymm _ _ h1).symm.trans h2) Bool.false_ne_true
      · exact absurd (h2.symm.trans h1) Bool.false_ne_true
    · rcases h2 with h2 | ⟨-, hle'⟩
      · exact absurd (h1.symm.trans h2) Bool.false_ne_true
      · rw [Nat.le_antisymm hle hle']

theorem State.binsOf_sorted (s : State) (z : Nat) (p : Bin → Bool) : (s.binsOf z p).Pairwise (· < ·) :=
  List.Pairwise.filter _ List.pairwise_lt_range

theorem State.room_ranking (s : State) : Ranking fun b a => decide ((s.bin b).room < (s.bin a).room) where
  asymm a b h := by
    rw [decide_eq_true_eq] at h
    rw [decide_eq_false_iff_not]
    omega
  through a b c h := by
    simp only [decide_eq_true_eq] at h ⊢
    omega

theorem State.open_ranking (s : State) (k : Nat) : Ranking fun b a => Bin.openBefore k (s.bin b) (s.bin a) where
  asymm a b := by
    unfold Bin.openBefore
    cases h1 : (s.bin a).affinity == some k <;> cases h2 : (s.bin b).affinity == some k <;> simp [bne, h1, h2] <;> omega
  through a b c := by
    unfold Bin.openBefore
    cases h1 : (s.bin a).affinity == some k <;> cases h2 : (s.bin b).affinity == some k <;>
      cases h3 : (s.bin c).affinity == some k <;> simp [bne, h1, h2, h3] <;> omega

/-- A bin found in use has the least room of those of its zone, and of equals the lowest number (R134). -/
theorem State.stepA_iff (s : State) (z k : Nat) (lane : Lane) (b : Nat) : s.stepA z k lane = some b ↔
    b < 1024 ∧ (s.bin b).zone = z ∧ (s.bin b).inUseFor k lane = true ∧
      ∀ d, d < 1024 → (s.bin d).zone = z → (s.bin d).inUseFor k lane = true →
        (s.bin b).room < (s.bin d).room ∨ ((s.bin b).room = (s.bin d).room ∧ b ≤ d) := by
  rw [State.stepA, bestOf_iff s.room_ranking (s.binsOf_sorted z _)]
  simp only [State.mem_binsOf, Config.binEntries, decide_eq_true_eq, decide_eq_false_iff_not, and_assoc, and_imp]
  refine and_congr_right fun _ => and_congr_right fun _ => and_congr_right fun _ =>
    forall_congr' fun d => imp_congr_right fun _ => imp_congr_right fun _ => imp_congr_right fun _ => ?_
  omega

/-- An empty bin found is bound to the class before it is bound to none, then of the greatest capacity, then of
the lowest number (R135). -/
theorem State.stepB_iff (s : State) (z k : Nat) (lane : Lane) (b : Nat) : s.stepB z k lane = some b ↔
    b < 1024 ∧ (s.bin b).zone = z ∧ (s.bin b).openableFor k lane = true ∧
      ∀ d, d < 1024 → (s.bin d).zone = z → (s.bin d).openableFor k lane = true →
        ((s.bin b).affinity = some k ∧ (s.bin d).affinity = none) ∨
        ((s.bin b).affinity = (s.bin d).affinity ∧
          ((s.bin d).capacity < (s.bin b).capacity ∨ ((s.bin d).capacity = (s.bin b).capacity ∧ b ≤ d))) := by
  rw [State.stepB, bestOf_iff (s.open_ranking k) (s.binsOf_sorted z _)]
  simp only [State.mem_binsOf, Config.binEntries, and_assoc, and_imp]
  refine and_congr_right fun _ => and_congr_right fun _ => and_congr_right fun hb =>
    forall_congr' fun d => imp_congr_right fun _ => imp_congr_right fun _ => imp_congr_right fun hd => ?_
  obtain ⟨-, -, -, -, hba⟩ := Bin.openableFor_iff.1 hb
  obtain ⟨-, -, -, -, hda⟩ := Bin.openableFor_iff.1 hd
  unfold Bin.openBefore
  rcases hba with hba | hba <;> rcases hda with hda | hda <;> simp [hba, hda] <;> omega

theorem State.stepA_eq_none (s : State) (z k : Nat) (lane : Lane) : s.stepA z k lane = none ↔
    ∀ d, d < 1024 → (s.bin d).zone = z → ¬ (s.bin d).inUseFor k lane = true := by
  rw [State.stepA, bestOf_eq_none, List.eq_nil_iff_forall_not_mem]
  simp only [State.mem_binsOf, Config.binEntries, not_and]

theorem State.stepB_eq_none (s : State) (z k : Nat) (lane : Lane) : s.stepB z k lane = none ↔
    ∀ d, d < 1024 → (s.bin d).zone = z → ¬ (s.bin d).openableFor k lane = true := by
  rw [State.stepB, bestOf_eq_none, List.eq_nil_iff_forall_not_mem]
  simp only [State.mem_binsOf, Config.binEntries, not_and]

theorem State.searchZone_iff (s : State) (z k : Nat) (lane : Lane) (b : Nat) : s.searchZone k lane z = some b ↔
    (s.zone z).state = .opened ∧
      (s.stepA z k lane = some b ∨ (s.stepA z k lane = none ∧ s.stepB z k lane = some b)) := by
  unfold State.searchZone
  by_cases ho : (s.zone z).state = .opened
  · rw [if_pos ho]
    cases hA : s.stepA z k lane <;> simp [ho]
  · rw [if_neg ho]
    simp [ho]

theorem State.searchZone_eq_none (s : State) (z k : Nat) (lane : Lane) : s.searchZone k lane z = none ↔
    (s.zone z).state ≠ .opened ∨ (s.stepA z k lane = none ∧ s.stepB z k lane = none) := by
  unfold State.searchZone
  by_cases ho : (s.zone z).state = .opened
  · rw [if_pos ho]
    cases hA : s.stepA z k lane <;> simp [ho]
  · rw [if_neg ho]
    simp [ho]

/-- Settles O38: the first candidate zone that has a bin, and in it the first step that finds one. -/
theorem allocationSearch : Obligations.AllocationSearch := by
  intro s prefs k lane b inUse openable hinUse hopenable
  have hA : ∀ d, (s.bin d).inUseFor k lane = true ↔ inUse d := fun d => by
    rw [hinUse, Bin.inUseFor_iff, Bin.room]
    refine and_congr_right fun _ => and_congr_right fun _ => and_congr_right fun _ => ?_
    omega
  have hB : ∀ d, (s.bin d).openableFor k lane = true ↔ openable d := fun d => by
    rw [hopenable, Bin.openableFor_iff, Bin.isEmpty_iff, and_assoc]
  rw [State.searchBin_candidates, List.findSome?_eq_some_iff]
  simp only [State.searchZone_iff, State.searchZone_eq_none, State.stepA_iff, State.stepB_iff, State.stepA_eq_none,
    State.stepB_eq_none, hA, hB]
  have hpass : ∀ y, ((s.zone y).state ≠ .opened ∨
      ((∀ d, d < 1024 → (s.bin d).zone = y → ¬ inUse d) ∧ ∀ d, d < 1024 → (s.bin d).zone = y → ¬ openable d)) ↔
      ((s.zone y).state ≠ .opened ∨ ∀ d, d < 1024 → (s.bin d).zone = y → ¬ inUse d ∧ ¬ openable d) := fun y =>
    or_congr_right ⟨fun h d hd hz => ⟨h.1 d hd hz, h.2 d hd hz⟩,
      fun h => ⟨fun d hd hz => (h d hd hz).1, fun d hd hz => (h d hd hz).2⟩⟩
  simp only [hpass]
  constructor
  · rintro ⟨pre, z, post, hlist, ⟨ho, hstep⟩, hpre⟩
    refine ⟨pre, post, z, hlist, hpre, ho, ?_⟩
    rcases hstep with ⟨hb, hz, hrest⟩ | ⟨hnone, hb, hz, ho, hrest⟩
    · exact ⟨hb, hz, .inl hrest⟩
    · exact ⟨hb, hz, .inr ⟨ho, hnone, hrest⟩⟩
  · rintro ⟨pre, post, z, hlist, hpre, ho, hb, hz, hstep⟩
    refine ⟨pre, z, post, hlist, ⟨ho, ?_⟩, hpre⟩
    rcases hstep with hrest | ⟨ho, hnone, hrest⟩
    · exact .inl ⟨hb, hz, hrest⟩
    · exact .inr ⟨hnone, hb, hz, ho, hrest⟩

end Sys2Proof.Machine
end

section
/-! PROOFS. STATION SET, LINK SET and SCHEDULE WRITE (R45 to R50). -/

namespace Sys2Proof.Machine

/-- A request of the Line Port without an access, by what its work does. -/
theorem exec_taken_work {c : Instr} {h : Header} {p : Port} {tag : Nat} {r : Request} {s u : State} {a : Answer}
    (hc : c.request? = some (h, r)) (ht : Taken h p tag r s) (hacc : takesAccess r = false)
    (hat : s.atMoment r h.moment = s) (hwork : workOf p r s = (a, u)) :
    exec c s = .next (u.answered p tag r a) := by
  rw [exec_taken_plain hc ht hacc hat, hwork]

/-! ### The configuration read (R45, R47) -/

theorem readYesNo_cases (n : Nat) :
    (readYesNo n = some (decide (n = 0)) ∧ n ≤ 1) ∨ (readYesNo n = none ∧ 1 < n) :=
  (le_or_gt n 1).imp (fun h => ⟨readYesNo_of_le h, h⟩) fun h => ⟨readYesNo_of_gt h, h⟩

theorem readYesNo_some {n : Nat} {b : Bool} (h : readYesNo n = some b) : b = decide (n = 0) ∧ n ≤ 1 := by
  rcases readYesNo_cases n with ⟨hb, hle⟩ | ⟨hno, -⟩
  · exact ⟨Option.some.inj (h.symm.trans hb), hle⟩
  · cases hno.symm.trans h

theorem readKind_some {n : Nat} {k : Kind} (h : readKind n = some k) : kindCode k = n ∧ n ≤ 3 := by
  match n with
  | 0 | 1 | 2 | 3 => obtain rfl := Option.some.inj h; exact ⟨rfl, by decide⟩
  | n + 4 => cases h

theorem readKind_of_le {n : Nat} (h : n ≤ 3) : ∃ k, readKind n = some k := by
  match n with
  | 0 | 1 | 2 | 3 => exact ⟨_, rfl⟩
  | n + 4 => omega

theorem readTagState_some {n : Nat} {k : TagState} (h : readTagState n = some k) : tagStateCode k = n ∧ n ≤ 3 := by
  match n with
  | 0 | 1 | 2 | 3 => obtain rfl := Option.some.inj h; exact ⟨rfl, by decide⟩
  | n + 4 => cases h

theorem readTagState_of_le {n : Nat} (h : n ≤ 3) : ∃ k, readTagState n = some k := by
  match n with
  | 0 | 1 | 2 | 3 => exact ⟨_, rfl⟩
  | n + 4 => omega

theorem readOptional_eq_some_iff {hi n : Nat} {v : Option Nat} : readOptional hi n = some v ↔
    v = (if n = 255 then none else some n) ∧ (n ≤ hi ∨ n = 255) := by
  unfold readOptional
  by_cases h : n = 255
  · simp [h, eq_comm]
  · by_cases hn : n ≤ hi <;> simp [h, hn, eq_comm]

/-- A field map is read from four selectors, each in its range. -/
theorem readFieldMap_some {m : ListOperand Nat} {a b c d : Option Nat} (h : readFieldMap m = some (a, b, c, d)) :
    m.count = 4 ∧ m.elems.length = 4 ∧ (∀ e ∈ m.elems, e ≤ 3 ∨ e = 255) ∧
      m.elems.map (fun e => if e = 255 then none else some e) = [a, b, c, d] := by
  unfold readFieldMap at h
  split at h
  next hc =>
    split at h
    next w x y z hm =>
      split at h
      next a' b' c' d' ha hb hcc hd =>
        cases h
        rw [readOptional_eq_some_iff] at ha hb hcc hd
        rw [hm]
        refine ⟨hc, rfl, ?_, ?_⟩
        · simp only [List.forall_mem_cons]
          exact ⟨ha.2, hb.2, hcc.2, hd.2, fun _ h => nomatch h⟩
        · rw [ha.1, hb.1, hcc.1, hd.1]
          rfl
      next => cases h
    next => cases h
  next => cases h

theorem readFieldMap_of_inRange {m : ListOperand Nat} (hc : m.count = 4) (hl : m.elems.length = 4)
    (h : ∀ e ∈ m.elems, e ≤ 3 ∨ e = 255) : ∃ v, readFieldMap m = some v := by
  obtain ⟨w, x, y, z, hm⟩ := List.length_eq_four.1 hl
  rw [hm] at h
  simp only [List.forall_mem_cons] at h
  obtain ⟨hw, hx, hy, hz, -⟩ := h
  rw [readFieldMap, if_pos hc, hm]
  dsimp only
  rw [readOptional_eq_some_iff.2 ⟨rfl, hw⟩, readOptional_eq_some_iff.2 ⟨rfl, hx⟩,
    readOptional_eq_some_iff.2 ⟨rfl, hy⟩, readOptional_eq_some_iff.2 ⟨rfl, hz⟩]
  exact ⟨_, rfl⟩

/-- Every field of a station's configuration in its range (R45). -/
def StationInRange (o : StationOperands) : Prop :=
  o.kind ≤ 3 ∧ o.holdAllowed ≤ 1 ∧ o.fieldMap.count = 4 ∧ o.fieldMap.elems.length = 4 ∧
  (∀ m ∈ o.fieldMap.elems, m ≤ 3 ∨ m = 255) ∧ o.code0 ≤ 3 ∧ o.code1 ≤ 3 ∧ o.code2 ≤ 3 ∧
  o.code3 ≤ 3 ∧ 1 ≤ o.band ∧ o.band ≤ 255 ∧ 2 ≤ o.settleCount ∧ o.settleCount ≤ 15 ∧
  1 ≤ o.unsettleCount ∧ o.unsettleCount ≤ 7 ∧ o.holdOnMotion ≤ 1 ∧ o.holdOnOverload ≤ 1 ∧
  (o.passes = 1 ∨ o.passes = 2 ∨ o.passes = 4 ∨ o.passes = 8 ∨ o.passes = 16) ∧
  4 ≤ o.window ∧ o.window ≤ 32 ∧ 1 ≤ o.badLimit ∧ o.badLimit ≤ o.window ∧ 1 ≤ o.recovery ∧
  o.recovery ≤ 15

theorem readStationConfig_some {o : StationOperands} {k : StationConfig} (h : readStationConfig o = some k) :
    StationInRange o ∧
    k.configured = true ∧ kindCode k.kind = o.kind ∧ k.holdAllowed = decide (o.holdAllowed = 0) ∧
    o.fieldMap.elems.map (fun m => if m = 255 then none else some m) =
      [k.sel0, k.sel1, k.sel2, k.sel3] ∧
    tagStateCode k.code0 = o.code0 ∧ tagStateCode k.code1 = o.code1 ∧
    tagStateCode k.code2 = o.code2 ∧ tagStateCode k.code3 = o.code3 ∧ k.band = o.band ∧
    k.settleCount = o.settleCount ∧ k.unsettleCount = o.unsettleCount ∧
    k.holdOnMotion = decide (o.holdOnMotion = 0) ∧
    k.holdOnOverload = decide (o.holdOnOverload = 0) ∧ k.passes = o.passes ∧ k.window = o.window ∧
    k.badLimit = o.badLimit ∧ k.recovery = o.recovery := by
  unfold readStationConfig at h
  split at h
  next kind hold m0 m1 m2 m3 c0 c1 c2 c3 motion overload hk hh hm h0 h1 h2 h3 hmo hov =>
    split at h
    next hr =>
      obtain rfl := Option.some.inj h
      simp only [Bool.and_eq_true, Bool.or_eq_true, inRange_iff, decide_eq_true_eq, or_assoc, and_assoc] at hr
      obtain ⟨hkind, hkle⟩ := readKind_some hk
      obtain ⟨hhold, hhle⟩ := readYesNo_some hh
      obtain ⟨hcount, hlen, hsel, hmap⟩ := readFieldMap_some hm
      obtain ⟨h0, h0le⟩ := readTagState_some h0
      obtain ⟨h1, h1le⟩ := readTagState_some h1
      obtain ⟨h2, h2le⟩ := readTagState_some h2
      obtain ⟨h3, h3le⟩ := readTagState_some h3
      obtain ⟨hmo, hmole⟩ := readYesNo_some hmo
      obtain ⟨hov, hovle⟩ := readYesNo_some hov
      obtain ⟨hb1, hb2, hs1, hs2, hu1, hu2, hp, hw1, hw2, hl1, hl2, hr1, hr2⟩ := hr
      exact ⟨⟨hkle, hhle, hcount, hlen, hsel, h0le, h1le, h2le, h3le, hb1, hb2, hs1, hs2, hu1, hu2, hmole, hovle, hp,
        hw1, hw2, hl1, hl2, hr1, hr2⟩, rfl, hkind, hhold, hmap, h0, h1, h2, h3, rfl, rfl, rfl, hmo, hov,
        rfl, rfl, rfl, rfl⟩
    next => cases h
  next => cases h

theorem readStationConfig_isSome_iff (o : StationOperands) :
    (readStationConfig o).isSome = true ↔ StationInRange o := by
  refine ⟨fun h => (readStationConfig_some (Option.some_get h).symm).1, ?_⟩
  rintro ⟨hk, hh, hcount, hlen, hsel, h0, h1, h2, h3, hb1, hb2, hs1, hs2, hu1, hu2, hmo, hov, hp, hw1, hw2, hl1, hl2,
    hr1, hr2⟩
  obtain ⟨kind, hk⟩ := readKind_of_le hk
  obtain ⟨⟨m0, m1, m2, m3⟩, hm⟩ := readFieldMap_of_inRange hcount hlen hsel
  obtain ⟨c0, h0⟩ := readTagState_of_le h0
  obtain ⟨c1, h1⟩ := readTagState_of_le h1
  obtain ⟨c2, h2⟩ := readTagState_of_le h2
  obtain ⟨c3, h3⟩ := readTagState_of_le h3
  rw [readStationConfig, hk, readYesNo_of_le hh, hm, h0, h1, h2, h3, readYesNo_of_le hmo, readYesNo_of_le hov]
  dsimp only
  rw [if_pos]
  · rfl
  · simp only [Bool.and_eq_true, Bool.or_eq_true, inRange_iff, decide_eq_true_eq, or_assoc, and_assoc]
    exact ⟨hb1, hb2, hs1, hs2, hu1, hu2, hp, hw1, hw2, hl1, hl2, hr1, hr2⟩

/-! ### STATION SET (R47, R48) -/

theorem State.otherScans_eq (s : State) (a : Nat) : s.otherScans a =
    (List.range 16).countP fun i => decide (i ≠ a ∧ (s.station i).config.configured = true ∧
      (s.station i).config.kind = .scan) :=
  List.countP_congr fun i _ => by
    rw [Station.isScan, decide_eq_true_eq, Bool.and_eq_true, Bool.and_eq_true, bne_iff_ne, beq_iff_eq]

theorem workStationSet_mode {a : Nat} {o : StationOperands} {s : State} (ha : a ≤ 15) (hm : s.mode ≠ .configure) :
    workStationSet a o s = ({ code := .mode, results := .station (s.station a) }, s) := by
  rw [workStationSet, if_neg (Nat.not_lt.2 ha), if_pos hm]

theorem workStationSet_range {a : Nat} {o : StationOperands} {s : State} (ha : a ≤ 15) (hm : s.mode = .configure)
    (h : 1 < o.configured ∨ (o.configured = 0 ∧ readStationConfig o = none)) :
    workStationSet a o s = ({ code := .range, results := .station (s.station a) }, s) := by
  rw [workStationSet, if_neg (Nat.not_lt.2 ha), if_neg (not_not.2 hm)]
  rcases h with h | ⟨h, hno⟩
  · rw [readYesNo_of_gt h]
  · rw [h, hno]
    rfl

theorem workStationSet_limit {a : Nat} {o : StationOperands} {s : State} {k : StationConfig} (ha : a ≤ 15)
    (hm : s.mode = .configure) (h : o.configured = 0) (hk : readStationConfig o = some k) (hscan : k.kind = .scan)
    (h2 : 2 ≤ s.otherScans a) :
    workStationSet a o s = ({ code := .limit, results := .station (s.station a) }, s) := by
  rw [workStationSet, if_neg (Nat.not_lt.2 ha), if_neg (not_not.2 hm), h, hk]
  exact if_pos ⟨hscan, h2⟩

theorem workStationSet_sets {a : Nat} {o : StationOperands} {s : State} {k : StationConfig} (ha : a ≤ 15)
    (hm : s.mode = .configure)
    (h : (o.configured = 1 ∧ k = StationConfig.atReset) ∨
      (o.configured = 0 ∧ readStationConfig o = some k ∧ (k.kind = .scan → s.otherScans a < 2))) :
    workStationSet a o s =
      ({ code := .ok, results := .station { config := k, run := .atReset } }, s.replaceStation a k) := by
  rw [workStationSet, if_neg (Nat.not_lt.2 ha), if_neg (not_not.2 hm)]
  rcases h with ⟨h, rfl⟩ | ⟨h, hk, hfree⟩
  · rw [h]
    rfl
  · rw [h, hk]
    exact if_neg fun ⟨hscan, h2⟩ => absurd h2 (Nat.not_le.2 (hfree hscan))

/-! The contexts of the entry replaced. -/

theorem Station.isScan_iff (e : Station) :
    e.isScan = true ↔ e.config.configured = true ∧ e.config.kind = .scan := by
  rw [Station.isScan, Bool.and_eq_true, beq_iff_eq]

/-- A station that scans keeps its context, emptied, or takes the first free one. -/
theorem State.rebindScan_first {s : State} {a : Nat} {e : Station} (he : e.isScan = true)
    (h : s.scan0.binding = some a ∨ (s.scan0.binding = none ∧ s.scan1.binding ≠ some a)) :
    s.rebindScan a e = { s with scan0 := { ScanContext.atReset with binding := some a } } := by
  unfold State.rebindScan State.boundScan
  rcases h with h | ⟨h0, h1⟩
  · rw [if_pos h]
    simp only [he, if_true, ScanContext.emptied, h]
    rfl
  · rw [if_neg (by rw [h0]; exact (nomatch ·)), if_neg h1]
    simp only [he, if_true, h0, Option.isNone_none]
    rfl

theorem State.rebindScan_second {s : State} {a : Nat} {e : Station} (he : e.isScan = true)
    (h0 : s.scan0.binding ≠ some a)
    (h : s.scan1.binding = some a ∨ (s.scan1.binding = none ∧ s.scan0.binding ≠ none)) :
    s.rebindScan a e = { s with scan1 := { ScanContext.atReset with binding := some a } } := by
  unfold State.rebindScan State.boundScan
  rw [if_neg h0]
  rcases h with h | ⟨h1, hn⟩
  · rw [if_pos h]
    simp only [he, if_true, ScanContext.emptied, h]
    rfl
  · rw [if_neg (by rw [h1]; exact (nomatch ·))]
    simp only [he, if_true, h1, Option.isNone_none, Option.isNone_iff_eq_none, hn, if_false]
    rfl

/-- A station that does not scan gives its context back. -/
theorem State.rebindScan_other {s : State} {a : Nat} {e : Station} (he : e.isScan = false) :
    s.rebindScan a e =
      { s with
        scan0 := if s.scan0.binding = some a then ScanContext.atReset else s.scan0
        scan1 := if s.scan0.binding ≠ some a ∧ s.scan1.binding = some a then ScanContext.atReset else s.scan1 } := by
  unfold State.rebindScan State.boundScan
  by_cases h0 : s.scan0.binding = some a
  · simp only [h0, he, if_true, Bool.false_eq_true, if_false, ne_eq, not_true_eq_false, false_and]
    rfl
  · by_cases h1 : s.scan1.binding = some a
    · simp only [h0, h1, he, if_true, Bool.false_eq_true, if_false, ne_eq, not_false_eq_true, true_and]
      rfl
    · simp only [h0, h1, he, Bool.false_eq_true, if_false, and_false]

/-- The entry replaced, with the WEIGH side of its contexts, before the SCAN side. -/
def State.stationReplaced (s : State) (a : Nat) (k : StationConfig) : State :=
  if k.configured && k.kind == .weigh then
    (s.setStation a { config := k, run := .atReset }).setSettle a none
  else s.setStation a { config := k, run := .atReset }

theorem State.replaceStation_eq (s : State) (a : Nat) (k : StationConfig) :
    s.replaceStation a k = (s.stationReplaced a k).rebindScan a { config := k, run := .atReset } := rfl

theorem State.stationReplaced_frame (s : State) (a : Nat) (k : StationConfig) :
    ∃ v, s.stationReplaced a k =
      { s with stations := (s.setStation a { config := k, run := .atReset }).stations, settle := v } := by
  unfold State.stationReplaced
  split <;> exact ⟨_, rfl⟩

theorem State.station_replaceStation (s : State) (a i : Nat) (k : StationConfig) :
    (s.replaceStation a k).station i = if i = a then { config := k, run := .atReset } else s.station i := by
  obtain ⟨c0, c1, e⟩ := (s.stationReplaced a k).rebindScan_frame a { config := k, run := .atReset }
  obtain ⟨v, ev⟩ := s.stationReplaced_frame a k
  rw [State.replaceStation_eq, e, ← State.station_setStation]
  refine State.station_congr ?_ i
  show (s.stationReplaced a k).stations = _
  rw [ev]

theorem State.settleContext_replaceStation (s : State) (a i : Nat) (k : StationConfig) :
    (s.replaceStation a k).settleContext i =
      if i = a ∧ k.configured = true ∧ k.kind = .weigh then none else s.settleContext i := by
  obtain ⟨c0, c1, e⟩ := (s.stationReplaced a k).rebindScan_frame a { config := k, run := .atReset }
  have hsettle : (s.replaceStation a k).settleContext i = (s.stationReplaced a k).settleContext i := by
    rw [State.replaceStation_eq, e]
    rfl
  rw [hsettle, State.stationReplaced]
  by_cases hw : k.configured = true ∧ k.kind = .weigh
  · rw [if_pos (by simpa using hw), State.settleContext_setSettle]
    simp only [hw, and_self, and_true]
    rfl
  · rw [if_neg (by simpa using hw), if_neg fun h => hw h.2]
    rfl

theorem State.replaceStation_frame (s : State) (a : Nat) (k : StationConfig) :
    ∃ st v c0 c1, s.replaceStation a k = { s with stations := st, settle := v, scan0 := c0, scan1 := c1 } := by
  obtain ⟨c0, c1, e⟩ := (s.stationReplaced a k).rebindScan_frame a { config := k, run := .atReset }
  obtain ⟨v, ev⟩ := s.stationReplaced_frame a k
  rw [State.replaceStation_eq, e, ev]
  exact ⟨_, _, _, _, rfl⟩

/-- The SCAN contexts of the entry replaced. -/
theorem State.scans_replaceStation {s : State} {a : Nat} {k : StationConfig} :
    (k.configured = true → k.kind = .scan →
      ((s.scan0.binding = some a ∨ (s.scan0.binding = none ∧ s.scan1.binding ≠ some a)) →
        (s.replaceStation a k).scan0 = { ScanContext.atReset with binding := some a } ∧
          (s.replaceStation a k).scan1 = s.scan1) ∧
      (s.scan0.binding ≠ some a →
        (s.scan1.binding = some a ∨ (s.scan1.binding = none ∧ s.scan0.binding ≠ none)) →
        (s.replaceStation a k).scan1 = { ScanContext.atReset with binding := some a } ∧
          (s.replaceStation a k).scan0 = s.scan0)) ∧
    ((k.configured = false ∨ k.kind ≠ .scan) →
      (s.replaceStation a k).scan0 = (if s.scan0.binding = some a then ScanContext.atReset else s.scan0) ∧
      (s.replaceStation a k).scan1 =
        (if s.scan0.binding ≠ some a ∧ s.scan1.binding = some a then ScanContext.atReset else s.scan1)) := by
  obtain ⟨v, ev⟩ := s.stationReplaced_frame a k
  have h0 : (s.stationReplaced a k).scan0 = s.scan0 := by rw [ev]
  have h1 : (s.stationReplaced a k).scan1 = s.scan1 := by rw [ev]
  rw [State.replaceStation_eq, ← h0, ← h1]
  refine ⟨fun hc hk => ?_, fun hno => ?_⟩
  · have he : Station.isScan { config := k, run := .atReset } = true := (Station.isScan_iff _).2 ⟨hc, hk⟩
    refine ⟨fun h => ?_, fun hn h => ?_⟩
    · rw [State.rebindScan_first he h]; exact ⟨rfl, rfl⟩
    · rw [State.rebindScan_second he hn h]; exact ⟨rfl, rfl⟩
  · have he : Station.isScan { config := k, run := .atReset } = false := by
      rw [← Bool.not_eq_true, Station.isScan_iff]
      rintro ⟨hc, hk⟩
      exact hno.elim (fun h => Bool.false_ne_true (h.symm.trans hc)) (· hk)
    rw [State.rebindScan_other he]
    exact ⟨rfl, rfl⟩

/-- Settles O39: the checks in their order, the entry with its contexts, and the configuration as read. -/
theorem stationSet : Obligations.StationSet := by
  refine ⟨fun h tag a o s ht => ⟨fun ha => ?_, fun ha hm => ?_, fun ha hm hr => ?_, fun k ha hm hc hk hscan h2 => ?_,
    fun k ha hm hset => ?_⟩, readStationConfig_isSome_iff, fun o k hk => (readStationConfig_some hk).2⟩
  · exact exec_taken_work rfl ht rfl rfl (if_pos ha)
  · exact exec_taken_work rfl ht rfl rfl (workStationSet_mode ha hm)
  · exact exec_taken_work rfl ht rfl rfl (workStationSet_range ha hm hr)
  · rw [← State.otherScans_eq] at h2
    exact exec_taken_work rfl ht rfl rfl (workStationSet_limit ha hm hc hk hscan h2)
  · rw [← State.otherScans_eq] at hset
    obtain ⟨hscans, hothers⟩ := State.scans_replaceStation (s := s) (a := a) (k := k)
    refine ⟨s.replaceStation a k, exec_taken_work rfl ht rfl rfl (workStationSet_sets ha hm hset), ?_, fun i hi => ?_,
      fun hc hw => ?_, fun hno => ?_, fun i hi => ?_, hscans, fun hno => ⟨fun h0 => ?_, fun h0 h1 => ?_,
      fun h0 h1 => ?_⟩, ?_⟩
    · rw [State.station_replaceStation, if_pos rfl]
    · rw [State.station_replaceStation, if_neg hi]
    · rw [State.settleContext_replaceStation, if_pos ⟨rfl, hc, hw⟩]
    · rw [State.settleContext_replaceStation, if_neg]
      rintro ⟨-, hc, hw⟩
      exact hno.elim (fun h => Bool.false_ne_true (h.symm.trans hc)) (· hw)
    · rw [State.settleContext_replaceStation, if_neg fun h => hi h.1]
    · rw [(hothers hno).1, (hothers hno).2, if_pos h0, if_neg fun h => h.1 h0]
      exact ⟨rfl, rfl⟩
    · rw [(hothers hno).1, (hothers hno).2, if_neg h0, if_pos ⟨h0, h1⟩]
      exact ⟨rfl, rfl⟩
    · rw [(hothers hno).1, (hothers hno).2, if_neg h0, if_neg fun h => h1 h.2]
      exact ⟨rfl, rfl⟩
    · obtain ⟨st, v, c0, c1, e⟩ := s.replaceStation_frame a k
      rw [e]

/-! ### LINK SET (R49) and SCHEDULE WRITE (R50) -/

theorem readLinkSettings_range {p t n : Nat}
    (h : p = 0 ∨ 1000 < p ∨ (t ≠ 100 ∧ t ≠ 200 ∧ t ≠ 400 ∧ t ≠ 800) ∨ n = 0 ∨ 31 < n) :
    readLinkSettings p t n = none := by
  refine if_neg fun hc => ?_
  simp only [Bool.and_eq_true, Bool.or_eq_true, inRange_iff, decide_eq_true_eq] at hc
  omega

theorem readLinkSettings_fields {p t n : Nat} (h1 : 1 ≤ p) (h2 : p ≤ 1000)
    (h3 : t = 100 ∨ t = 200 ∨ t = 400 ∨ t = 800) (h4 : 1 ≤ n) (h5 : n ≤ 31) :
    readLinkSettings p t n = some { period := p, timeout := t, threshold := n } := by
  refine if_pos ?_
  simp only [Bool.and_eq_true, Bool.or_eq_true, inRange_iff, decide_eq_true_eq]
  omega

theorem workLinkSet_range {p t n : Nat} {s : State} (h : readLinkSettings p t n = none) :
    workLinkSet p t n s = ({ code := .range, results := .link s.link s.controller }, s) := by
  rw [workLinkSet, h]
  rfl

theorem workLinkSet_sets {p t n : Nat} {s : State} {l : LinkSettings} (h : readLinkSettings p t n = some l) :
    workLinkSet p t n s = ({ code := .ok, results := .link l s.controller }, { s with link := l }) := by
  rw [workLinkSet, h]
  rfl

theorem readPollKind_of_gt {n : Nat} (h : 1 < n) : readPollKind n = none := by
  obtain ⟨m, rfl⟩ := Nat.exists_eq_add_of_le' h
  rfl

theorem readPollKind_of_le {n : Nat} (h : n ≤ 1) :
    readPollKind n = some (if n = 0 then .evidence else .status) := by
  match n with
  | 0 | 1 => rfl
  | n + 2 => omega

theorem readScheduleEntry_range {e : Nat × Nat} (hne : e ≠ (255, 255)) (h : 15 < e.1 ∨ 1 < e.2) :
    readScheduleEntry e = none := by
  have hne' : ¬ (e.1 = 255 ∧ e.2 = 255) := fun ⟨h1, h2⟩ => hne (Prod.ext h1 h2)
  rw [readScheduleEntry, if_neg hne']
  split
  next h15 => rw [readPollKind_of_gt (h.resolve_left (Nat.not_lt.2 h15))]
  · rfl

/-- What SCHEDULE WRITE puts in the area for an entry given (R50). -/
def scheduleEntryOf (e : Nat × Nat) : Option Poll :=
  if e = (255, 255) then none else some { station := e.1, kind := if e.2 = 0 then .evidence else .status }

theorem readScheduleEntry_inRange {e : Nat × Nat} (h : e = (255, 255) ∨ (e.1 ≤ 15 ∧ e.2 ≤ 1)) :
    readScheduleEntry e = some (scheduleEntryOf e) := by
  rcases h with rfl | ⟨h1, h2⟩
  · rfl
  · have hne : ¬ (e.1 = 255 ∧ e.2 = 255) := by omega
    have hne' : e ≠ (255, 255) := fun he => hne (by rw [he]; exact ⟨rfl, rfl⟩)
    rw [readScheduleEntry, if_neg hne, if_pos h1, readPollKind_of_le h2, scheduleEntryOf, if_neg hne']

theorem mapM_eq_none {α β : Type} {f : α → Option β} {l : List α} {a : α} (ha : a ∈ l) (h : f a = none) :
    l.mapM f = none := by
  induction l with
  | nil => cases ha
  | cons b l ih =>
    rw [List.mapM_cons]
    rcases List.mem_cons.1 ha with rfl | ha
    · rw [h]; rfl
    · rw [ih ha]
      cases f b <;> rfl

theorem mapM_eq_map {α β : Type} {f : α → Option β} {g : α → β} {l : List α} (h : ∀ a ∈ l, f a = some (g a)) :
    l.mapM f = some (l.map g) := by
  induction l with
  | nil => rfl
  | cons b l ih =>
    rw [List.mapM_cons, h b (List.mem_cons_self ..), ih fun a ha => h a (List.mem_cons_of_mem _ ha)]
    rfl

/-- The entries written from index `first` on; the others stand. -/
theorem State.scheduleEntry_writeSchedule (l : List (Option Poll)) (first j : Nat) (s : State) :
    (State.writeSchedule first l s).scheduleEntry j =
      if first ≤ j then (l[j - first]?).getD (s.scheduleEntry j) else s.scheduleEntry j := by
  induction l generalizing first s with
  | nil => simp [State.writeSchedule]
  | cons e l ih =>
    rw [State.writeSchedule, ih, State.scheduleEntry_setScheduleEntry]
    rcases lt_trichotomy first j with h | rfl | h
    · obtain ⟨d, rfl⟩ := Nat.exists_eq_add_of_lt h
      have h1 : first + d + 1 - first = (first + d + 1 - (first + 1)) + 1 := by omega
      rw [if_pos (by omega), if_neg (by omega), if_pos (by omega), h1, List.getElem?_cons_succ]
    · rw [if_neg (by omega), if_pos rfl, if_pos le_rfl, Nat.sub_self]
      rfl
    · rw [if_neg (by omega), if_neg (by omega), if_neg (by omega)]

theorem State.writeSchedule_frame (l : List (Option Poll)) (first : Nat) (s : State) :
    ∃ t, State.writeSchedule first l s = { s with schedule := t } := by
  induction l generalizing first s with
  | nil => exact ⟨_, rfl⟩
  | cons e l ih =>
    obtain ⟨t, ht⟩ := ih (first + 1) (s.setScheduleEntry first e)
    rw [State.writeSchedule, ht]
    cases e <;> exact ⟨_, rfl⟩

theorem workScheduleWrite_range {first : Nat} {es : ListOperand (Nat × Nat)} {s : State}
    (h : es.count = 0 ∨ 64 < es.count ∨ 256 < first + es.count ∨
      ∃ e ∈ es.elems, e ≠ (255, 255) ∧ (15 < e.1 ∨ 1 < e.2)) :
    workScheduleWrite first es s = ({ code := .range }, s) := by
  unfold workScheduleWrite
  split
  next hc =>
    simp only [Bool.and_eq_true, inRange_iff, decide_eq_true_eq] at hc
    obtain ⟨e, he, hne, hbad⟩ := ((h.resolve_left (by omega)).resolve_left (by omega)).resolve_left (by omega)
    rw [mapM_eq_none he (readScheduleEntry_range hne hbad)]
  · rfl

theorem workScheduleWrite_writes {first : Nat} {es : ListOperand (Nat × Nat)} {s : State} (h1 : 1 ≤ es.count)
    (h2 : es.count ≤ 64) (h3 : first + es.count ≤ 256)
    (h : ∀ e ∈ es.elems, e = (255, 255) ∨ (e.1 ≤ 15 ∧ e.2 ≤ 1)) :
    workScheduleWrite first es s =
      ({ code := .ok }, State.writeSchedule first (es.elems.map scheduleEntryOf) s) := by
  have hc : (inRange 1 64 es.count && decide (first + es.count ≤ 256)) = true := by
    simp only [Bool.and_eq_true, inRange_iff, decide_eq_true_eq]
    omega
  rw [workScheduleWrite, if_pos hc, mapM_eq_map fun e he => readScheduleEntry_inRange (h e he)]

/-- Settles O40: each request by its ranges, and the entries written one by one. -/
theorem linkSetAndScheduleWrite : Obligations.LinkSetAndScheduleWrite := by
  refine ⟨fun h tag p t n s ht => ⟨fun hr => ?_, fun h1 h2 h3 h4 h5 => ?_⟩,
    fun h tag first es s ht hwf => ⟨fun hr => ?_, fun h1 h2 h3 hes => ?_⟩⟩
  · exact exec_taken_work rfl ht rfl rfl (workLinkSet_range (readLinkSettings_range hr))
  · exact exec_taken_work rfl ht rfl rfl (workLinkSet_sets (readLinkSettings_fields h1 h2 h3 h4 h5))
  · exact exec_taken_work rfl ht rfl rfl (workScheduleWrite_range hr)
  · have hlen : es.elems.length = es.count := by
      rw [((ListOperand.wf_iff ..).1 hwf).2.1, if_pos (inRange_iff.2 ⟨h1, h2⟩)]
    refine ⟨_, exec_taken_work rfl ht rfl rfl (workScheduleWrite_writes h1 h2 h3 hes), fun i e he => ?_,
      fun j hj => ?_, ?_⟩
    · rw [State.scheduleEntry_writeSchedule, if_pos (Nat.le_add_right ..), Nat.add_sub_cancel_left, List.getElem?_map,
        he]
      rfl
    · rw [State.scheduleEntry_writeSchedule]
      split
      next hle =>
        rw [List.getElem?_eq_none (by rw [List.length_map]; omega)]
        rfl
      · rfl
    · obtain ⟨t, e⟩ := State.writeSchedule_frame (es.elems.map scheduleEntryOf) first s
      rw [e]

end Sys2Proof.Machine
end

section
/-! PROOFS. What a walk, a round's end and the slotted poll leave, for every state of the round controller
(R53, R54, R58). -/

namespace Sys2Proof.Machine

/-! ### The slotted poll -/

/-- The poll `q` sent, which takes the controller to AWAIT_REPLY (R53). -/
def State.sentFrom (s : State) (c : RoundController) (q : Poll) (single : Bool) (ret : ReturnPoint) : State :=
  { s with
    linkTxd := pollFrame q.station (s.sentKind q) (s.holdFlag q)
    controller := { c with state := .awaitReply, inFlight := some (s.sent q single ret) } }

theorem State.settleSlot_of_none {s : State} (h : s.controller.slot = none) : s.settleSlot = s := by
  rw [State.settleSlot, h]

theorem State.settleSlot_of_awaiting {s : State} (h : s.controller.state = .awaitReply) : s.settleSlot = s := by
  unfold State.settleSlot
  split
  · rfl
  · rw [h]

theorem State.settleSlot_sends {s : State} {q : Poll} (hq : s.controller.slot = some q)
    (hst : s.controller.state = .idle ∨ s.controller.state = .roundWait) : s.settleSlot =
      s.sentFrom { s.controller with slot := none } q true
        (if s.controller.state = .idle then .idle else .roundWait) := by
  rw [State.settleSlot, hq]
  rcases hst with h | h
  · rw [h]
    rfl
  · rw [h]
    rfl

/-! ### A round's end -/

/-- The controller rests in `rest` after the round of `c` has ended, no schedule being staged NOW (R54). -/
def RoundController.EndsIn (c rest : RoundController) : Prop :=
  (∃ a, c.staged = none ∧ c.active = some a ∧
    rest =
      { c with
        state := if a.rep = true then .roundWait else .idle
        active := if a.rep = true then some a else none
        pendingStart := none, walkPos := none }) ∨
  (∃ g, c.staged = some g ∧ g.mode ≠ .now ∧
    rest =
      { c with
        state := .roundWait
        active := some { base := g.base, length := g.length, rep := g.rep }
        pendingStart := some (if g.mode = .atTimer then PendingStart.atTimer else .empty)
        staged := none, walkPos := none })

/-- ROUND_END is set and the controller is as given. -/
def State.roundEnded (s : State) (c : RoundController) : State :=
  { s with sticky := { s.sticky with roundEnd := true }, controller := c }

theorem State.endRound_rests {s : State} {rest : RoundController} (h : s.controller.EndsIn rest) :
    s.endRound = (false, s.roundEnded rest) := by
  unfold State.endRound
  dsimp only
  split
  next g hst =>
    obtain ⟨g', hst', hg, rfl⟩ := h.resolve_left fun ⟨_, hno, _⟩ => by rw [hst] at hno; cases hno
    obtain rfl : g = g' := Option.some.inj (hst.symm.trans hst')
    split
    next hm => exact absurd hm hg
    next hm => rw [hm]; rfl
    next hm => rw [hm]; rfl
  next hst =>
    obtain ⟨a, -, ha, rfl⟩ := h.resolve_right fun ⟨_, hno, _⟩ => by rw [hst] at hno; cases hno
    split
    next a' ha' =>
      obtain rfl : a' = a := Option.some.inj (ha'.symm.trans ha)
      split
      · rw [← ha]; rfl
      · rfl
    next hno => cases hno.symm.trans ha

theorem State.endRound_now {s : State} {g : StagedSchedule} (hst : s.controller.staged = some g)
    (hg : g.mode = .now) :
    s.endRound = (true, s.roundEnded
      { s.controller with
        active := some { base := g.base, length := g.length, rep := g.rep }
        staged := none, state := .walking, pendingStart := none, walkPos := some g.base }) := by
  unfold State.endRound
  simp only [hst, hg]
  rfl

theorem State.endRound_unstaged {s : State} (hst : s.controller.staged = none) : s.endRound.1 = false := by
  unfold State.endRound
  simp only [hst]
  split
  · split <;> rfl
  · rfl

theorem State.finishRound_rests {s : State} {rest : RoundController} (h : s.controller.EndsIn rest) :
    s.finishRound = s.roundEnded rest := by
  rw [State.finishRound, State.endRound_rests h]
  rfl

/-! ### A walk past its last entry -/

theorem State.walkEntries_staged : ∀ (n pos : Nat) (s : State),
    (State.walkEntries n pos s).2.controller.staged = s.controller.staged
  | 0, _, _ => rfl
  | n + 1, pos, s => by
    unfold State.walkEntries
    split
    · exact State.walkEntries_staged n (pos + 1) (s.bump .skippedPolls)
    · split
      · rfl
      · exact State.walkEntries_staged n (pos + 1) (s.bump .skippedPolls)

theorem State.walkOnce_staged (s : State) : s.walkOnce.2.controller.staged = s.controller.staged := by
  unfold State.walkOnce
  split
  · rfl
  next a ha =>
    have hwalk := State.walkEntries_staged (a.base + a.length - s.controller.walkPos.getD a.base)
      (s.controller.walkPos.getD a.base) (s.withController fun c => { c with state := .walking })
    simp only
    split
    · split
      · exact hwalk
      · exact hwalk
    · exact hwalk

/-- The walk of a schedule staged NOW ends the round it may end with nothing staged. -/
theorem State.walk_unstaged {s : State} (h : s.controller.staged = none) :
    s.walk = if s.walkOnce.1 then s.walkOnce.2.endRound.2 else s.walkOnce.2 := by
  have hend : s.walkOnce.2.endRound.1 = false := State.endRound_unstaged (s.walkOnce_staged.trans h)
  unfold State.walk
  simp only [hend]
  cases s.walkOnce.1 <;> rfl

/-- The state once a walk has passed `n` entries over and has come to its end. -/
def State.walkedOut (s : State) (n : Nat) : State :=
  { s with counters := (s.skipped n).counters, controller := { s.controller with state := .walking } }

/-- A walk that finds no poll ends the round (R53, R54). -/
theorem State.walk_ends {s : State} {a : Schedule} {pos n : Nat} (ha : s.controller.active = some a)
    (hp : s.controller.walkPos.getD a.base = pos) (hn : a.base + a.length - pos = n)
    (hs : s.controller.slot = none) (hf : ¬ ∃ i p, s.firstPoll pos n i p) :
    s.walk = (s.walkedOut n).finishRound := by
  subst hn
  rw [State.walk_of_no_poll ha hp hs hf]
  show (if !(s.walkedOut _).endRound.1 then (s.walkedOut _).endRound.2 else
    if (s.walkedOut _).endRound.2.walkOnce.1 then (s.walkedOut _).endRound.2.walkOnce.2.endRound.2
    else (s.walkedOut _).endRound.2.walkOnce.2) =
    if (s.walkedOut _).endRound.1 then (s.walkedOut _).endRound.2.walk else (s.walkedOut _).endRound.2
  cases hst : s.controller.staged with
  | none =>
    rw [State.endRound_unstaged (s := s.walkedOut _) hst]
    rfl
  | some g =>
    by_cases hg : g.mode = .now
    · rw [State.endRound_now (s := s.walkedOut _) hst hg]
      exact (State.walk_unstaged (s := State.roundEnded _ _) rfl).symm
    · rw [State.endRound_rests (s := s.walkedOut _) (.inr ⟨g, hst, hg, rfl⟩)]
      rfl

/-- A walk that finds no poll sends the slotted one (R53, R58). -/
theorem State.walkOnce_of_slot {s : State} {a : Schedule} {pos n : Nat} {q : Poll}
    (ha : s.controller.active = some a) (hp : s.controller.walkPos.getD a.base = pos)
    (hn : a.base + a.length - pos = n) (hs : s.controller.slot = some q)
    (hf : ¬ ∃ i p, s.firstPoll pos n i p) :
    s.walkOnce = (false, State.sentFrom { s with counters := (s.skipped n).counters }
      { s.controller with slot := none, walkPos := some (a.base + a.length) } q true .round) := by
  subst hn
  unfold State.walkOnce
  rw [ha]
  simp only [hp]
  generalize hw : (s.withController fun c => { c with state := .walking }) = w
  have hf' : ¬ ∃ i p, w.firstPoll pos (a.base + a.length - pos) i p := by
    rintro ⟨i, p, h⟩
    exact hf ⟨i, p, (State.firstPoll_congr (by rw [← hw]; rfl) (by rw [← hw]; rfl) _ _ _ _).1 h⟩
  rw [State.walkEntries_of_no_poll _ _ _ hf']
  have hsl : w.controller.slot = some q := by rw [← hw]; exact hs
  rw [State.skipped_eq, State.skipped_counters_congr (s := s) (by rw [← hw]; rfl)]
  simp only [hsl, if_true]
  rw [← hw]
  rfl

theorem State.walk_of_slot {s : State} {a : Schedule} {pos n : Nat} {q : Poll}
    (ha : s.controller.active = some a) (hp : s.controller.walkPos.getD a.base = pos)
    (hn : a.base + a.length - pos = n) (hs : s.controller.slot = some q)
    (hf : ¬ ∃ i p, s.firstPoll pos n i p) :
    s.walk = State.sentFrom { s with counters := (s.skipped n).counters }
      { s.controller with slot := none, walkPos := some (a.base + a.length) } q true .round := by
  unfold State.walk
  rw [State.walkOnce_of_slot ha hp hn hs hf]
  rfl

/-! ### How a round ends (R54) -/

/-- `t` is `s` with `n` entries passed over, but for the controller. -/
structure State.Passed (s t : State) (n : Nat) : Prop where
  skipped : t.counter .skippedPolls = min 65535 (s.counter .skippedPolls + n)
  others : ∀ d, d ≠ .skippedPolls → t.counter d = s.counter d
  rest : t = { s with counters := t.counters, controller := t.controller }

namespace State.Passed

theorem of_counters {s t : State} {n : Nat} (hc : ∀ d, t.counter d = (s.skipped n).counter d)
    (h : t = { s with counters := t.counters, controller := t.controller }) : s.Passed t n where
  skipped := (hc _).trans (s.counter_skipped n)
  others d hd := (hc d).trans (s.counter_skipped_of_ne n hd)
  rest := h

theorem trans {s t v : State} {n m : Nat} (h : s.Passed t n) (hv : t.Passed v m) : s.Passed v (n + m) where
  skipped := by rw [hv.skipped, h.skipped]; omega
  others d hd := (hv.others d hd).trans (h.others d hd)
  rest := by rw [hv.rest, h.rest]

theorem controller {s t : State} {n : Nat} (h : s.Passed t n) (c : RoundController) :
    s.Passed { t with controller := c } n where
  skipped := h.skipped
  others := h.others
  rest := by rw [h.rest]

theorem sentKind {s t : State} {n : Nat} (h : s.Passed t n) (p : Poll) : t.sentKind p = s.sentKind p := by
  rw [h.rest]; rfl

theorem holdFlag {s t : State} {n : Nat} (h : s.Passed t n) (p : Poll) : t.holdFlag p = s.holdFlag p := by
  rw [h.rest]; rfl

theorem sent {s t : State} {n : Nat} (h : s.Passed t n) (p : Poll) (single : Bool) (ret : ReturnPoint) :
    t.sent p single ret = s.sent p single ret := by
  rw [h.rest]; rfl

theorem firstPoll {s t : State} {n : Nat} (h : s.Passed t n) (b l i : Nat) (p : Poll) :
    t.firstPoll b l i p ↔ s.firstPoll b l i p := by
  rw [h.rest]; exact State.firstPoll_congr rfl rfl ..

end State.Passed

theorem State.passed_skipped (s : State) (n : Nat) (c : RoundController) :
    s.Passed { s with counters := (s.skipped n).counters, controller := c } n :=
  .of_counters (fun _ => rfl) rfl

/-- What every way of ending a round of `s` leaves: ROUND_END set, SKIPPED_POLLS counted, and a controller with
what was sent. -/
structure State.RoundEndsAs (s u : State) (n : Nat) (c : RoundController) (txd : List Byte) : Prop where
  sticky : u.sticky = { s.sticky with roundEnd := true }
  skipped : u.counter .skippedPolls = min 65535 (s.counter .skippedPolls + n)
  others : ∀ d, d ≠ .skippedPolls → u.counter d = s.counter d
  controller : u.controller = c
  txd : u.linkTxd = txd
  rest : u = { s with
    controller := u.controller, sticky := u.sticky, linkTxd := u.linkTxd, counters := u.counters }

theorem State.Passed.roundEnded {s t : State} {n : Nat} (h : s.Passed t n) (c : RoundController) :
    s.RoundEndsAs (t.roundEnded c) n c s.linkTxd := by
  obtain ⟨hs, ho, hr⟩ := h
  refine ⟨?_, hs, ho, rfl, ?_, ?_⟩ <;> rw [hr] <;> rfl

theorem State.RoundEndsAs.sentFrom {s t : State} {n : Nat} {c' : RoundController} {txd : List Byte}
    (h : s.RoundEndsAs t n c' txd) (c : RoundController) (q : Poll) (single : Bool) (ret : ReturnPoint) :
    s.RoundEndsAs (t.sentFrom c q single ret) n
      { c with state := .awaitReply, inFlight := some (s.sent q single ret) }
      (pollFrame q.station (s.sentKind q) (s.holdFlag q)) := by
  obtain ⟨hst, hs, ho, -, -, hr⟩ := h
  refine ⟨hst, hs, ho, ?_, ?_, ?_⟩ <;> rw [hr] <;> rfl

end Sys2Proof.Machine
end

section
/-! PROOFS. A round's end in every case (R53, R54, R58), and the requests of the round controller: SCHEDULE START,
SCHEDULE STAGE, SCHEDULE CANCEL and SINGLE POLL (R52 to R58). -/

namespace Sys2Proof.Machine

theorem RoundController.EndsIn.unique {c r r' : RoundController} (h : c.EndsIn r) (h' : c.EndsIn r') : r = r' := by
  rcases h with ⟨a, hst, ha, rfl⟩ | ⟨g, hst, hg, rfl⟩
  · rcases h' with ⟨a', -, ha', rfl⟩ | ⟨g', hst', -, -⟩
    · obtain rfl : a = a' := Option.some.inj (ha.symm.trans ha')
      rfl
    · cases hst.symm.trans hst'
  · rcases h' with ⟨a', hst', -, -⟩ | ⟨g', hst', -, rfl⟩
    · cases hst.symm.trans hst'
    · obtain rfl : g = g' := Option.some.inj (hst.symm.trans hst')
      rfl

/-- The controller rests in IDLE or ROUND_WAIT. -/
theorem RoundController.EndsIn.state {c r : RoundController} (h : c.EndsIn r) :
    r.state = .idle ∨ r.state = .roundWait := by
  rcases h with ⟨a, -, -, rfl⟩ | ⟨g, -, -, rfl⟩
  · cases a.rep
    · exact .inl rfl
    · exact .inr rfl
  · exact .inr rfl

theorem RoundController.EndsIn.slot {c r : RoundController} (h : c.EndsIn r) : r.slot = c.slot := by
  rcases h with ⟨a, -, -, rfl⟩ | ⟨g, -, -, rfl⟩ <;> rfl

theorem RoundController.EndsIn.staged {c r : RoundController} (h : c.EndsIn r) {g : StagedSchedule}
    (hg : c.staged = some g) : g.mode ≠ .now := by
  rcases h with ⟨a, hst, -, -⟩ | ⟨g', hst, hm, -⟩
  · cases hst.symm.trans hg
  · obtain rfl : g' = g := Option.some.inj (hst.symm.trans hg)
    exact hm

theorem State.RoundEndsAs.skip {s t : State} {n : Nat} {c : RoundController} {txd : List Byte}
    (h : s.RoundEndsAs t n c txd) (i : Nat) (c' : RoundController) :
    s.RoundEndsAs { t with counters := (t.skipped i).counters, controller := c' } (n + i) c' txd := by
  obtain ⟨hst, hs, ho, -, htxd, hr⟩ := h
  refine ⟨hst, ?_, fun d hd => ?_, rfl, htxd, ?_⟩
  · exact (t.counter_skipped i).trans (by rw [hs]; omega)
  · exact (t.counter_skipped_of_ne i hd).trans (ho d hd)
  · rw [hr]

/-- The conclusions of a round's end, from what each way of ending leaves. -/
theorem State.EndsRound.of_rests {s u : State} {n : Nat} {rest c : RoundController} {txd : List Byte}
    (hrest : RoundController.EndsIn { s.controller with inFlight := none } rest) (h : s.RoundEndsAs u n c txd)
    (hnone : s.controller.slot = none → c = rest ∧ txd = s.linkTxd)
    (hsome : ∀ q, s.controller.slot = some q →
      c = { rest with
        state := .awaitReply, slot := none
        inFlight := some (s.sent q true (if rest.state = .idle then ReturnPoint.idle else .roundWait)) } ∧
      txd = pollFrame q.station (s.sentKind q) (s.holdFlag q)) : s.EndsRound u n := by
  refine ⟨h.sticky, h.others, h.rest, fun r hr => ?_, fun g walking hg hm => absurd hm (hrest.staged hg)⟩
  obtain rfl : r = rest := RoundController.EndsIn.unique (c := { s.controller with inFlight := none }) hr hrest
  rw [h.controller, h.txd]
  exact ⟨h.skipped, hnone, hsome⟩

/-- The controller that walks the schedule staged NOW (R54). -/
def RoundController.walking (c : RoundController) (g : StagedSchedule) : RoundController :=
  { c with
    state := .awaitReply, staged := none, pendingStart := none
    active := some { base := g.base, length := g.length, rep := g.rep } }

/-- The conclusions of a round's end that walks a schedule staged NOW: it finds a poll, or sends the slotted one,
or ends in its turn. -/
theorem State.EndsRound.of_now {s u : State} {n m : Nat} {g : StagedSchedule} {c : RoundController}
    {txd : List Byte} (hg : s.controller.staged = some g) (hm : g.mode = .now)
    (h : s.RoundEndsAs u (n + m) c txd)
    (hpoll : ∀ i p, s.firstPoll g.base g.length i p → m = i ∧
      c = { s.controller.walking g with
        walkPos := some (g.base + i + 1), inFlight := some (s.sent p false .round) } ∧
      txd = pollFrame p.station (s.sentKind p) (s.holdFlag p))
    (hno : (¬ ∃ i p, s.firstPoll g.base g.length i p) → m = g.length ∧
      (∀ q, s.controller.slot = some q →
        c = { s.controller.walking g with
          slot := none, walkPos := some (g.base + g.length), inFlight := some (s.sent q true .round) } ∧
        txd = pollFrame q.station (s.sentKind q) (s.holdFlag q)) ∧
      (s.controller.slot = none →
        c = { s.controller.walking g with
          state := if g.rep = true then .roundWait else .idle
          active := if g.rep = true then (s.controller.walking g).active else none
          walkPos := none, inFlight := none } ∧
        txd = s.linkTxd)) : s.EndsRound u n := by
  refine ⟨h.sticky, h.others, h.rest, fun r hr => ?_, fun g' walking hg' _ hw => ?_⟩
  · have hends : RoundController.EndsIn { s.controller with inFlight := none } r := hr
    exact absurd hm (hends.staged hg)
  · obtain rfl : g' = g := Option.some.inj (hg'.symm.trans hg)
    subst hw
    rw [h.controller, h.txd]
    refine ⟨fun i p hp => ?_, fun hnone => ?_⟩
    · obtain ⟨rfl, hc, ht⟩ := hpoll i p hp
      exact ⟨h.skipped, hc, ht⟩
    · obtain ⟨rfl, hsome, hempty⟩ := hno hnone
      exact ⟨h.skipped, hsome, hempty⟩

theorem State.firstPoll_unique {s : State} {b l i i' : Nat} {p p' : Poll} (h : s.firstPoll b l i p)
    (h' : s.firstPoll b l i' p') : i = i' ∧ p = p' := by
  obtain ⟨-, hp, hc, hbefore⟩ := h
  obtain ⟨-, hp', hc', hbefore'⟩ := h'
  have hi : i = i' := by
    rcases lt_trichotomy i i' with hlt | heq | hlt
    · exact absurd ((hbefore' i p hlt hp).symm.trans hc) Bool.false_ne_true
    · exact heq
    · exact absurd ((hbefore i' p' hlt hp').symm.trans hc') Bool.false_ne_true
  subst hi
  exact ⟨rfl, Option.some.inj (hp.symm.trans hp')⟩

/-- A round's end that leaves nothing staged NOW: the controller rests, and the slotted poll is sent from there
(R54, R58). -/
theorem State.endsRound_rests {s t : State} {n : Nat} {rest : RoundController} (h : s.Passed t n)
    (ht : t.controller.EndsIn rest) (hs : RoundController.EndsIn { s.controller with inFlight := none } rest) :
    s.EndsRound t.finishRound.settleSlot n := by
  rw [State.finishRound_rests ht]
  have hend := h.roundEnded rest
  have hsl : (t.roundEnded rest).controller.slot = s.controller.slot := hs.slot
  cases hq : s.controller.slot with
  | none =>
    rw [State.settleSlot_of_none (hsl.trans hq)]
    exact .of_rests hs hend (fun _ => ⟨rfl, rfl⟩) fun q hq' => by cases hq.symm.trans hq'
  | some q =>
    rw [State.settleSlot_sends (hsl.trans hq) hs.state]
    refine .of_rests hs (hend.sentFrom ..) (fun hq' => by cases hq.symm.trans hq') fun q' hq' => ?_
    obtain rfl : q = q' := Option.some.inj (hq.symm.trans hq')
    exact ⟨rfl, rfl⟩

/-- A round's end that walks the schedule staged NOW from its base (R54). -/
theorem State.endsRound_now {s v : State} {n : Nat} {g : StagedSchedule} {c : RoundController}
    (hg : s.controller.staged = some g) (hm : g.mode = .now)
    (hc : c = { s.controller.walking g with
      state := .walking, walkPos := some g.base, inFlight := none })
    (h : s.RoundEndsAs v n c s.linkTxd) : s.EndsRound v.walk.settleSlot n := by
  obtain rfl : v.controller = c := h.controller
  have hact : v.controller.active = some { base := g.base, length := g.length, rep := g.rep } := by rw [hc]; rfl
  have hpos : v.controller.walkPos.getD g.base = g.base := by rw [hc]; rfl
  have hslot : v.controller.slot = s.controller.slot := by rw [hc]; rfl
  have hfirst : ∀ i p, v.firstPoll g.base g.length i p ↔ s.firstPoll g.base g.length i p := fun i p => by
    rw [h.rest]
    exact State.firstPoll_congr rfl rfl ..
  by_cases hpoll : ∃ i p, s.firstPoll g.base g.length i p
  · obtain ⟨i, p, hp⟩ := hpoll
    have hwalk : v.walk = v.walkedTo g.base i p :=
      State.walk_of_firstPoll hact hpos (by rw [Nat.add_sub_cancel_left]; exact (hfirst i p).2 hp)
    rw [hwalk, State.settleSlot_of_awaiting rfl]
    refine .of_now hg hm ((h.skip i v.controller).sentFrom { v.controller with walkPos := some (g.base + i + 1) }
      p false .round) (fun i' p' hp' => ?_) fun hno => absurd ⟨i, p, hp⟩ hno
    obtain ⟨rfl, rfl⟩ := State.firstPoll_unique hp hp'
    exact ⟨rfl, by rw [hc]; rfl, rfl⟩
  · have hno : ¬ ∃ i p, v.firstPoll g.base g.length i p := by simpa only [hfirst] using hpoll
    cases hs : s.controller.slot with
    | some q =>
      rw [State.walk_of_slot hact hpos (Nat.add_sub_cancel_left ..) (hslot.trans hs) hno,
        State.settleSlot_of_awaiting rfl]
      refine .of_now hg hm ((h.skip g.length v.controller).sentFrom
        { v.controller with slot := none, walkPos := some (g.base + g.length) } q true .round)
        (fun i p hp => absurd ⟨i, p, hp⟩ hpoll) fun _ => ⟨rfl, fun q' hq' => ?_, fun hq' => by cases hs.symm.trans hq'⟩
      obtain rfl : q = q' := Option.some.inj (hs.symm.trans hq')
      exact ⟨by rw [hc]; rfl, rfl⟩
    | none =>
      have hpass : s.RoundEndsAs (v.walkedOut g.length) (n + g.length) { v.controller with state := .walking }
          s.linkTxd := h.skip g.length _
      obtain ⟨rest, hrest⟩ : ∃ rest, rest = { s.controller.walking g with
          state := if g.rep = true then .roundWait else .idle
          active := if g.rep = true then (s.controller.walking g).active else none
          walkPos := none, inFlight := none } := ⟨_, rfl⟩
      have hends : (v.walkedOut g.length).controller.EndsIn rest := by
        refine .inl ⟨_, ?_, hact, ?_⟩
        · show v.controller.staged = none
          rw [hc]; rfl
        · rw [hrest]
          show _ = { v.controller with
            state := if g.rep = true then .roundWait else .idle
            active := if g.rep = true then some { base := g.base, length := g.length, rep := g.rep } else none
            pendingStart := none, walkPos := none }
          rw [hc]
          rfl
      have hfin : s.RoundEndsAs ((v.walkedOut g.length).roundEnded rest) (n + g.length) rest s.linkTxd := by
        obtain ⟨h1, h2, h3, -, h5, h6⟩ := hpass
        refine ⟨?_, h2, h3, rfl, h5, ?_⟩ <;> rw [h6]
        · rw [h1]
          rfl
        · rfl
      rw [State.walk_ends hact hpos (Nat.add_sub_cancel_left ..) (hslot.trans hs) hno, State.finishRound_rests hends,
        State.settleSlot_of_none (by show rest.slot = none; rw [hrest]; exact hs)]
      exact .of_now hg hm hfin (fun i p hp => absurd ⟨i, p, hp⟩ hpoll) fun _ =>
        ⟨rfl, (fun q hq => by cases hs.symm.trans hq), fun _ => ⟨hrest, rfl⟩⟩

/-- However a round of `s` comes to its end, with `n` entries passed over (R54, R58). -/
theorem State.endsRound {s t : State} {n : Nat} {st : ControllerState} {ps : Option PendingStart}
    {wp : Option Nat} (h : s.Passed t n)
    (hc : t.controller = { s.controller with state := st, pendingStart := ps, walkPos := wp, inFlight := none })
    (ha : s.controller.active.isSome = true) : s.EndsRound t.finishRound.settleSlot n := by
  have hrests : ∀ rest, RoundController.EndsIn { s.controller with inFlight := none } rest →
      s.EndsRound t.finishRound.settleSlot n := fun rest hrest =>
    State.endsRound_rests h (by rw [hc]; exact hrest) hrest
  cases hst : s.controller.staged with
  | none =>
    obtain ⟨a, ha⟩ := Option.isSome_iff_exists.1 ha
    exact hrests _ (.inl ⟨a, hst, ha, rfl⟩)
  | some g =>
    by_cases hm : g.mode = .now
    · have htst : t.controller.staged = some g := by rw [hc]; exact hst
      have hfinish := congrArg (fun r : Bool × State => if r.1 then r.2.walk else r.2) (State.endRound_now htst hm)
      rw [show t.finishRound = _ from hfinish]
      exact State.endsRound_now hst hm (by rw [hc]; rfl) (h.roundEnded _)
    · exact hrests _ (.inr ⟨g, hst, hm, rfl⟩)

end Sys2Proof.Machine
end

section
/-! PROOFS. SCHEDULE START, SCHEDULE STAGE, SCHEDULE CANCEL and SINGLE POLL (R52 to R58). -/

namespace Sys2Proof.Machine

/-! ### A walk that sends a poll -/

/-- A walk from `s` leaves `u`: `n` entries passed over, a controller and what was sent. -/
structure State.WalksTo (s u : State) (n : Nat) (c : RoundController) (txd : List Byte) : Prop where
  controller : u.controller = c
  txd : u.linkTxd = txd
  skipped : u.counter .skippedPolls = min 65535 (s.counter .skippedPolls + n)
  others : ∀ d, d ≠ .skippedPolls → u.counter d = s.counter d
  rest : u = { s with controller := u.controller, linkTxd := u.linkTxd, counters := u.counters }

theorem State.Passed.sentFrom {s t : State} {n : Nat} (h : s.Passed t n) (c : RoundController) (q : Poll)
    (single : Bool) (ret : ReturnPoint) :
    s.WalksTo (t.sentFrom c q single ret) n
      { c with state := .awaitReply, inFlight := some (s.sent q single ret) }
      (pollFrame q.station (s.sentKind q) (s.holdFlag q)) := by
  obtain ⟨hs, ho, hr⟩ := h
  refine ⟨?_, ?_, hs, ho, ?_⟩ <;> rw [hr] <;> rfl

theorem State.passed_closeRaises (s : State) : s.Passed s.closeRaises 0 where
  skipped := by
    rw [State.counter_closeRaises, Nat.add_zero]
    exact (Nat.min_eq_right (s.counter_le _)).symm
  others d _ := s.counter_closeRaises d
  rest := rfl

theorem State.passed_controller (s : State) (c : RoundController) : s.Passed { s with controller := c } 0 where
  skipped := by
    show s.counter _ = _
    rw [Nat.add_zero]
    exact (Nat.min_eq_right (s.counter_le _)).symm
  others _ _ := rfl
  rest := rfl

/-- A walk begun in `v` that finds a poll. -/
theorem State.Passed.walk_poll {s v : State} {m w n i : Nat} {a : Schedule} {p : Poll} (h : s.Passed v m)
    (ha : v.controller.active = some a) (hw : v.controller.walkPos.getD a.base = w)
    (hn : a.base + a.length - w = n) (hp : s.firstPoll w n i p) :
    s.WalksTo v.walk.settleSlot (m + i)
      { v.controller with
        state := .awaitReply, walkPos := some (w + i + 1), inFlight := some (s.sent p false .round) }
      (pollFrame p.station (s.sentKind p) (s.holdFlag p)) := by
  subst hn
  have hwalk : v.walk = v.walkedTo w i p := State.walk_of_firstPoll ha hw ((h.firstPoll ..).2 hp)
  rw [hwalk, State.settleSlot_of_awaiting rfl]
  exact (h.trans (v.passed_skipped i v.controller)).sentFrom { v.controller with walkPos := some (w + i + 1) } p false
    .round

/-- A walk begun in `v` that finds none and sends the slotted poll. -/
theorem State.Passed.walk_slot {s v : State} {m w n : Nat} {a : Schedule} {q : Poll} (h : s.Passed v m)
    (ha : v.controller.active = some a) (hw : v.controller.walkPos.getD a.base = w)
    (hn : a.base + a.length - w = n) (hs : v.controller.slot = some q) (hno : ¬ ∃ i p, s.firstPoll w n i p) :
    s.WalksTo v.walk.settleSlot (m + n)
      { v.controller with
        state := .awaitReply, slot := none, walkPos := some (a.base + a.length)
        inFlight := some (s.sent q true .round) }
      (pollFrame q.station (s.sentKind q) (s.holdFlag q)) := by
  have hno' : ¬ ∃ i p, v.firstPoll w n i p := fun ⟨i, p, hp⟩ => hno ⟨i, p, (h.firstPoll ..).1 hp⟩
  rw [State.walk_of_slot ha hw hn hs hno', State.settleSlot_of_awaiting rfl]
  exact (h.trans (v.passed_skipped n v.controller)).sentFrom
    { v.controller with slot := none, walkPos := some (a.base + a.length) } q true .round

/-- A walk begun in `v` that finds none ends the round. -/
theorem State.Passed.walk_ends {s v : State} {m w n : Nat} {a : Schedule} {ps : Option PendingStart}
    {wp : Option Nat} (h : s.Passed v m)
    (ha : v.controller.active = some a) (hw : v.controller.walkPos.getD a.base = w)
    (hn : a.base + a.length - w = n) (hs : v.controller.slot = none) (hno : ¬ ∃ i p, s.firstPoll w n i p)
    (hc : { v.controller with state := .walking } =
      { s.controller with state := .walking, pendingStart := ps, walkPos := wp, inFlight := none }) :
    s.EndsRound v.walk.settleSlot (m + n) := by
  have hno' : ¬ ∃ i p, v.firstPoll w n i p := fun ⟨i, p, hp⟩ => hno ⟨i, p, (h.firstPoll ..).1 hp⟩
  rw [State.walk_ends ha hw hn hs hno']
  refine State.endsRound (h.trans (v.passed_skipped n _)) hc ?_
  have hact := congrArg (fun c : RoundController => c.active) hc
  rw [show s.controller.active = some a from hact.symm.trans ha]
  rfl

/-! ### SCHEDULE START and SCHEDULE STAGE (R52, R56) -/

theorem readStartMode_code (m : StartMode) : readStartMode (startModeCode m) = some m := by cases m <;> rfl

theorem readStartMode_of_le {n : Nat} (h : n ≤ 2) : ∃ m, readStartMode n = some m ∧ startModeCode m = n := by
  match n with
  | 0 | 1 | 2 => exact ⟨_, rfl, rfl⟩
  | n + 3 => omega

theorem readStartMode_of_gt {n : Nat} (h : 2 < n) : readStartMode n = none := by
  obtain ⟨m, rfl⟩ := Nat.exists_eq_add_of_le' h
  rfl

theorem readSchedule_range {o : ScheduleOperands}
    (h : o.length = 0 ∨ 64 < o.length ∨ 256 < o.base + o.length ∨ 2 < o.startMode ∨ 1 < o.rep) :
    readSchedule o = none := by
  unfold readSchedule
  split
  next mode rep hm hr =>
    refine if_neg fun hc => ?_
    simp only [Bool.and_eq_true, inRange_iff, decide_eq_true_eq] at hc
    rcases h with h | h | h | h | h
    · omega
    · omega
    · omega
    · rw [readStartMode_of_gt h] at hm; cases hm
    · rw [readYesNo_of_gt h] at hr; cases hr
  · rfl

theorem readSchedule_fields {o : ScheduleOperands} {mode : StartMode} {rep : Bool} (h1 : 1 ≤ o.length)
    (h2 : o.length ≤ 64) (h3 : o.base + o.length ≤ 256) (hm : o.startMode = startModeCode mode)
    (hr : o.rep = yesNoCode rep) :
    readSchedule o = some { base := o.base, length := o.length, mode := mode, rep := rep } := by
  rw [readSchedule, hm, readStartMode_code, readYesNo_eq_some_iff.2 hr]
  refine if_pos ?_
  simp only [Bool.and_eq_true, inRange_iff, decide_eq_true_eq]
  omega

theorem workScheduleStart_range {o : ScheduleOperands} {s : State} (h : readSchedule o = none) :
    workScheduleStart o s = ({ code := .range }, s) := by rw [workScheduleStart, h]

theorem workScheduleStart_pending {o : ScheduleOperands} {s : State} {g : StagedSchedule}
    (h : readSchedule o = some g) (hi : s.controller.state ≠ .idle) :
    workScheduleStart o s = ({ code := .pending }, s) := by
  rw [workScheduleStart, h]
  exact if_pos hi

theorem workScheduleStart_starts {o : ScheduleOperands} {s : State} {g : StagedSchedule}
    (h : readSchedule o = some g) (hi : s.controller.state = .idle) :
    workScheduleStart o s = ({ code := .ok }, s.startSchedule g) := by
  rw [workScheduleStart, h]
  exact if_neg (not_not.2 hi)

theorem State.startSchedule_waits {s : State} {g : StagedSchedule} (h : g.mode ≠ .now) : s.startSchedule g =
    { s with controller := { s.controller with
      state := .roundWait
      active := some { base := g.base, length := g.length, rep := g.rep }
      pendingStart := some (if g.mode = .atTimer then .atTimer else .empty) } } := by
  rw [State.startSchedule]
  cases hm : g.mode with
  | now => exact absurd hm h
  | _ => rfl

/-- The controller that begins to walk a schedule at its base (R52, R55). -/
def RoundController.begun (c : RoundController) (a : Schedule) : RoundController :=
  { c with state := .walking, active := some a, pendingStart := none, walkPos := some a.base }

theorem State.startSchedule_now {s : State} {g : StagedSchedule} (h : g.mode = .now) : s.startSchedule g =
    { s with controller :=
      s.controller.begun { base := g.base, length := g.length, rep := g.rep } }.walk.settleSlot := by
  rw [State.startSchedule, h]
  rfl

theorem State.beginWalk_eq {s : State} {a : Schedule} (ha : s.controller.active = some a) :
    s.beginWalk = { s with controller := s.controller.begun a }.walk := by
  have hb : { s.controller with
      state := .walking, pendingStart := none, walkPos := s.controller.active.map (·.base) } =
      s.controller.begun a := by
    simp only [RoundController.begun, ha, Option.map_some]
  exact congrArg (fun c => State.walk { s with controller := c }) hb

/-- An idle controller under the law holds nothing (R51). -/
theorem State.ControllerLaw.at_idle {s : State} (h : s.ControllerLaw) (hi : s.controller.state = .idle) :
    s.controller.active = none ∧ s.controller.staged = none ∧ s.controller.pendingStart = none ∧
      s.controller.slot = none ∧ s.controller.inFlight = none := by
  obtain ⟨hsched, hfly, hslot, -, -, hidle, -⟩ := h
  have ha := hidle hi
  have hna : s.controller.active.isSome = true → False := fun h => by rw [ha] at h; cases h
  have hnw : s.controller.state = .awaitReply → False := fun h => by rw [hi] at h; cases h
  refine ⟨ha, ?_, ?_, ?_, ?_⟩ <;> rw [← Option.not_isSome_iff_eq_none]
  · exact fun h => hna (hsched.1 h)
  · exact fun h => hna (hsched.2 h)
  · exact fun h => hnw (hslot h)
  · exact fun h => hnw (hfly.1 h)

/-- The controller of an idle part that begins to walk. -/
theorem RoundController.begun_of_idle {c : RoundController} (hp : c.pendingStart = none) (a : Schedule) :
    c.begun a = { c with state := .walking, active := some a, walkPos := some a.base } := by
  rw [RoundController.begun, ← hp]

/-- SCHEDULE START NOW with a poll to send (R52, R53). -/
theorem startSchedule_sends {s : State} {g : StagedSchedule} {i : Nat} {p : Poll} (hl : s.ControllerLaw)
    (hi : s.controller.state = .idle) (hg : g.mode = .now) (hp : s.firstPoll g.base g.length i p) :
    s.WalksTo (s.startSchedule g) i
      { s.controller with
        state := .awaitReply
        active := some { base := g.base, length := g.length, rep := g.rep }
        walkPos := some (g.base + i + 1)
        inFlight := some (s.sent p false .round) }
      (pollFrame p.station (s.sentKind p) (s.holdFlag p)) := by
  obtain ⟨-, -, hps, -, -⟩ := hl.at_idle hi
  rw [State.startSchedule_now hg, RoundController.begun_of_idle hps]
  have := (s.passed_controller { s.controller with
    state := .walking, active := some { base := g.base, length := g.length, rep := g.rep }
    walkPos := some g.base }).walk_poll (a := { base := g.base, length := g.length, rep := g.rep }) rfl rfl
    (Nat.add_sub_cancel_left ..) hp
  rwa [Nat.zero_add] at this

/-- SCHEDULE START NOW with none: the round ends at once (R54). -/
theorem startSchedule_ends {s : State} {g : StagedSchedule} (hl : s.ControllerLaw)
    (hi : s.controller.state = .idle) (hg : g.mode = .now) (hno : ¬ ∃ i p, s.firstPoll g.base g.length i p) :
    State.EndsRound { s with controller := { s.controller with
      active := some { base := g.base, length := g.length, rep := g.rep } } } (s.startSchedule g) g.length := by
  obtain ⟨-, -, hps, hslot, hfly⟩ := hl.at_idle hi
  rw [State.startSchedule_now hg, RoundController.begun_of_idle hps]
  have := (State.passed_controller { s with controller := { s.controller with
      active := some { base := g.base, length := g.length, rep := g.rep } } }
    { s.controller with
      state := .walking, active := some { base := g.base, length := g.length, rep := g.rep }
      walkPos := some g.base }).walk_ends (a := { base := g.base, length := g.length, rep := g.rep })
    (ps := none) (wp := some g.base) rfl rfl (Nat.add_sub_cancel_left ..) hslot hno (by rw [← hfly, ← hps])
  rwa [Nat.zero_add] at this

theorem workScheduleStage_range {o : ScheduleOperands} {s : State} (h : readSchedule o = none) :
    workScheduleStage o s = ({ code := .range }, s) := by rw [workScheduleStage, h]

theorem workScheduleStage_idle {o : ScheduleOperands} {s : State} {g : StagedSchedule}
    (h : readSchedule o = some g) (ha : s.controller.active = none) :
    workScheduleStage o s = ({ code := .idle }, s) := by
  rw [workScheduleStage, h]
  exact if_pos (by rw [ha]; rfl)

theorem workScheduleStage_staged {o : ScheduleOperands} {s : State} {g : StagedSchedule}
    (h : readSchedule o = some g) (ha : s.controller.active.isSome = true) :
    workScheduleStage o s = if s.controller.staged.isSome then ({ code := .pending }, s)
      else ({ code := .ok }, { s with controller := { s.controller with staged := some g } }) := by
  rw [workScheduleStage, h]
  exact if_neg (by rw [Option.isNone_iff_eq_none, ← Option.not_isSome_iff_eq_none]; exact not_not.2 ha)

theorem State.sentKind_eq_status (s : State) (p : Poll) :
    s.sentKind p = .status ↔ (s.station p.station).run.health = .down ∨ p.kind = .status := by
  unfold State.sentKind
  split <;> simp_all

theorem State.holdFlag_iff (s : State) (p : Poll) : s.holdFlag p = true ↔
    s.sentKind p = .evidence ∧ s.link.threshold ≤ s.fifo.length ∧
      (s.station p.station).config.holdAllowed = true ∧ (s.station p.station).run.holdCapable = some true := by
  simp [State.holdFlag, State.resolvedHold, and_assoc]

/-- Settles O41: START by its checks, its start mode and what its walk finds; STAGE by its checks. -/
theorem scheduleStartAndStage : Obligations.ScheduleStartAndStage := by
  refine ⟨fun h tag o s hl ht => ⟨fun hr => ?_, fun rep h1 h2 h3 hm hr => ⟨fun hi => ?_, fun hi h1m => ?_,
    fun i p hi h0 hp => ?_, fun hi h0 hno => ?_⟩⟩,
    fun h tag o s ht => ⟨fun hr => ?_, fun mode rep h1 h2 h3 hm hr => ?_⟩,
    fun s p => ⟨s.sentKind_eq_status p, s.holdFlag_iff p⟩⟩
  · exact exec_taken_work rfl ht rfl rfl (workScheduleStart_range (readSchedule_range hr))
  · obtain ⟨mode, -, hmode⟩ := readStartMode_of_le hm
    exact exec_taken_work rfl ht rfl rfl
      (workScheduleStart_pending (readSchedule_fields h1 h2 h3 hmode.symm hr) hi)
  · obtain ⟨mode, -, hmode⟩ := readStartMode_of_le hm
    have hne : mode ≠ .now := fun h => by rw [h] at hmode; exact absurd hmode (by show ¬ 0 = _; omega)
    have hiff : (mode = .atTimer) = (o.startMode = 1) := by
      rw [← hmode]
      cases mode <;> simp [startModeCode]
    rw [exec_taken_work (c := .scheduleStart h o) rfl ht rfl rfl
      (workScheduleStart_starts (readSchedule_fields h1 h2 h3 hmode.symm hr) hi), State.startSchedule_waits hne]
    simp only [hiff]
  · have hexec := exec_taken_work (c := .scheduleStart h o) rfl ht rfl rfl
      (workScheduleStart_starts (readSchedule_fields (mode := .now) h1 h2 h3 h0 hr) hi)
    obtain ⟨hc, htxd, hs, ho, hrest⟩ := startSchedule_sends (s := s)
      (g := { base := o.base, length := o.length, mode := .now, rep := rep }) hl hi rfl hp
    exact ⟨_, hexec, hc, htxd, hs, ho, hrest⟩
  · have hexec := exec_taken_work (c := .scheduleStart h o) rfl ht rfl rfl
      (workScheduleStart_starts (readSchedule_fields (mode := .now) h1 h2 h3 h0 hr) hi)
    obtain ⟨hsticky, ho, hrest, hends, -⟩ := startSchedule_ends (s := s)
      (g := { base := o.base, length := o.length, mode := .now, rep := rep }) hl hi rfl hno
    obtain ⟨ha, hst, hps, hslot, hfly⟩ := hl.at_idle hi
    obtain ⟨hs, hcontroller, -⟩ := hends _ (.inl ⟨_, hst, rfl, rfl⟩)
    obtain ⟨hc, htxd⟩ := hcontroller hslot
    refine ⟨_, hexec, ?_, hsticky, hs, ho, ?_⟩
    · rw [hc]
      cases rep <;> simp [hi, ha, hps, hfly]
    · rw [hrest, htxd]
  · exact exec_taken_work rfl ht rfl rfl (workScheduleStage_range (readSchedule_range hr))
  · have hg := readSchedule_fields h1 h2 h3 hm hr
    refine ⟨fun ha => exec_taken_work rfl ht rfl rfl (workScheduleStage_idle hg ha), fun ha hs => ?_, fun ha hs => ?_⟩
    · exact exec_taken_work rfl ht rfl rfl ((workScheduleStage_staged hg ha).trans (if_pos hs))
    · exact exec_taken_work rfl ht rfl rfl ((workScheduleStage_staged hg ha).trans (if_neg (by rw [hs]; decide)))

end Sys2Proof.Machine
end

section
/-! PROOFS. SCHEDULE CANCEL and SINGLE POLL (R57, R58), the round timer (R55), and the events of a poll (R60). -/

namespace Sys2Proof.Machine

/-! ### SCHEDULE CANCEL and SINGLE POLL -/

/-- The slot is empty wherever no poll is in flight (R58). -/
theorem State.ControllerLaw.slot_none {s : State} (h : s.ControllerLaw) (hf : s.controller.inFlight = none) :
    s.controller.slot = none ∧ s.controller.state ≠ .awaitReply := by
  obtain ⟨-, hfly, hslot, -⟩ := h
  have hna : s.controller.state ≠ .awaitReply := fun hst => by
    have := hfly.2 hst
    rw [hf] at this
    cases this
  exact ⟨Option.not_isSome_iff_eq_none.1 fun hs => hna (hslot hs), hna⟩

theorem State.ControllerLaw.inFlight_none {s : State} (h : s.ControllerLaw)
    (hst : s.controller.state ≠ .awaitReply) : s.controller.inFlight = none :=
  Option.not_isSome_iff_eq_none.1 fun hs => hst (h.2.1.1 hs)

/-- The controller after a cancel (R57). -/
def RoundController.cancelled (c : RoundController) : RoundController :=
  { c with active := none, staged := none, pendingStart := none, walkPos := none, expiryDue := false }

theorem workScheduleCancel_inFlight {s : State} {f : InFlight} (hst : s.controller.state = .awaitReply)
    (hf : s.controller.inFlight = some f) : workScheduleCancel s =
      ({ code := .ok }, { s with controller :=
        { s.controller.cancelled with inFlight := some { f with returnPoint := .idleAfterCancel } } }) := by
  unfold workScheduleCancel
  simp only [State.withController, RoundController.cancelled, hst, hf, Option.map_some]

theorem workScheduleCancel_rests {s : State} (hst : s.controller.state ≠ .awaitReply)
    (hs : s.controller.slot = none) : workScheduleCancel s =
      ({ code := .ok }, { s with controller := { s.controller.cancelled with state := .idle } }) := by
  have hrest := State.settleSlot_of_none
      (s := { s with controller := { s.controller.cancelled with state := .idle } }) hs
  unfold workScheduleCancel
  cases hc : s.controller.state with
  | awaitReply => exact absurd hc hst
  | _ =>
    simp only [State.withController, hc]
    exact congrArg (Prod.mk _) hrest

theorem readPollKind_code (k : PollKind) : readPollKind (pollKindCode k) = some k := by cases k <;> rfl

theorem workSinglePoll_range {a n : Nat} {s : State} (h : 15 < a ∨ 1 < n) :
    workSinglePoll a n s = ({ code := .range }, s) := by
  unfold workSinglePoll
  split
  · rfl
  next k hk =>
    refine if_pos (h.resolve_right fun hn => ?_)
    rw [readPollKind_of_gt hn] at hk
    cases hk

theorem workSinglePoll_notFound {a n : Nat} {s : State} (ha : a ≤ 15) (hn : n ≤ 1)
    (hc : (s.station a).config.configured = false) : workSinglePoll a n s = ({ code := .notFound }, s) := by
  rw [workSinglePoll, readPollKind_of_le hn, hc]
  exact if_neg (Nat.not_lt.2 ha)

theorem workSinglePoll_pending {a n : Nat} {s : State} (ha : a ≤ 15) (hn : n ≤ 1)
    (hc : (s.station a).config.configured = true) (hs : s.controller.slot.isSome = true) :
    workSinglePoll a n s = ({ code := .pending }, s) := by
  rw [workSinglePoll, readPollKind_of_le hn, hc]
  exact (if_neg (Nat.not_lt.2 ha)).trans (if_pos hs)

theorem workSinglePoll_slots {p : Poll} {s : State} (ha : p.station ≤ 15)
    (hc : (s.station p.station).config.configured = true) (hs : s.controller.slot = none) :
    workSinglePoll p.station (pollKindCode p.kind) s =
      ({ code := .ok }, State.settleSlot { s with controller := { s.controller with slot := some p } }) := by
  rw [workSinglePoll, readPollKind_code, hc, hs]
  exact if_neg (Nat.not_lt.2 ha)

/-- Settles O42: a cancel with and without a poll in flight, a single poll by its checks and the controller's
state. -/
theorem scheduleCancelAndSinglePoll : Obligations.ScheduleCancelAndSinglePoll := by
  refine ⟨fun h tag s hl ht => ⟨fun f hf => ?_, fun hf => ?_⟩,
    fun h tag a n s hl ht => ⟨fun hr => ?_, fun ha hn hc => ?_, fun ha hn hc hs => ?_, fun p hp ha hn hc hs =>
      ⟨fun hst => ?_, fun hst => ?_⟩⟩⟩
  · exact exec_taken_work rfl ht rfl rfl (workScheduleCancel_inFlight (hl.in_flight hf).1 hf)
  · obtain ⟨hs, hst⟩ := hl.slot_none hf
    exact exec_taken_work rfl ht rfl rfl (workScheduleCancel_rests hst hs)
  · exact exec_taken_work rfl ht rfl rfl (workSinglePoll_range hr)
  · exact exec_taken_work rfl ht rfl rfl (workSinglePoll_notFound ha hn hc)
  · exact exec_taken_work rfl ht rfl rfl (workSinglePoll_pending ha hn hc hs)
  · subst hp hn
    refine exec_taken_work rfl ht rfl rfl ((workSinglePoll_slots ha hc hs).trans ?_)
    rw [State.settleSlot_of_awaiting (s := { s with controller := { s.controller with slot := some p } }) hst]
  · subst hp hn
    have hrest : s.controller.state = .idle ∨ s.controller.state = .roundWait := by
      obtain ⟨-, -, -, hw, -⟩ := hl
      cases hc : s.controller.state with
      | idle => exact .inl rfl
      | roundWait => exact .inr rfl
      | walking => exact absurd hc hw
      | awaitReply => exact absurd hc hst
    refine exec_taken_work rfl ht rfl rfl ((workSinglePoll_slots ha hc hs).trans ?_)
    rw [State.settleSlot_sends (s := { s with controller := { s.controller with slot := some p } }) rfl hrest]
    rw [← hs]
    rfl

/-! ### The round timer (R49, R55) -/

theorem exec_roundTimerExpiry {s : State} (hr : s.resetN = true) :
    exec .roundTimerExpiry s = .next (expireTimer s) := by
  show whenRunning s _ = _
  rw [whenRunning, if_pos hr]

/-- The round timer restarted with the period in force. -/
def State.timerRestarted (s : State) : State :=
  { s with controller := { s.controller with roundTimer := some s.link.period } }

theorem expireTimer_configure {s : State} (h : s.ControllerLaw) (hm : s.mode = .configure) : expireTimer s = s := by
  obtain ⟨-, -, -, -, -, -, -, -, ht⟩ := h
  rw [expireTimer, ht.2 hm]

theorem expireTimer_runs {s : State} (h : s.ControllerLaw) (hm : s.mode ≠ .configure) :
    expireTimer s = s.timerRestarted.expireRound := by
  obtain ⟨-, -, -, -, -, -, -, -, ht⟩ := h
  unfold expireTimer
  split
  next hn => exact absurd (ht.1 hn) hm
  next => rfl

theorem State.expireRound_idle {s : State} (h : s.controller.state = .idle) : s.expireRound = s := by
  rw [State.expireRound, h]

theorem State.expireRound_inFlight {s : State} {f : InFlight} (h : s.controller.state = .awaitReply)
    (hf : s.controller.inFlight = some f) : s.expireRound =
      if f.returnPoint = .roundWait then { s with controller := { s.controller with expiryDue := true } } else s := by
  rw [State.expireRound, h, hf]
  rfl

theorem State.expireRound_roundWait {s : State} (h : s.controller.state = .roundWait) :
    s.expireRound = s.closeRaises.expireRoundWait.settleSlot := by
  rw [State.expireRound, h]

/-- An expiry in ROUND_WAIT walks the schedule, unless an EMPTY start is pending. -/
theorem State.expireRoundWait_walks {s : State} {a : Schedule} (hp : s.controller.pendingStart ≠ some .empty)
    (ha : s.controller.active = some a) :
    s.expireRoundWait = State.walk { s with controller := s.controller.begun a } := by
  unfold State.expireRoundWait
  split
  next h => exact absurd h hp
  next => exact State.beginWalk_eq ha

theorem State.expireRoundWait_empty {s : State} (hp : s.controller.pendingStart = some .empty) :
    s.expireRoundWait =
      State.finishRound { s with controller := { s.controller with pendingStart := none } } := by
  rw [State.expireRoundWait, hp]
  rfl

/-- An expiry in ROUND_WAIT that finds a poll (R55). -/
theorem expireRoundWait_sends {s v : State} {n i : Nat} {a : Schedule} {p : Poll} (h : s.Passed v n)
    (hp : v.controller.pendingStart ≠ some .empty) (ha : v.controller.active = some a)
    (hf : s.firstPoll a.base a.length i p) :
    s.WalksTo v.expireRoundWait.settleSlot (n + i)
      { v.controller with
        state := .awaitReply, pendingStart := none, walkPos := some (a.base + i + 1)
        inFlight := some (s.sent p false .round) }
      (pollFrame p.station (s.sentKind p) (s.holdFlag p)) := by
  have hb : v.controller.begun a =
      { v.controller with state := .walking, pendingStart := none, walkPos := some a.base } := by
    rw [RoundController.begun, ← ha]
  rw [State.expireRoundWait_walks hp ha, hb]
  exact (h.controller _).walk_poll (a := a) ha rfl (Nat.add_sub_cancel_left ..) hf

/-- An expiry in ROUND_WAIT that finds none, or that finds an EMPTY start pending, ends the round. -/
theorem expireRoundWait_ends {s v : State} {m n : Nat} {a : Schedule} (h : s.Passed v m)
    (ha : v.controller.active = some a) (hs : v.controller.slot = none)
    (hc : ∃ st ps, v.controller = { s.controller with state := st, pendingStart := ps, inFlight := none })
    (hn : (v.controller.pendingStart = some .empty ∧ n = 0) ∨
      (v.controller.pendingStart ≠ some .empty ∧ n = a.length ∧ ¬ ∃ i p, s.firstPoll a.base a.length i p)) :
    s.EndsRound v.expireRoundWait.settleSlot (m + n) := by
  obtain ⟨st, ps, hc⟩ := hc
  rcases hn with ⟨hp, rfl⟩ | ⟨hp, rfl, hno⟩
  · rw [State.expireRoundWait_empty hp]
    refine State.endsRound (st := st) (ps := none) (wp := s.controller.walkPos)
      (h.controller { v.controller with pendingStart := none }) (by rw [hc]) ?_
    rw [hc] at ha
    rw [show s.controller.active = some a from ha]
    rfl
  · rw [State.expireRoundWait_walks hp ha]
    refine (h.controller (v.controller.begun a)).walk_ends (a := a) (ps := none) (wp := some a.base) rfl rfl
      (Nat.add_sub_cancel_left ..) hs hno ?_
    show ({ v.controller.begun a with state := .walking } : RoundController) = _
    rw [RoundController.begun, ← ha, hc]

end Sys2Proof.Machine
end

section
/-! PROOFS. ROUND_TIMER_EXPIRY in every state of the controller (R49, R54, R55), and the events of a poll with
where the controller moves after its outcome (R53 to R55, R57, R58, R60, R193). -/

namespace Sys2Proof.Machine

theorem State.ControllerLaw.roundWait_mode {s : State} (h : s.ControllerLaw)
    (hst : s.controller.state = .roundWait) : s.mode ≠ .configure := fun hm => by
  obtain ⟨-, -, -, -, -, -, -, hconf, -⟩ := h
  exact absurd (hst.symm.trans (hconf hm)) (by decide)

/-- An expiry in ROUND_WAIT: the timer restarts and the raises are closed before the round is acted on. -/
theorem exec_roundTimerExpiry_roundWait {s : State} (hr : s.resetN = true) (h : s.ControllerLaw)
    (hst : s.controller.state = .roundWait) :
    exec .roundTimerExpiry s = .next s.timerRestarted.closeRaises.expireRoundWait.settleSlot := by
  rw [exec_roundTimerExpiry hr, expireTimer_runs h (h.roundWait_mode hst),
    State.expireRound_roundWait (s := s.timerRestarted) hst]

/-- Settles O43: each state of the controller, and in ROUND_WAIT what the walk finds. -/
theorem roundTimerExpiry : Obligations.RoundTimerExpiry := by
  intro s hr hl
  refine ⟨fun hm => ?_, fun hm hi => ?_, fun f hm hf => ?_, fun a i p hst ha hps hp => ?_, fun a n hst ha hn => ?_⟩
  · rw [exec_roundTimerExpiry hr, expireTimer_configure hl hm]
  · rw [exec_roundTimerExpiry hr, expireTimer_runs hl hm, State.expireRound_idle (s := s.timerRestarted) hi]
    rfl
  · rw [exec_roundTimerExpiry hr, expireTimer_runs hl hm,
      State.expireRound_inFlight (s := s.timerRestarted) (hl.in_flight hf).1 hf]
    split <;> rfl
  · have hpass : s.Passed s.timerRestarted.closeRaises 0 :=
      (s.passed_controller _).trans s.timerRestarted.passed_closeRaises
    obtain ⟨hc, htxd, hs, ho, hrest⟩ := expireRoundWait_sends hpass hps ha hp
    rw [Nat.zero_add] at hs
    exact ⟨_, exec_roundTimerExpiry_roundWait hr hl hst, hc, htxd, hs, ho, hrest⟩
  · have hfly := hl.inFlight_none (by rw [hst]; decide)
    obtain ⟨hslot, -⟩ := hl.slot_none hfly
    have hends := expireRoundWait_ends (s := s.timerRestarted) (v := s.timerRestarted.closeRaises) (m := 0) (n := n)
      s.timerRestarted.passed_closeRaises ha hslot ⟨s.controller.state, s.controller.pendingStart, by rw [← hfly]; rfl⟩
      (hn.imp id fun ⟨h1, h2, h3⟩ => ⟨h1, h2, fun ⟨i, p, hp⟩ => h3 ⟨i, p, hp⟩⟩)
    rw [Nat.zero_add] at hends
    obtain ⟨hsticky, ho, hrest, hrests, hnow⟩ := id hends
    refine ⟨_, exec_roundTimerExpiry_roundWait hr hl hst, hsticky, ho, hrest, hends, fun hst => ?_, fun g hg hm => ?_,
      fun g i p hg hm hp => ?_⟩
    · obtain ⟨hs, hempty, -⟩ := hrests _ (.inl ⟨a, hst, ha, rfl⟩)
      obtain ⟨hc, htxd⟩ := hempty hslot
      exact ⟨by rw [hc, ← hfly]; rfl, htxd, hs⟩
    · obtain ⟨hs, hempty, -⟩ := hrests _ (.inr ⟨g, hg, hm, rfl⟩)
      obtain ⟨hc, htxd⟩ := hempty hslot
      exact ⟨by rw [hc, ← hfly, ← hst]; rfl, htxd, hs⟩
    · obtain ⟨hpoll, -⟩ := hnow g _ hg hm rfl
      obtain ⟨hs, hc, htxd⟩ := hpoll i p hp
      exact ⟨hc, htxd, hs⟩

/-! ### The events of a poll (R60, R193) -/

theorem State.onPoll_some {s : State} {f : InFlight} (hf : s.controller.inFlight = some f) (g : InFlight → State) :
    s.onPoll g = g f := by rw [State.onPoll, hf]

theorem State.onPoll_none {s : State} (hf : s.controller.inFlight = none) (g : InFlight → State) : s.onPoll g = s := by
  rw [State.onPoll, hf]

theorem startReplyTimer_eq {s : State} {f : InFlight} (hf : s.controller.inFlight = some f) :
    startReplyTimer s = if f.phase = .transmitting then
      { s with controller := { s.controller with inFlight := some { f with phase := .awaitingFirst } } } else s := by
  rw [startReplyTimer, State.onPoll_some hf]
  cases f.phase <;> rfl

theorem takeFirstByte_eq {s : State} {f : InFlight} (hf : s.controller.inFlight = some f) (len : Byte) :
    takeFirstByte len s = if f.phase = .awaitingFirst then s.firstByte f len else s := by
  rw [takeFirstByte, State.onPoll_some hf]
  cases f.phase <;> rfl

theorem replyTimesOut_eq {s : State} {f : InFlight} (hf : s.controller.inFlight = some f) :
    replyTimesOut s = if f.phase = .awaitingFirst then s.badOutcome f else s := by
  rw [replyTimesOut, State.onPoll_some hf]
  cases f.phase <;> rfl

theorem replyBreaksOff_receiving {s : State} {f : InFlight} {len : Byte} (hf : s.controller.inFlight = some f)
    (hp : f.phase = .receiving len) : replyBreaksOff s = s.badOutcome f := by
  rw [replyBreaksOff, State.onPoll_some hf, hp]

theorem replyBreaksOff_other {s : State} {f : InFlight} (hf : s.controller.inFlight = some f)
    (hp : ∀ len, f.phase ≠ .receiving len) : replyBreaksOff s = s := by
  rw [replyBreaksOff, State.onPoll_some hf]
  cases hc : f.phase with
  | receiving len => exact absurd hc (hp len)
  | _ => rfl

theorem State.firstByte_bad {s : State} {f : InFlight} {len : Byte} (h : len.toNat < 5 ∨ 45 < len.toNat) :
    s.firstByte f len = (s.recordOutcome f.station false).moveOn f := if_pos h

theorem State.firstByte_good {s : State} {f : InFlight} {len : Byte} (h5 : 5 ≤ len.toNat) (h45 : len.toNat ≤ 45) :
    s.firstByte f len =
      { s with controller := { s.controller with inFlight := some { f with phase := .receiving len } } } :=
  if_neg (by omega)

/-! ### Where the controller moves on (R53 to R55, R57, R58) -/

theorem State.moveOn_round {s : State} {f : InFlight} (hr : f.returnPoint = .round) : s.moveOn f =
    if f.single then
      (State.finishRound { s with controller := { s.controller with inFlight := none } }).settleSlot
    else (State.walk { s with controller := { s.controller with inFlight := none } }).settleSlot := by
  rw [State.moveOn, hr]
  rfl

theorem State.moveOn_idle {s : State} {f : InFlight} (h1 : f.returnPoint ≠ .round) (h2 : f.returnPoint ≠ .roundWait) :
    s.moveOn f =
      State.settleSlot { s with controller := { s.controller with state := .idle, inFlight := none } } := by
  rw [State.moveOn]
  cases hr : f.returnPoint with
  | round => exact absurd hr h1
  | roundWait => exact absurd hr h2
  | _ => rfl

theorem State.moveOn_roundWait {s : State} {f : InFlight} (hr : f.returnPoint = .roundWait)
    (he : s.controller.expiryDue = false) : s.moveOn f =
      State.settleSlot { s with controller := { s.controller with state := .roundWait, inFlight := none } } := by
  rw [State.moveOn, hr]
  simp only [State.withController, he]
  rfl

/-- The controller that acts on a due expiry (R55). -/
def RoundController.due (c : RoundController) : RoundController :=
  { c with state := .roundWait, inFlight := none, expiryDue := false }

theorem State.moveOn_due {s : State} {f : InFlight} (hr : f.returnPoint = .roundWait)
    (he : s.controller.expiryDue = true) : s.moveOn f =
      (State.expireRoundWait { s with controller := s.controller.due }).settleSlot := by
  rw [State.moveOn, hr]
  simp only [State.withController, he]
  rfl

/-- Within a round, and with an expiry due from ROUND_WAIT, the controller moves on by walking from `w`. -/
theorem State.moveOn_walks {s : State} {f : InFlight} {a : Schedule} {w : Nat} {r : RoundController}
    (ha : s.controller.active = some a)
    (h : (f.returnPoint = .round ∧ f.single = false ∧ s.controller.walkPos = some w ∧ r = s.controller) ∨
      (f.returnPoint = .roundWait ∧ s.controller.expiryDue = true ∧ s.controller.pendingStart ≠ some .empty ∧
        w = a.base ∧ r = { s.controller with expiryDue := false, pendingStart := none })) :
    ∃ st, s.moveOn f =
        (State.walk { s with controller := { r with state := st, walkPos := some w, inFlight := none } }).settleSlot ∧
      r.active = some a ∧ r.slot = s.controller.slot ∧ r.state = s.controller.state := by
  rcases h with ⟨hr, hsingle, hw, rfl⟩ | ⟨hr, he, hp, rfl, rfl⟩
  · refine ⟨s.controller.state, ?_, ha, rfl, rfl⟩
    rw [State.moveOn_round hr, hsingle, ← hw]
    rfl
  · refine ⟨.walking, ?_, ha, rfl, rfl⟩
    have hb : s.controller.due.begun a =
        { s.controller with
          expiryDue := false, pendingStart := none, state := .walking, walkPos := some a.base, inFlight := none } := by
      rw [RoundController.begun, ← ha]
      rfl
    rw [State.moveOn_due hr he, State.expireRoundWait_walks (s := { s with controller := s.controller.due }) hp ha, hb]

/-- Settles O44: each event by the phase of the poll, and each return point by what the controller finds there. -/
theorem pollEvents : Obligations.PollEvents := by
  have hrun : ∀ {s : State} {g : State → State}, s.resetN = true → whenRunning s g = .next (g s) :=
    fun hr => by rw [whenRunning, if_pos hr]
  have hstill : ∀ {s : State} {g : State → State}, g s = s → whenRunning s g = .next s := fun {s g} hg => by
    rw [whenRunning, hg, ite_self]
  refine ⟨fun f s hr hf => ⟨fun hp => ?_, fun hp => ?_, fun len hp h5 h45 => ?_, fun len hp hl => ?_, fun len hp => ?_,
    fun hp => ?_, fun hp => ?_, fun ⟨len, hp⟩ => ?_, fun hp => ?_⟩,
    fun s hf => ⟨hstill (State.onPoll_none hf _), fun len => hstill (State.onPoll_none hf _),
      hstill (State.onPoll_none hf _), hstill (State.onPoll_none hf _), fun frame => hstill (State.onPoll_none hf _)⟩,
    fun _ _ => rfl, fun f s hl hf => ?_⟩
  · exact (hrun hr).trans (congrArg _ ((startReplyTimer_eq hf).trans (if_pos hp)))
  · exact hstill ((startReplyTimer_eq hf).trans (if_neg hp))
  · exact (hrun hr).trans (congrArg _ ((takeFirstByte_eq hf len).trans
      ((if_pos hp).trans (State.firstByte_good h5 h45))))
  · exact (hrun hr).trans (congrArg _ ((takeFirstByte_eq hf len).trans ((if_pos hp).trans (State.firstByte_bad hl))))
  · exact hstill ((takeFirstByte_eq hf len).trans (if_neg hp))
  · exact (hrun hr).trans (congrArg _ ((replyTimesOut_eq hf).trans (if_pos hp)))
  · exact hstill ((replyTimesOut_eq hf).trans (if_neg hp))
  · exact (hrun hr).trans (congrArg _ (replyBreaksOff_receiving hf hp))
  · exact hstill (replyBreaksOff_other hf hp)
  · obtain ⟨hst, -, -, hact⟩ := hl.in_flight hf
    refine ⟨fun h1 h2 hs => ?_, fun h1 he hs => ?_, fun p hs h1 h2 => ?_, fun a w n r ha hcase hn => ?_,
      fun h1 h2 => ?_, fun h1 he hp => ?_⟩
    · rw [State.moveOn_idle h1 h2]
      exact State.settleSlot_of_none hs
    · rw [State.moveOn_roundWait h1 he]
      exact State.settleSlot_of_none hs
    · have hsent : ∀ st, (st = .idle ∨ st = .roundWait) →
          State.settleSlot { s with controller := { s.controller with state := st, inFlight := none } } =
            s.sentFrom { s.controller with slot := none } p true
              (if st = .idle then ReturnPoint.idle else .roundWait) := fun st hrest =>
        State.settleSlot_sends
            (s := { s with controller := { s.controller with state := st, inFlight := none } }) hs hrest
      have hfinal : ∀ ret, s.sentFrom { s.controller with slot := none } p true ret =
          { s with
            linkTxd := pollFrame p.station (s.sentKind p) (s.holdFlag p)
            controller := { s.controller with slot := none, inFlight := some (s.sent p true ret) } } := fun ret => by
        rw [State.sentFrom, ← hst]
      by_cases hr : f.returnPoint = .roundWait
      · rw [State.moveOn_roundWait hr (h2 hr), hsent _ (.inr rfl), hfinal, if_pos hr]
        rfl
      · rw [State.moveOn_idle h1 hr, hsent _ (.inl rfl), hfinal, if_neg hr]
        rfl
    · obtain ⟨st, hmove, hra, hrs, hrst⟩ := State.moveOn_walks ha hcase
      have hpass := s.passed_controller { r with state := st, walkPos := some w, inFlight := none }
      refine ⟨fun i p hp => ?_, fun q hno hq => ?_, fun hno hs => ?_⟩
      · obtain ⟨hc, htxd, hs, ho, hrest⟩ := hpass.walk_poll hra rfl hn.symm hp
        rw [Nat.zero_add] at hs
        refine ⟨_, hmove, ?_, htxd, hs, ho, hrest⟩
        rw [hc, ← hst, ← hrst]
        rfl
      · obtain ⟨hc, htxd, hs, ho, hrest⟩ := hpass.walk_slot hra rfl hn.symm (hrs.trans hq) hno
        rw [Nat.zero_add] at hs
        refine ⟨_, hmove, ?_, htxd, hs, ho, hrest⟩
        rw [hc, ← hst, ← hrst]
      · have hends := (State.passed_controller { s with controller := r }
          { r with state := st, walkPos := some w, inFlight := none }).walk_ends (ps := r.pendingStart)
          (wp := some w) hra rfl hn.symm (hrs.trans hs) hno rfl
        rw [Nat.zero_add] at hends
        rw [hmove]
        exact hends
    · rw [State.moveOn_round h1, if_pos h2]
      exact State.endsRound (st := s.controller.state) (ps := s.controller.pendingStart)
        (wp := s.controller.walkPos) (s.passed_controller _) rfl (hact.1 (.inl h1))
    · rw [State.moveOn_due h1 he, State.expireRoundWait_empty (s := { s with controller := s.controller.due }) hp]
      exact State.endsRound (s := { s with controller := { s.controller with expiryDue := false } })
        (st := .roundWait) (ps := none) (wp := s.controller.walkPos) (State.passed_controller _ _) rfl
        (hact.1 (.inr h1))

end Sys2Proof.Machine
end

section
/-! PROOFS. REPLY_RECEIVED: the checks of a reply, the station health and the FIFO (R60 to R69). -/

namespace Sys2Proof.Machine

/-! ### The reply taken (R60) -/

theorem takeWholeReply_eq {s : State} {f : InFlight} {len : Byte} {rest : List Byte}
    (hf : s.controller.inFlight = some f)
    (hp : f.phase = .receiving len ∨ (f.phase = .awaitingFirst ∧ 5 ≤ len.toNat ∧ len.toNat ≤ 45)) :
    takeWholeReply (len :: rest) s = s.takeReply f len (len :: rest) := by
  rw [takeWholeReply, State.onPoll_some hf]
  rcases hp with hp | ⟨hp, h5, h45⟩
  · rw [hp]
  · rw [hp]
    exact if_neg (by omega)

theorem State.takeReply_short {s : State} {f : InFlight} {len : Byte} {rest : List Byte}
    (h : rest.length + 1 < len.toNat) :
    s.takeReply f len (len :: rest) = (s.recordOutcome f.station false).moveOn f := if_pos h

theorem State.takeReply_whole {s : State} {f : InFlight} {len : Byte} {rest : List Byte}
    (h : len.toNat ≤ rest.length + 1) :
    s.takeReply f len (len :: rest) = (s.judgeReply f ((len :: rest).take len.toNat)).moveOn f :=
  if_neg (Nat.not_lt.2 h)

/-! ### The checks in their order (R61, R62) -/

theorem State.judgeReply_crc {s : State} {f : InFlight} {frame : List Byte} (h : crcHolds frame = false) :
    s.judgeReply f frame = s.recordOutcome f.station false := by
  rw [State.judgeReply, h]
  rfl

theorem State.judgeReply_address {s : State} {f : InFlight} {frame : List Byte} (h : crcHolds frame = true)
    (ha : (readReply frame).address ≠ f.station) : s.judgeReply f frame = s.recordOutcome f.station false := by
  rw [State.judgeReply, h]
  exact if_pos ha

/-- A reply past its CRC and its address, by what was polled for and what came. -/
def State.judgeBody (s : State) (f : InFlight) (body : ReplyBody) : State :=
  match f.kind, body with
  | .evidence, .nothing => s.recordOutcome f.station true
  | .evidence, .evidence tray body =>
    if body.kind ≠ (s.station f.station).config.kind then (s.recordOutcome f.station false).bump .kindMismatch
    else if Config.trays ≤ tray then s.recordOutcome f.station false
    else (s.recordOutcome f.station true).stampAndOffer f.station tray body
  | .status, .status k fault capable selfCheck =>
    if k ≠ kindCode (s.station f.station).config.kind then (s.recordOutcome f.station false).bump .kindMismatch
    else (s.reportedStatus f.station capable selfCheck).recordOutcome f.station (!fault)
  | _, _ => s.recordOutcome f.station false

theorem State.judgeReply_body {s : State} {f : InFlight} {frame : List Byte} (h : crcHolds frame = true)
    (ha : (readReply frame).address = f.station) : s.judgeReply f frame = s.judgeBody f (readReply frame).body := by
  unfold State.judgeReply
  simp only [h, ha, Bool.not_true, Bool.false_eq_true, if_false, ne_eq, not_true_eq_false]
  rfl

theorem State.judgeBody_other {s : State} {f : InFlight} {body : ReplyBody}
    (h : (f.kind = .evidence ∧ body ≠ .nothing ∧ ∀ tray b, body ≠ .evidence tray b) ∨
      (f.kind = .status ∧ ∀ k fault capable check, body ≠ .status k fault capable check)) :
    s.judgeBody f body = s.recordOutcome f.station false := by
  rcases h with ⟨hk, hn, he⟩ | ⟨hk, hst⟩
  · unfold State.judgeBody
    rw [hk]
    cases body with
    | nothing => exact absurd rfl hn
    | evidence tray b => exact absurd rfl (he tray b)
    | _ => rfl
  · unfold State.judgeBody
    rw [hk]
    cases body with
    | status k fault capable check => exact absurd rfl (hst k fault capable check)
    | _ => rfl

/-! ### Station health (R63, R64) -/

theorem StationRun.outcome_notDown {k : StationConfig} {r : StationRun} {good : Bool} (h : r.health ≠ .down) :
    r.outcome k good =
      if k.badLimit ≤ badCount (appendOutcome k.window r.history good) then
        { r with health := .down, history := appendOutcome k.window r.history good, consecutiveGood := 0 }
      else
        { r with
          history := appendOutcome k.window r.history good
          health := if r.health = .unknown ∧ good = true then .up else r.health } := by
  unfold StationRun.outcome
  cases hh : r.health with
  | down => exact absurd hh h
  | _ => simp only [Bool.and_eq_true, decide_eq_true_eq]

theorem StationRun.outcome_bad {k : StationConfig} {r : StationRun} (h : r.health = .down) :
    r.outcome k false = { r with consecutiveGood := 0 } := by
  rw [StationRun.outcome, h]
  rfl

theorem StationRun.outcome_good {k : StationConfig} {r : StationRun} (h : r.health = .down) :
    r.outcome k true =
      if k.recovery ≤ r.consecutiveGood + 1 then
        { r with health := .up, history := List.replicate k.window true, consecutiveGood := 0 }
      else { r with consecutiveGood := r.consecutiveGood + 1 } := by
  rw [StationRun.outcome, h]
  rfl

theorem appendOutcome_eq (w : Nat) (l : List Bool) (good : Bool) :
    appendOutcome w l good = (l ++ [good]).drop (l.length + 1 - w) := by
  rw [appendOutcome, List.length_append]
  rfl

/-- An outcome recorded, as one change of the state. -/
theorem State.recordOutcome_eq (s : State) (a : Nat) (good : Bool) : s.recordOutcome a good =
    State.setStation
      { s with
        counters := (s.recordOutcome a good).counters
        sticky := { s.sticky with
          stationWentDown := s.sticky.stationWentDown ||
            (decide (((s.station a).run.outcome (s.station a).config good).health = .down) &&
              decide ((s.station a).run.health ≠ .down)) } }
      a { s.station a with run := (s.station a).run.outcome (s.station a).config good } := by
  obtain ⟨r, hr⟩ : ∃ r, r = (s.station a).run.outcome (s.station a).config good := ⟨_, rfl⟩
  rw [State.recordOutcome_counters, ← hr]
  unfold State.recordOutcome
  have hst : s.closeRaises.station a = s.station a := rfl
  simp only [hst, ← hr]
  by_cases hdown : r.health = .down ∧ (s.station a).run.health ≠ .down
  · obtain ⟨h1, h2⟩ := hdown
    cases good <;> simp [h1, h2, State.bump, State.bumpBy, State.closeRaises, State.setStation]
  · have hno : (decide (r.health = .down) && decide ((s.station a).run.health ≠ .down)) = false := by simpa using hdown
    have hno' : (decide (r.health = .down) && (s.station a).run.health != .down) = false := by simpa using hdown
    rw [hno, hno', Bool.or_false]
    cases good <;> rfl

theorem State.station_recordOutcome (s : State) (a i : Nat) (good : Bool) : (s.recordOutcome a good).station i =
    if i = a then { config := (s.station a).config, run := (s.station a).run.outcome (s.station a).config good }
    else s.station i := by
  rw [State.recordOutcome_eq, State.station_setStation]
  rfl

theorem State.sticky_recordOutcome (s : State) (a : Nat) (good : Bool) : (s.recordOutcome a good).sticky =
    { s.sticky with
      stationWentDown := s.sticky.stationWentDown ||
        (decide (((s.station a).run.outcome (s.station a).config good).health = .down) &&
          decide ((s.station a).run.health ≠ .down)) } := by
  rw [State.recordOutcome_eq]
  rfl

theorem State.counter_recordOutcome (s : State) (a : Nat) (good : Bool) (d : Counter) :
    (s.recordOutcome a good).counter d =
      if d = .badReplies ∧ good = false then min 65535 (s.counter .badReplies + 1) else s.counter d := by
  have hk : (s.recordOutcome a good).counter d =
      (if good then s.closeRaises else s.closeRaises.bump .badReplies).counter d := by
    rw [State.counter, State.recordOutcome_counters]
    cases good <;> rfl
  rw [hk]
  cases good with
  | true => rw [if_pos rfl, State.counter_closeRaises, if_neg fun h => Bool.noConfusion h.2]
  | false =>
    simp only [Bool.false_eq_true, if_false, State.counter_bump, State.counter_closeRaises, Config.counterMax, and_true]

/-! ### The FIFO (R67 to R69) -/

theorem State.offerFrame_room {s : State} (g : StampedFrame) (h : s.fifo.length < 32) : s.offerFrame g =
    { s with
      fifo := s.fifo ++ [g]
      sticky := { s.sticky with
        fifoNearFull := s.sticky.fifoNearFull || decide (s.link.threshold ≤ s.fifo.length + 1) } } := by
  have hsticky : (if s.link.threshold ≤ s.fifo.length + 1 then { s.sticky with fifoNearFull := true } else s.sticky) =
      { s.sticky with
        fifoNearFull := s.sticky.fifoNearFull || decide (s.link.threshold ≤ s.fifo.length + 1) } := by
    split
    next hle => rw [decide_eq_true hle, Bool.or_true]
    next hle => rw [decide_eq_false hle, Bool.or_false]
  rw [State.offerFrame, hsticky]
  exact if_pos h

theorem State.offerFrame_full {s : State} (g : StampedFrame) (h : 32 ≤ s.fifo.length) : s.offerFrame g =
    State.bump { s with sticky := { s.sticky with fifoOverflow := true } } .fifoDropped :=
  if_neg (Nat.not_lt.2 h)

/-- Settles O45: the bytes taken, the checks in their order, the outcome recorded, and the frame offered. -/
theorem replyReceived : Obligations.ReplyReceived := by
  refine ⟨fun f len rest s hr hf hp => ?_, fun f frame s => ⟨State.judgeReply_crc, fun hc =>
    ⟨State.judgeReply_address hc, fun ha => ?_⟩⟩, fun a good s => ?_, fun g s =>
    ⟨State.offerFrame_room g, fun h => ?_⟩⟩
  · have hexec : exec (.replyReceived (len :: rest)) s = .next (s.takeReply f len (len :: rest)) := by
      show whenRunning s _ = _
      rw [whenRunning, if_pos hr, takeWholeReply_eq hf hp]
    exact ⟨fun h => hexec.trans (congrArg _ (State.takeReply_short h)),
      fun h => hexec.trans (congrArg _ (State.takeReply_whole h))⟩
  · rw [State.judgeReply_body hc ha]
    refine ⟨fun hk hb => ?_, fun tray body hk hb => ⟨fun hne => ?_, fun he ht => ?_, fun he ht => ?_⟩,
      fun k fault capable check hk hb => ⟨fun hne => ?_, fun he => ?_⟩, fun h => State.judgeBody_other h⟩
    · rw [hb]
      unfold State.judgeBody
      rw [hk]
    · rw [hb]
      unfold State.judgeBody
      rw [hk]
      exact if_pos hne
    · rw [hb]
      unfold State.judgeBody
      rw [hk]
      exact (if_neg (not_not.2 he)).trans (if_pos ht)
    · rw [hb]
      unfold State.judgeBody
      rw [hk]
      refine ((if_neg (not_not.2 he)).trans (if_neg (Nat.not_le.2 ht))).trans ?_
      have htray : (s.recordOutcome f.station true).trayEntry tray = s.trayEntry tray := by
        rw [State.recordOutcome_eq]
        rfl
      rw [State.stampAndOffer, State.ticketOnTray, htray]
    · rw [hb]
      unfold State.judgeBody
      rw [hk]
      exact if_pos hne
    · rw [hb]
      unfold State.judgeBody
      rw [hk]
      exact if_neg (not_not.2 he)
  · refine ⟨fun i hi => ?_, ?_, ?_, fun d hd => ?_, ?_, ?_, ?_⟩
    · rw [State.station_recordOutcome, if_neg hi]
    · rw [State.station_recordOutcome, if_pos rfl]
    · rw [State.counter_recordOutcome]
      cases good <;> simp
    · rw [State.counter_recordOutcome, if_neg fun h => hd h.1]
    · rw [State.sticky_recordOutcome, State.station_recordOutcome, if_pos rfl]
      simp
    · rintro r k kept rfl rfl rfl
      rw [State.station_recordOutcome, if_pos rfl]
      refine ⟨fun h => ?_, fun h hg => ?_, fun h hg => ?_⟩
      · rw [← appendOutcome_eq]
        exact StationRun.outcome_notDown h
      · subst hg
        exact StationRun.outcome_bad h
      · subst hg
        exact StationRun.outcome_good h
    · rw [State.recordOutcome_eq]
      rfl
  · rw [State.offerFrame_full g h]
    refine ⟨rfl, rfl, ?_, fun d hd => ?_, rfl⟩
    · rw [State.counter_bump, if_pos rfl]
      rfl
    · rw [State.counter_bump, if_neg hd]
      rfl

end Sys2Proof.Machine
end

section
/-! PROOFS. The accesses of the Sorter Port, and INDUCT (R6 to R8). -/

namespace Sys2Proof.Machine

/-! ### An access of the Sorter Port -/

/-- The state in which the work of a Sorter Port access is done, its raises closed before: the port executes and
the client is granted (R151, R152). -/
def State.inSorterAccess (s : State) (tag : Nat) (r : Request) : State :=
  { s with
    sorterPort := { s.sorterPort with phase := .executing tag r }
    arbiter := (s.granted .spe).arbiter }

/-- A Sorter Port access whose work, between the grant and the answer, makes `u` of `s`. -/
theorem exec_taken_sorter {c : Instr} {h : Header} {tag : Nat} {r : Request} {s u : State} {a : Answer}
    (hc : c.request? = some (h, r)) (ht : Taken h .sorter tag r s) (hacc : takesAccess r = true)
    (hwork : workOf .sorter r (s.closeRaises.inSorterAccess tag r) = (a, u.inSorterAccess tag r)) :
    exec c s = .next (u.answered .sorter tag r a) := by
  have hat : s.atWork h tag r = s.closeRaises.inSorterAccess tag r := by
    rw [State.atWork, hacc, ht.1]
    rfl
  rw [exec_request hc, request_taken ht, hat, hwork, State.answered, hacc]
  rfl

theorem State.itemOnTray_inSorterAccess (s : State) (tag : Nat) (r : Request) (tray : Nat) :
    (s.closeRaises.inSorterAccess tag r).itemOnTray tray = s.itemOnTray tray := State.itemOnTray_congr rfl rfl tray

/-! ### The entry and the new item (R7, R8) -/

theorem State.freeEntry_eq_some_iff (s : State) (i : Nat) : s.freeEntry = some i ↔
    i < 256 ∧ (s.item i).state = .free ∧ ∀ j, j < i → (s.item j).state ≠ .free := by
  unfold State.freeEntry
  rw [List.find?_range_eq_some]
  simp only [beq_iff_eq, List.mem_range, Config.itemEntries, Bool.not_eq_true', beq_eq_false_iff_ne]
  exact and_left_comm

theorem State.freeEntry_eq_none_iff (s : State) : s.freeEntry = none ↔
    ∀ i, i < 256 → (s.item i).state ≠ .free := by
  unfold State.freeEntry
  simp [Config.itemEntries]

/-- The manifest an induction finds: none for label 0 (R7). -/
def State.foundFor (s : State) (label : Nat) : Option Manifest := if label = 0 then none else s.manifest label

theorem State.newItem_eq (s : State) (tray label : Nat) : s.newItem tray label =
    { Item.empty with
      ticket := s.nextTicket, tray := tray
      label := if label = 0 then none else some label
      cls := ((s.foundFor label).map (·.cls)).getD s.line.fallbackClass
      nominal := (s.foundFor label).map (·.nominal), band := (s.foundFor label).map (·.band)
      hygiene := ((s.foundFor label).map (·.hygiene)).getD false
      noManifest := (s.foundFor label).isNone
      excessUnit := ((s.foundFor label).map fun m => decide (m.expected ≤ m.received)).getD false } := by
  unfold State.newItem State.foundFor
  cases (if label = 0 then none else s.manifest label) <;> rfl

theorem State.countReceived_counts {s : State} {label : Nat} {m : Manifest} (hf : s.foundFor label = some m)
    (h : m.received < m.expected) :
    s.countReceived label = s.setManifest label { m with received := m.received + 1 } := by
  unfold State.foundFor at hf
  rw [State.countReceived, hf]
  exact if_pos h

theorem State.countReceived_excess {s : State} {label : Nat} {m : Manifest} (hf : s.foundFor label = some m)
    (h : m.expected ≤ m.received) : s.countReceived label = s.bump .excessUnits := by
  unfold State.foundFor at hf
  rw [State.countReceived, hf]
  exact if_neg (Nat.not_lt.2 h)

theorem State.countReceived_none {s : State} {label : Nat} (hf : s.foundFor label = none) :
    s.countReceived label = s := by
  unfold State.foundFor at hf
  rw [State.countReceived, hf]

/-! ### INDUCT -/

/-- A new item with its state: OPEN where its class asks for evidence, QUEUED otherwise (R8). -/
def State.admitted (s : State) (i : Nat) (it : Item) : State :=
  if s.classValid it.cls && (s.classRecord it.cls).required != 0#4 then s.setItem i { it with state := .opened }
  else s.enqueue i it

/-- The induction up to the item's state: the manifest, the ticket, the tray and the counter (R7, R8). -/
def State.ticketed (s : State) (tray label i : Nat) : State :=
  ({ s.countReceived label with nextTicket := ticketAfter s.nextTicket }.setTray tray
    { index := i, ticket := s.nextTicket }).bump .inducted

/-- The induction of the item on a tray into entry `i` (R7, R8). -/
def State.inducted (s : State) (tray label i : Nat) : State :=
  (s.ticketed tray label i).admitted i (s.newItem tray label)

theorem workInduct_range {tray label : Nat} {s : State} (h : 1024 ≤ tray) :
    workInduct tray label s = ({ code := .range }, s) := if_pos h

theorem workInduct_busy {tray label : Nat} {s : State} {p : Nat × Item} (h : tray < 1024)
    (hb : s.itemOnTray tray = some p) : workInduct tray label s = ({ code := .trayBusy }, s) := by
  rw [workInduct, if_neg (Nat.not_le.2 h), hb]
  rfl

theorem workInduct_full {tray label : Nat} {s : State} (h : tray < 1024) (hb : s.itemOnTray tray = none)
    (hf : s.freeEntry = none) : workInduct tray label s = ({ code := .full }, s) := by
  rw [workInduct, if_neg (Nat.not_le.2 h), hb, hf]
  rfl

theorem State.newItem_ticket (s : State) (tray label : Nat) : (s.newItem tray label).ticket = s.nextTicket :=
  (s.newItem_fields tray label).2.1

theorem workInduct_inducts {tray label i : Nat} {s : State} (h : tray < 1024) (hb : s.itemOnTray tray = none)
    (hf : s.freeEntry = some i) : workInduct tray label s =
      ({ code := .ok, results := .inducted i s.nextTicket }, s.inducted tray label i) := by
  have hnext : (s.countReceived label).nextTicket = s.nextTicket := by
    obtain ⟨m, k, e⟩ := s.countReceived_frame label
    rw [e]
  rw [workInduct, if_neg (Nat.not_le.2 h), hb, hf]
  show (({ code := .ok, results := .inducted i (s.newItem tray label).ticket } : Answer),
    ((({ s.countReceived label with
      nextTicket := ticketAfter (s.countReceived label).nextTicket } : State).setTray tray
      { index := i, ticket := (s.newItem tray label).ticket }).bump .inducted).admitted i (s.newItem tray label)) = _
  rw [s.newItem_ticket, hnext]
  rfl

theorem State.countReceived_inSorterAccess (s : State) (tag : Nat) (r : Request) (label : Nat) :
    (s.inSorterAccess tag r).countReceived label = (s.countReceived label).inSorterAccess tag r := by
  cases hf : s.foundFor label with
  | none => rw [State.countReceived_none hf, State.countReceived_none (s := s.inSorterAccess tag r) hf]
  | some m =>
    by_cases h : m.received < m.expected
    · rw [State.countReceived_counts hf h, State.countReceived_counts (s := s.inSorterAccess tag r) hf h]
      rfl
    · rw [State.countReceived_excess hf (Nat.not_lt.1 h),
        State.countReceived_excess (s := s.inSorterAccess tag r) hf (Nat.not_lt.1 h)]
      rfl

theorem State.enqueue_idle {s : State} (hg : s.grader = .idle) (i : Nat) (it : Item) : s.enqueue i it =
    { s.setItem i { it with state := .queued } with
      gradeQueue := s.gradeQueue ++ [i], grader := .fetchWait
      arbiter := { s.arbiter with waiting := s.arbiter.waiting.put true .gc } } := by
  rw [State.enqueue_eq, if_pos hg, if_pos hg]

theorem State.enqueue_busy {s : State} (hg : s.grader ≠ .idle) (i : Nat) (it : Item) : s.enqueue i it =
    { s.setItem i { it with state := .queued } with gradeQueue := s.gradeQueue ++ [i] } := by
  rw [State.enqueue_eq, if_neg hg, if_neg hg]
  rfl

theorem State.enqueue_inSorterAccess (s : State) (tag : Nat) (r : Request) (i : Nat) (it : Item) :
    (s.inSorterAccess tag r).enqueue i it = (s.enqueue i it).inSorterAccess tag r := by
  by_cases hg : s.grader = .idle
  · rw [State.enqueue_idle hg, State.enqueue_idle (s := s.inSorterAccess tag r) hg]
    rfl
  · rw [State.enqueue_busy hg, State.enqueue_busy (s := s.inSorterAccess tag r) hg]
    rfl

theorem State.admitted_opened {s : State} {it : Item} (hv : s.classValid it.cls = true)
    (hr : (s.classRecord it.cls).required ≠ 0) (i : Nat) :
    s.admitted i it = s.setItem i { it with state := .opened } :=
  if_pos (by rw [hv, Bool.true_and, bne_iff_ne]; exact hr)

theorem State.admitted_queued {s : State} {it : Item}
    (h : s.classValid it.cls = false ∨ (s.classRecord it.cls).required = 0) (i : Nat) :
    s.admitted i it = s.enqueue i it := by
  refine if_neg fun hc => ?_
  rw [Bool.and_eq_true, bne_iff_ne] at hc
  exact h.elim (fun h => Bool.false_ne_true (h.symm.trans hc.1)) hc.2

theorem State.admitted_inSorterAccess (s : State) (tag : Nat) (r : Request) (i : Nat) (it : Item) :
    (s.inSorterAccess tag r).admitted i it = (s.admitted i it).inSorterAccess tag r := by
  by_cases h : s.classValid it.cls = false ∨ (s.classRecord it.cls).required = 0
  · rw [State.admitted_queued h, State.admitted_queued (s := s.inSorterAccess tag r) h, State.enqueue_inSorterAccess]
  · obtain ⟨hv, hr⟩ := not_or.1 h
    rw [Bool.not_eq_false] at hv
    rw [State.admitted_opened hv hr, State.admitted_opened (s := s.inSorterAccess tag r) hv hr]
    rfl

theorem State.ticketed_inSorterAccess (s : State) (tag : Nat) (r : Request) (tray label i : Nat) :
    (s.inSorterAccess tag r).ticketed tray label i = (s.ticketed tray label i).inSorterAccess tag r := by
  unfold State.ticketed
  rw [State.countReceived_inSorterAccess]
  rfl

theorem State.inducted_inSorterAccess (s : State) (tag : Nat) (r : Request) (tray label i : Nat) :
    (s.inSorterAccess tag r).inducted tray label i = (s.inducted tray label i).inSorterAccess tag r := by
  have hit : (s.inSorterAccess tag r).newItem tray label = s.newItem tray label := by
    rw [State.newItem_eq, State.newItem_eq]
    rfl
  rw [State.inducted, hit, State.ticketed_inSorterAccess, State.admitted_inSorterAccess]
  rfl

/-- What an induction leaves before the item's state, field by field (R7, R8). -/
theorem State.ticketed_frame (s : State) (tray label i : Nat) : ∃ m k, s.ticketed tray label i =
    { s with
      nextTicket := ticketAfter s.nextTicket
      trayIndex := (s.setTray tray { index := i, ticket := s.nextTicket }).trayIndex
      manifests := m, counters := k } := by
  obtain ⟨m, k, e⟩ := s.countReceived_frame label
  rw [State.ticketed, e]
  exact ⟨_, _, rfl⟩

theorem State.admitted_frame (s : State) (i : Nat) (it : Item) : ∃ items q g a, s.admitted i it =
    { s with items := items, gradeQueue := q, grader := g, arbiter := a } := by
  unfold State.admitted
  split
  · exact ⟨_, _, _, _, rfl⟩
  · rw [State.enqueue_eq]
    exact ⟨_, _, _, _, rfl⟩

theorem State.item_admitted (s : State) (i : Nat) (it : Item) {j : Nat} (hj : j ≠ i) :
    (s.admitted i it).item j = s.item j := by
  have hset : ∀ it', (s.setItem i it').item j = s.item j := fun it' => by rw [State.item_setItem, if_neg hj]
  unfold State.admitted
  split
  · exact hset _
  · rw [State.enqueue_eq]
    exact hset { it with state := .queued }

theorem State.manifest_countReceived (s : State) (label l : Nat) : (s.countReceived label).manifest l =
    if l = label then
      match s.foundFor label with
      | some m => if m.received < m.expected then some { m with received := m.received + 1 } else s.manifest l
      | none => s.manifest l
    else s.manifest l := by
  cases hf : s.foundFor label with
  | none => rw [State.countReceived_none hf, ite_self]
  | some m =>
    by_cases h : m.received < m.expected
    · rw [State.countReceived_counts hf h, State.manifest_setManifest]
      simp only [h, if_true]
    · rw [State.countReceived_excess hf (Nat.not_lt.1 h)]
      simp only [h, if_false, ite_self]
      rfl

/-- A unit past those expected counts as excess (R7). -/
theorem State.counter_countReceived (s : State) (tray label : Nat) (d : Counter) :
    (s.countReceived label).counter d =
      if d = .excessUnits ∧ (s.newItem tray label).excessUnit = true then min 65535 (s.counter .excessUnits + 1)
      else s.counter d := by
  have hex : (s.newItem tray label).excessUnit =
      ((s.foundFor label).map fun m => decide (m.expected ≤ m.received)).getD false := by
    rw [State.newItem_eq]
  rw [hex]
  cases hf : s.foundFor label with
  | none => rw [State.countReceived_none hf, if_neg fun h => Bool.noConfusion h.2]
  | some m =>
    simp only [Option.map_some, Option.getD_some, decide_eq_true_eq]
    by_cases h : m.received < m.expected
    · rw [State.countReceived_counts hf h, if_neg fun hd => absurd hd.2 (Nat.not_le.2 h)]
      rfl
    · simp only [State.countReceived_excess hf (Nat.not_lt.1 h), State.counter_bump, Nat.not_lt.1 h, and_true,
        Config.counterMax]

/-- Settles O46: the checks in their order, then each field of what the induction leaves. -/
theorem induct : Obligations.Induct := by
  intro h tag tray label s hl ht
  obtain ⟨htl, -⟩ := id hl
  refine ⟨fun hr => ?_, fun hr ⟨i, hc⟩ => ?_, fun hr hno hfull => ?_,
      fun i found it hr hno hi hfree hlow hfound hit => ?_⟩
  · exact exec_taken_sorter (u := s.closeRaises) rfl ht rfl (workInduct_range hr)
  · exact exec_taken_sorter (u := s.closeRaises) rfl ht rfl (workInduct_busy hr
      ((s.itemOnTray_inSorterAccess ..).trans (State.itemOnTray_of_carries htl hc)))
  · exact exec_taken_sorter (u := s.closeRaises) rfl ht rfl (workInduct_full hr
      ((s.itemOnTray_inSorterAccess ..).trans (State.itemOnTray_of_not_carries htl hno))
      ((State.freeEntry_eq_none_iff (s.closeRaises.inSorterAccess tag _)).2 hfull))
  · have hnew : s.closeRaises.newItem tray label = it := by
      rw [State.newItem_eq, hit, hfound]
      rfl
    have hwork := workInduct_inducts (s := s.closeRaises.inSorterAccess tag (.induct tray label)) (label := label) hr
      ((s.itemOnTray_inSorterAccess ..).trans (State.itemOnTray_of_not_carries htl hno))
      ((State.freeEntry_eq_some_iff _ i).2 ⟨hi, hfree, hlow⟩)
    rw [State.inducted_inSorterAccess] at hwork
    obtain ⟨v, hv⟩ : ∃ v, v = s.closeRaises.ticketed tray label i := ⟨_, rfl⟩
    have hu : s.closeRaises.inducted tray label i = v.admitted i it := by rw [State.inducted, hnew, hv]
    obtain ⟨m, k, e⟩ := s.closeRaises.ticketed_frame tray label i
    obtain ⟨items, q, g, a, e'⟩ := v.admitted_frame i it
    have hfoundFor : s.closeRaises.foundFor label = found := hfound.symm
    have hman : ∀ l, (v.admitted i it).manifest l = (s.closeRaises.countReceived label).manifest l := fun l => by
      rw [e', hv]
      rfl
    have hcount : ∀ d, (v.admitted i it).counter d =
        ((s.closeRaises.countReceived label).bump .inducted).counter d := fun d => by
      rw [e', hv]
      rfl
    have htray : ∀ t, (v.admitted i it).trayEntry t =
        if t = tray then some { index := i, ticket := s.nextTicket } else s.trayEntry t := fun t => by
      rw [e', hv, e]
      exact s.trayEntry_setTray tray t _
    rw [hu] at hwork
    refine ⟨v.admitted i it, exec_taken_sorter rfl ht rfl hwork, fun m hm hlt => ?_, fun l hl => ?_, ?_, ?_,
        fun t ht => ?_,
      ?_, ?_, fun d hd he => ?_, fun j hj => ?_, fun hc hreq => ?_, fun hc => ?_, ?_⟩
    · rw [hman, State.manifest_countReceived, hfoundFor, hm]
      simp only [hlt, if_true]
    · rw [hman, State.manifest_countReceived, hfoundFor]
      split
      next heq =>
        have hnot := hl.resolve_left (not_not.2 heq)
        cases found with
        | none => rfl
        | some m => exact if_neg fun hlt => hnot ⟨m, rfl, hlt⟩
      · rfl
    · rw [e', hv, e]
      rfl
    · rw [htray, if_pos rfl]
    · rw [htray, if_neg ht]
    · rw [hcount, State.counter_bump, if_pos rfl, State.counter_countReceived _ tray, if_neg (fun h => by cases h.1),
        State.counter_closeRaises]
    · rw [hcount, State.counter_bump, if_neg (by decide), State.counter_countReceived _ tray, hnew,
          State.counter_closeRaises]
      simp only [true_and]
    · rw [hcount, State.counter_bump, if_neg hd, State.counter_countReceived _ tray, if_neg fun h => he h.1,
        State.counter_closeRaises]
    · rw [State.item_admitted _ _ _ hj, hv, e]
      rfl
    · have hopen : v.admitted i it = v.setItem i { it with state := .opened } :=
        State.admitted_opened (by rw [hv, e]; exact hc) (by rw [hv, e]; exact hreq) i
      rw [hopen, State.item_setItem, if_pos rfl, hv, e]
      exact ⟨rfl, rfl, rfl, rfl⟩
    · have hqueue : v.admitted i it = v.enqueue i it := State.admitted_queued (by rw [hv, e]; exact hc) i
      have hitem : (v.enqueue i it).item i = { it with state := .queued } := by
        rw [State.enqueue_eq]
        exact (v.item_setItem i i { it with state := .queued }).trans (if_pos rfl)
      have hgrader : v.grader = s.grader := by rw [hv, e]; rfl
      have harb : v.arbiter = s.arbiter := by rw [hv, e]; rfl
      have hqueued : v.gradeQueue = s.gradeQueue := by rw [hv, e]; rfl
      rw [hqueue, hitem]
      refine ⟨rfl, ?_, fun hidle => ?_, fun hbusy => ?_⟩
      · rw [State.enqueue_eq, ← hqueued]
      · rw [State.enqueue_idle (hgrader.trans hidle), ← harb]
        exact ⟨rfl, rfl⟩
      · rw [State.enqueue_busy (fun h => hbusy (hgrader.symm.trans h)), ← hgrader, ← harb]
        exact ⟨rfl, rfl⟩
    · rw [e', hv, e]
      rfl

end Sys2Proof.Machine
end

section
/-! PROOFS. DESTINATION for an item in each state (R9 to R16, R141). -/

namespace Sys2Proof.Machine

/-! ### What the item operations do in an access of the Sorter Port -/

theorem State.releaseReservation_some {s : State} {it : Item} {b : Nat} (h : s.reservation it = some b) :
    s.releaseReservation it = s.setBin b (s.bin b).release := by
  rw [State.releaseReservation, h]
  rfl

theorem State.releaseReservation_none {s : State} {it : Item} (h : s.reservation it = none) :
    s.releaseReservation it = s := by rw [State.releaseReservation, h]

theorem State.releaseReservation_inSorterAccess (s : State) (tag : Nat) (r : Request) (it : Item) :
    (s.inSorterAccess tag r).releaseReservation it = (s.releaseReservation it).inSorterAccess tag r := by
  cases h : s.reservation it with
  | none => rw [State.releaseReservation_none h, State.releaseReservation_none (s := s.inSorterAccess tag r) h]
  | some b =>
    rw [State.releaseReservation_some h, State.releaseReservation_some (s := s.inSorterAccess tag r) h]
    rfl

theorem Disposition.lane_of {d : Option Disposition} {lane : Lane}
    (h : (d = some .restockNew ∧ lane = .new) ∨ (d = some .restockSecond ∧ lane = .second)) :
    (d.bind Disposition.lane).getD .new = lane := by
  rcases h with ⟨rfl, rfl⟩ | ⟨rfl, rfl⟩ <;> rfl

/-- The lane a reallocation searches (R141). -/
def Item.lane (it : Item) : Lane := (it.disposition.bind Disposition.lane).getD .new

theorem State.reallocate_found {s : State} {it : Item} {b d : Nat}
    (h : (s.setBin b (s.bin b).release).searchBin (s.classRecord it.cls).prefs it.cls it.lane = some d) :
    s.reallocate it b =
      ({ it with bin := some d, chute := some (s.zone ((s.setBin b (s.bin b).release).bin d).zone).chute },
        (s.setBin b (s.bin b).release).reserveBin d it.cls) := by
  have h' : (s.releaseBin b).searchBin ((s.releaseBin b).classRecord it.cls).prefs it.cls
    ((it.disposition.bind Disposition.lane).getD .new) = some d := h
  unfold State.reallocate
  simp only [h']
  rfl

theorem State.reallocate_noSlot {s : State} {it : Item} {b : Nat}
    (h : (s.setBin b (s.bin b).release).searchBin (s.classRecord it.cls).prefs it.cls it.lane = none) :
    s.reallocate it b =
      ({ it with
          disposition := some .review, reason := .noSlot, chute := some s.line.reviewChute, bin := none },
        ((s.setBin b (s.bin b).release).bump .noSlot).bump .reviewed) := by
  have h' : (s.releaseBin b).searchBin ((s.releaseBin b).classRecord it.cls).prefs it.cls
    ((it.disposition.bind Disposition.lane).getD .new) = none := h
  unfold State.reallocate
  simp only [h']
  rfl

/-- A search reads the line settings, the zones and the bins. -/
theorem State.searchBin_congr {s t : State} (hl : t.line = s.line) (hz : t.zones = s.zones)
    (hb : t.bins = s.bins) (prefs : List Nat) (k : Nat) (lane : Lane) :
    t.searchBin prefs k lane = s.searchBin prefs k lane := by
  have hbin : t.bin = s.bin := funext fun b => by rw [State.bin, State.bin, hb]
  have hzone : t.zone = s.zone := funext fun z => by rw [State.zone, State.zone, hz]
  have hof : t.binsOf = s.binsOf := funext fun z => funext fun p => by
    rw [State.binsOf, State.binsOf, hbin]
  have hzones : t.searchZone k lane = s.searchZone k lane := funext fun z => by
    rw [State.searchZone, State.searchZone, State.stepA, State.stepA, State.stepB, State.stepB, hzone, hbin, hof]
  rw [State.searchBin, State.searchBin, hl, hzones]

theorem State.bin_inSorterAccess (s : State) (tag : Nat) (r : Request) (b : Nat) :
    (s.inSorterAccess tag r).bin b = s.bin b := rfl

theorem State.classRecord_inSorterAccess (s : State) (tag : Nat) (r : Request) (k : Nat) :
    (s.inSorterAccess tag r).classRecord k = s.classRecord k := rfl

theorem State.bump_inSorterAccess (s : State) (tag : Nat) (r : Request) (c : Counter) :
    (s.inSorterAccess tag r).bump c = (s.bump c).inSorterAccess tag r := rfl

theorem State.setBin_inSorterAccess (s : State) (tag : Nat) (r : Request) (b : Nat) (x : Bin) :
    (s.inSorterAccess tag r).setBin b x = (s.setBin b x).inSorterAccess tag r := rfl

theorem State.reallocate_inSorterAccess (s : State) (tag : Nat) (r : Request) (it : Item) (b : Nat) :
    (s.inSorterAccess tag r).reallocate it b =
      ((s.reallocate it b).1, (s.reallocate it b).2.inSorterAccess tag r) := by
  have hsearch : (State.setBin (s.inSorterAccess tag r) b ((s.inSorterAccess tag r).bin b).release).searchBin
      ((s.inSorterAccess tag r).classRecord it.cls).prefs it.cls it.lane =
      (s.setBin b (s.bin b).release).searchBin (s.classRecord it.cls).prefs it.cls it.lane := by
    rw [State.bin_inSorterAccess, State.classRecord_inSorterAccess, State.setBin_inSorterAccess]
    exact State.searchBin_congr (s := s.setBin b (s.bin b).release)
      (t := (s.setBin b (s.bin b).release).inSorterAccess tag r) rfl rfl rfl ..
  cases h : (s.setBin b (s.bin b).release).searchBin (s.classRecord it.cls).prefs it.cls it.lane with
  | none => rw [State.reallocate_noSlot h, State.reallocate_noSlot (hsearch.trans h)]; rfl
  | some d => rw [State.reallocate_found h, State.reallocate_found (hsearch.trans h)]; rfl

theorem State.reallocateIfBlocked_not {s : State} {it : Item}
    (h : ∀ b, s.reservation it = some b → (s.zone (s.bin b).zone).state ≠ .blocked) :
    s.reallocateIfBlocked it = (it, s) := by
  unfold State.reallocateIfBlocked
  split
  next b hb => exact if_neg (h b hb)
  · rfl

theorem State.reallocateIfBlocked_blocked {s : State} {it : Item} {b : Nat} (hb : s.reservation it = some b)
    (h : (s.zone (s.bin b).zone).state = .blocked) : s.reallocateIfBlocked it = s.reallocate it b := by
  rw [State.reallocateIfBlocked, hb]
  exact if_pos h

theorem State.triesSpent_iff (s : State) (it : Item) :
    s.triesSpent it = true ↔ s.line.divertTries ≤ it.attempts ∧ it.disposition ≠ some .review := by
  rw [State.triesSpent, Bool.and_eq_true, decide_eq_true_eq, bne_iff_ne]

theorem State.triesSpent_of {s : State} {it : Item} (h : s.line.divertTries ≤ it.attempts)
    (hd : it.disposition ≠ some .review) : s.triesSpent it = true := (s.triesSpent_iff it).2 ⟨h, hd⟩

theorem State.triesSpent_not {s : State} {it : Item}
    (h : it.attempts < s.line.divertTries ∨ it.disposition = some .review) : ¬ s.triesSpent it = true := fun hs => by
  obtain ⟨htries, hd⟩ := (State.triesSpent_iff ..).1 hs
  exact h.elim (fun hlt => absurd htries (Nat.not_le.2 hlt)) hd

/-! ### DESTINATION by the item's state -/

/-- DESTINATION for the item found. -/
def destinationAt (i : Nat) (it : Item) (s : State) : Answer × State :=
  match it.state with
  | .opened => destinationOpen i it s
  | .queued | .grading => destinationWaiting i it s
  | .decided => destinationDecided i it s
  | .routed => destinationRouted i it s
  | .free | .retiring => ({ code := .ok, results := .destination .untracked 0 }, s)

theorem workDestination_found {tray i : Nat} {it : Item} {s : State} (h : tray < 1024)
    (hf : s.itemOnTray tray = some (i, it)) : workDestination tray s = destinationAt i it s := by
  rw [workDestination, if_neg (Nat.not_le.2 h), hf]
  rfl

theorem workDestination_untracked {tray : Nat} {s : State} (h : tray < 1024) (hf : s.itemOnTray tray = none) :
    workDestination tray s = ({ code := .ok, results := .destination .untracked 0 }, s) := by
  rw [workDestination, if_neg (Nat.not_le.2 h), hf]

/-- DESTINATION for the item on a tray, once its work is known. -/
theorem exec_destination {h : Header} {tag tray i : Nat} {s u : State} {a : Answer} (hl : s.ItemLaws)
    (ht : Taken h .sorter tag (.destination tray) s) (hr : tray < 1024) (hc : s.carries tray i)
    (hwork : destinationAt i (s.item i) (s.closeRaises.inSorterAccess tag (.destination tray)) =
      (a, u.inSorterAccess tag (.destination tray))) :
    exec (.destination h tray) s = .next (u.answered .sorter tag (.destination tray) a) :=
  exec_taken_sorter rfl ht rfl ((workDestination_found hr
    ((s.itemOnTray_inSorterAccess ..).trans (State.itemOnTray_of_carries hl.1 hc))).trans hwork)

theorem destinationAt_opened {i : Nat} {it : Item} {s : State} (h : it.state = .opened) :
    destinationAt i it s = destinationOpen i it s := by rw [destinationAt, h]

theorem destinationAt_waiting {i : Nat} {it : Item} {s : State} (h : it.state = .queued ∨ it.state = .grading) :
    destinationAt i it s = destinationWaiting i it s := by
  rcases h with h | h <;> rw [destinationAt, h]

theorem destinationAt_decided {i : Nat} {it : Item} {s : State} (h : it.state = .decided) :
    destinationAt i it s = destinationDecided i it s := by rw [destinationAt, h]

theorem destinationAt_routed {i : Nat} {it : Item} {s : State} (h : it.state = .routed) :
    destinationAt i it s = destinationRouted i it s := by rw [destinationAt, h]

theorem Item.complete_lapDone (it : Item) (q : BitVec 4) : it.lapDone.complete q = it.complete q := rfl

theorem destinationOpen_complete {i : Nat} {it : Item} {s : State}
    (h : it.complete (s.classRecord it.cls).required = true) :
    destinationOpen i it s = (recirculate, (s.enqueue i it.lapDone).bump .recirculated) := if_pos h

theorem destinationOpen_again {i : Nat} {it : Item} {s : State}
    (h : it.complete (s.classRecord it.cls).required = false) (hlap : it.lapDone.laps < s.line.maxLaps) :
    destinationOpen i it s = (recirculate, (s.setItem i it.lapDone).bump .recirculated) :=
  (if_neg (by rw [Item.complete_lapDone]; exact h ▸ Bool.false_ne_true)).trans (if_neg (Nat.not_le.2 hlap))

/-- An item sent to review at its last lap (R11). -/
def Item.outOfLaps (it : Item) (chute : Nat) : Item :=
  { it with state := .routed, disposition := some .review, reason := .incomplete, chute := some chute }

theorem destinationOpen_outOfLaps {i : Nat} {it : Item} {s : State}
    (h : it.complete (s.classRecord it.cls).required = false) (hlap : s.line.maxLaps ≤ it.lapDone.laps) :
    destinationOpen i it s =
      (s.chuteAnswer (it.lapDone.outOfLaps s.line.reviewChute),
        (s.setItem i (it.lapDone.outOfLaps s.line.reviewChute)).bump .reviewed) :=
  (if_neg (by rw [Item.complete_lapDone]; exact h ▸ Bool.false_ne_true)).trans (if_pos hlap)

theorem destinationDecided_eq (i : Nat) (it : Item) (s : State) :
    destinationDecided i it s =
      (s.chuteAnswer (s.reallocateIfBlocked it).1,
        (s.reallocateIfBlocked it).2.setItem i { (s.reallocateIfBlocked it).1 with state := .routed }) := rfl

theorem destinationRouted_spent {i : Nat} {it : Item} {s : State}
    (htries : s.line.divertTries ≤ it.attemptDone.attempts) (hd : it.disposition ≠ some .review) :
    destinationRouted i it s =
      (s.chuteAnswer ((s.bump .divertFailed).redecide it.lapDone.attemptDone).1,
        ((s.bump .divertFailed).redecide it.lapDone.attemptDone).2.setItem i
          ((s.bump .divertFailed).redecide it.lapDone.attemptDone).1) := by
  have hspent : (s.bump .divertFailed).triesSpent it.lapDone.attemptDone = true := State.triesSpent_of htries hd
  exact congrArg (fun r : Item × State => (s.chuteAnswer r.1, r.2.setItem i r.1)) (if_pos hspent)

theorem destinationRouted_unspent {i : Nat} {it : Item} {s : State}
    (h : it.attemptDone.attempts < s.line.divertTries ∨ it.disposition = some .review) :
    destinationRouted i it s =
      (s.chuteAnswer ((s.bump .divertFailed).reallocateIfBlocked it.lapDone.attemptDone).1,
        ((s.bump .divertFailed).reallocateIfBlocked it.lapDone.attemptDone).2.setItem i
          ((s.bump .divertFailed).reallocateIfBlocked it.lapDone.attemptDone).1) := by
  have hspent : ¬ (s.bump .divertFailed).triesSpent it.lapDone.attemptDone = true := State.triesSpent_not h
  exact congrArg (fun r : Item × State => (s.chuteAnswer r.1, r.2.setItem i r.1)) (if_neg hspent)

/-- Settles O47: each item state, with and without a reallocation, and the reallocation itself. -/
theorem destination : Obligations.Destination := by
  intro h tag tray s hl ht
  refine ⟨fun hr => ?_, fun hr hno => ?_, fun i it verb hr hc hit hverb => ?_, fun it b t lane hbin hlane => ?_⟩
  · exact exec_taken_sorter (u := s.closeRaises) rfl ht rfl (if_pos hr)
  · exact exec_taken_sorter (u := s.closeRaises) rfl ht rfl (workDestination_untracked hr
      ((s.itemOnTray_inSorterAccess ..).trans (State.itemOnTray_of_not_carries hl.1 hno)))
  · subst hit hverb
    have hat {u : State} {a : Answer} (hwork : destinationAt i (s.item i)
        (s.closeRaises.inSorterAccess tag (.destination tray)) = (a, u.inSorterAccess tag (.destination tray))) :
        exec (.destination h tray) s = .next (u.answered .sorter tag (.destination tray) a) :=
      exec_destination hl ht hr hc hwork
    have hclass (k : Nat) :
        (s.closeRaises.inSorterAccess tag (.destination tray)).classRecord k = s.classRecord k := rfl
    refine ⟨fun it₁ hst h1 => ⟨fun hcomp => ?_, fun hcomp hlap => ?_, fun hcomp hlap => ?_⟩, fun hst => ?_,
      fun hst => ⟨fun hno => ?_, fun b hb hblocked => ?_⟩, fun it₁ s₁ hst h1 hs1 => ⟨fun htries hd => ?_, fun hnot =>
      ⟨fun hno => ?_, fun b hb hblocked => ?_⟩⟩⟩
    · subst h1
      refine hat ((destinationAt_opened hst).trans ((destinationOpen_complete (by rw [hclass]; exact hcomp)).trans ?_))
      rw [State.enqueue_inSorterAccess]
      rfl
    · subst h1
      exact hat ((destinationAt_opened hst).trans (destinationOpen_again (by rw [hclass]; exact hcomp) hlap))
    · subst h1
      exact hat ((destinationAt_opened hst).trans (destinationOpen_outOfLaps (by rw [hclass]; exact hcomp) hlap))
    · exact hat (destinationAt_waiting hst)
    · refine hat ((destinationAt_decided hst).trans ?_)
      rw [destinationDecided_eq, State.reallocateIfBlocked_not (s := s.closeRaises.inSorterAccess tag _) hno]
      rfl
    · refine hat ((destinationAt_decided hst).trans ?_)
      rw [destinationDecided_eq,
        State.reallocateIfBlocked_blocked (s := s.closeRaises.inSorterAccess tag _) hb hblocked,
        State.reallocate_inSorterAccess]
      rfl
    · subst h1 hs1
      refine hat ((destinationAt_routed hst).trans ((destinationRouted_spent (it := s.item i)
        (s := s.closeRaises.inSorterAccess tag _) htries hd).trans ?_))
      rw [State.bump_inSorterAccess, State.redecide, State.releaseReservation_inSorterAccess]
      rfl
    · subst h1 hs1
      refine hat ((destinationAt_routed hst).trans ((destinationRouted_unspent (it := s.item i)
        (s := s.closeRaises.inSorterAccess tag _) hnot).trans ?_))
      rw [State.reallocateIfBlocked_not (s := (s.closeRaises.inSorterAccess tag _).bump _)
        (it := (s.item i).lapDone.attemptDone) hno]
      rfl
    · subst h1 hs1
      refine hat ((destinationAt_routed hst).trans ((destinationRouted_unspent (it := s.item i)
        (s := s.closeRaises.inSorterAccess tag _) hnot).trans ?_))
      rw [State.reallocateIfBlocked_blocked (s := (s.closeRaises.inSorterAccess tag _).bump _)
        (it := (s.item i).lapDone.attemptDone) hb hblocked, State.bump_inSorterAccess,
        State.reallocate_inSorterAccess]
      rfl
  · subst hbin
    have hl : it.lane = lane := Disposition.lane_of hlane
    refine ⟨fun d hd => ?_, fun hd => ?_⟩
    · rw [State.reallocate_found (hl ▸ hd)]
      rfl
    · rw [State.reallocate_noSlot (hl ▸ hd)]

end Sys2Proof.Machine
end

section
/-! PROOFS. DIVERTED, DIVERT FAILED, TRAY CLEARED, CHUTE CLEAR and ITEM QUERY (R17 to R23). -/

namespace Sys2Proof.Machine

/-! ### Retirement (R23) and the commit (R139) -/

theorem Bin.commit_of_reserved {b : Bin} (h : 1 ≤ b.reserved) :
    b.commit = { b with reserved := b.reserved - 1, committed := b.committed + 1 } := by
  rw [Bin.commit, Nat.min_eq_left h]

/-- With a free record the report joins the queue of its reason and the entry becomes FREE. -/
theorem State.retire_reports {s : State} {i : Nat} {it : Item} (h : s.urgent.length + s.routine.length < 128) :
    s.retire i it =
      ({ s.clearTray it.tray with
          urgent := if it.reason = .none then s.urgent else s.urgent ++ [Report.ofItem s.mode it]
          routine := if it.reason = .none then s.routine ++ [Report.ofItem s.mode it] else s.routine } : State).setItem
        i Item.empty := by
  rw [State.retire_of_free h, State.queueReport_queues]
  rfl

theorem State.retire_trayEntry (s : State) (i : Nat) (it : Item) (t : Nat) :
    (s.retire i it).trayEntry t = if t = it.tray then none else s.trayEntry t := by
  obtain ⟨items, u, v, w, h⟩ := s.retire_frame i it
  rw [h]
  exact s.trayEntry_clearTray it.tray t

theorem State.retire_item_of_ne (s : State) {i j : Nat} (it : Item) (h : j ≠ i) :
    (s.retire i it).item j = s.item j := by
  obtain ⟨x, -, hitem⟩ := s.retire_item i it
  rw [hitem, if_neg h]

theorem State.retire_inSorterAccess (s : State) (tag : Nat) (r : Request) (i : Nat) (it : Item) :
    (s.inSorterAccess tag r).retire i it = (s.retire i it).inSorterAccess tag r := by
  by_cases h : s.urgent.length + s.routine.length < 128
  · rw [State.retire_reports h, State.retire_reports (s := s.inSorterAccess tag r) h]
    rfl
  · rw [State.retire_of_full (Nat.not_lt.1 h), State.retire_of_full (s := s.inSorterAccess tag r) (Nat.not_lt.1 h)]
    rfl

/-! ### DIVERTED (R17, R18) -/

theorem chuteInRange_iff (c : Nat) : chuteInRange c = true ↔ 1 ≤ c ∧ c ≤ 47 := inRange_iff

theorem chuteInRange_of {c : Nat} (h1 : 1 ≤ c) (h47 : c ≤ 47) : chuteInRange c = true :=
  (chuteInRange_iff c).2 ⟨h1, h47⟩

theorem workDiverted_range {tray chute : Nat} {s : State} (h : 1024 ≤ tray ∨ chute = 0 ∨ 47 < chute) :
    workDiverted tray chute s = ({ code := .range }, s) := by
  refine if_pos ?_
  rw [Bool.or_eq_true, decide_eq_true_eq, Bool.not_eq_true', ← Bool.not_eq_true, chuteInRange_iff]
  show 1024 ≤ tray ∨ _
  omega

/-- DIVERTED for an item on the tray. -/
def divertedAt (i chute : Nat) (it : Item) (s : State) : Answer × State :=
  if it.state ≠ .routed then ({ code := .notRouted }, s)
  else if it.chute = some chute then ({ code := .ok }, confirmDivert i it s)
  else ({ code := .ok }, missortDivert i chute it s)

theorem divertedInRange {tray chute : Nat} (ht : tray < 1024) (h1 : 1 ≤ chute) (h47 : chute ≤ 47) :
    ¬ (decide (Config.trays ≤ tray) || !chuteInRange chute) = true := by
  rw [chuteInRange_of h1 h47, Bool.or_eq_true, decide_eq_true_eq]
  rintro (h | h)
  · exact absurd ht (Nat.not_lt.2 h)
  · cases h

theorem workDiverted_found {tray chute i : Nat} {it : Item} {s : State} (ht : tray < 1024) (h1 : 1 ≤ chute)
    (h47 : chute ≤ 47) (hf : s.itemOnTray tray = some (i, it)) :
    workDiverted tray chute s = divertedAt i chute it s := by
  rw [workDiverted, if_neg (divertedInRange ht h1 h47), hf]
  rfl

theorem workDiverted_noItem {tray chute : Nat} {s : State} (ht : tray < 1024) (h1 : 1 ≤ chute)
    (h47 : chute ≤ 47) (hf : s.itemOnTray tray = none) :
    workDiverted tray chute s = ({ code := .noItem }, s) := by
  rw [workDiverted, if_neg (divertedInRange ht h1 h47), hf]

theorem confirmDivert_some {i b : Nat} {it : Item} {s : State} (h : s.reservation it = some b) :
    confirmDivert i it s = (s.setBin b (s.bin b).commit).retire i it := by
  rw [confirmDivert, h]

theorem confirmDivert_none {i : Nat} {it : Item} {s : State} (h : s.reservation it = none) :
    confirmDivert i it s = s.retire i it := by
  rw [confirmDivert, h]

/-! ### DIVERT FAILED (R19) -/

theorem readCause_of_gt {n : Nat} (h : 2 < n) : readCause n = none := by
  obtain ⟨m, rfl⟩ := Nat.exists_eq_add_of_le' h
  rfl

theorem readCause_of_le {n : Nat} (h : n ≤ 2) : ∃ c, readCause n = some c ∧ (c = .chuteFull ↔ n = 0) := by
  match n, h with
  | 0, _ => exact ⟨_, rfl, by decide⟩
  | 1, _ => exact ⟨_, rfl, by decide⟩
  | 2, _ => exact ⟨_, rfl, by decide⟩

/-- The zones and counters DIVERT FAILED leaves before it acts on the item (R19). -/
def State.divertFailed (s : State) (c : DivertCause) (it : Item) : State :=
  if c = .chuteFull then (s.bump .divertFailed).updateZones (Zone.blockFor (it.chute.getD 0))
  else s.bump .divertFailed

/-- DIVERT FAILED for an item on the tray. -/
def divertFailedAt (i : Nat) (c : DivertCause) (it : Item) (s : State) : Answer × State :=
  if it.state ≠ .routed then ({ code := .notRouted }, s)
  else
    let it := { it.attemptDone with state := .decided }
    let s := s.divertFailed c it
    let r := if s.triesSpent it then s.redecide it else (it, s)
    ({ code := .ok }, r.2.setItem i r.1)

theorem workDivertFailed_range {tray cause : Nat} {s : State} (h : 1024 ≤ tray ∨ 2 < cause) :
    workDivertFailed tray cause s = ({ code := .range }, s) := by
  by_cases ht : 1024 ≤ tray
  · exact if_pos ht
  · rw [workDivertFailed, if_neg ht, readCause_of_gt (h.resolve_left ht)]

theorem workDivertFailed_noItem {tray cause : Nat} {c : DivertCause} {s : State} (ht : tray < 1024)
    (hc : readCause cause = some c) (hf : s.itemOnTray tray = none) :
    workDivertFailed tray cause s = ({ code := .noItem }, s) := by
  unfold workDivertFailed
  rw [if_neg (Nat.not_le.2 ht), hc]
  simp only [hf]

theorem workDivertFailed_found {tray cause i : Nat} {it : Item} {c : DivertCause} {s : State} (ht : tray < 1024)
    (hc : readCause cause = some c) (hf : s.itemOnTray tray = some (i, it)) :
    workDivertFailed tray cause s = divertFailedAt i c it s := by
  unfold workDivertFailed
  rw [if_neg (Nat.not_le.2 ht), hc]
  simp only [hf]
  rfl

theorem State.updateZones_inSorterAccess (s : State) (tag : Nat) (r : Request) (f : Zone → Zone) :
    (s.inSorterAccess tag r).updateZones f = (s.updateZones f).inSorterAccess tag r := rfl

theorem State.updateZones_frame (s : State) (f : Zone → Zone) :
    s.updateZones f = { s with zones := (s.updateZones f).zones } := rfl

theorem State.divertFailed_chuteFull (s : State) (it : Item) : s.divertFailed .chuteFull it =
    (s.bump .divertFailed).updateZones (Zone.blockFor (it.chute.getD 0)) := if_pos rfl

theorem State.divertFailed_other {s : State} {c : DivertCause} (it : Item) (h : c ≠ .chuteFull) :
    s.divertFailed c it = s.bump .divertFailed := if_neg h

theorem State.divertFailed_frame (s : State) (c : DivertCause) (it : Item) :
    ∃ zones, s.divertFailed c it = { s.bump .divertFailed with zones := zones } := by
  by_cases h : c = .chuteFull
  · subst h
    exact ⟨_, (s.divertFailed_chuteFull it).trans ((s.bump .divertFailed).updateZones_frame _)⟩
  · exact ⟨s.zones, State.divertFailed_other it h⟩

theorem State.divertFailed_inSorterAccess (s : State) (tag : Nat) (r : Request) (c : DivertCause) (it : Item) :
    (s.inSorterAccess tag r).divertFailed c it = (s.divertFailed c it).inSorterAccess tag r := by
  by_cases h : c = .chuteFull
  · subst h
    rw [State.divertFailed_chuteFull, State.divertFailed_chuteFull, State.bump_inSorterAccess,
      State.updateZones_inSorterAccess]
  · rw [State.divertFailed_other it h, State.divertFailed_other it h, State.bump_inSorterAccess]

/-- What DIVERT FAILED changes beside the item: its counter, and for CHUTE_FULL the OPEN zones of the chute. -/
theorem State.divertFailed_facts (s : State) (c : DivertCause) (it : Item) :
    (s.divertFailed c it).counter .divertFailed = min 65535 (s.counter .divertFailed + 1) ∧
    (∀ d, d ≠ .divertFailed → (s.divertFailed c it).counter d = s.counter d) ∧
    (∀ z, z < 32 → (s.divertFailed c it).zone z =
      if c = .chuteFull ∧ (s.zone z).state = .opened ∧ (s.zone z).chute = it.chute.getD 0
      then { chute := (s.zone z).chute, state := .blocked } else s.zone z) ∧
    s.divertFailed c it =
      { s with counters := (s.divertFailed c it).counters, zones := (s.divertFailed c it).zones } := by
  have hcounter (d : Counter) : (s.divertFailed c it).counter d = (s.bump .divertFailed).counter d := by
    obtain ⟨zones, hv⟩ := s.divertFailed_frame c it
    rw [hv]
    rfl
  refine ⟨?_, fun d hd => ?_, fun z hz => ?_, ?_⟩
  · rw [hcounter, State.counter_bump, if_pos rfl]
  · rw [hcounter, State.counter_bump, if_neg hd]
  · by_cases hc : c = .chuteFull
    · subst hc
      rw [State.divertFailed_chuteFull, State.zone_updateZones, if_pos hz]
      simp only [true_and]
      rfl
    · rw [State.divertFailed_other it hc, if_neg fun h => hc h.1]
      rfl
  · obtain ⟨zones, hv⟩ := s.divertFailed_frame c it
    rw [hv]
    rfl

theorem State.divertFailed_line (s : State) (c : DivertCause) (it : Item) : (s.divertFailed c it).line = s.line := by
  obtain ⟨zones, hv⟩ := s.divertFailed_frame c it
  rw [hv]
  rfl

/-- The item of a failed divert before its re-decision (R19). -/
def Item.failedDivert (it : Item) : Item := { it.attemptDone with state := .decided }

theorem divertFailedAt_retried {i : Nat} {c : DivertCause} {it : Item} {s : State} (hst : it.state = .routed)
    (h : it.failedDivert.attempts < s.line.divertTries ∨ it.disposition = some .review) :
    divertFailedAt i c it s =
      ({ code := .ok }, (s.divertFailed c it.failedDivert).setItem i it.failedDivert) := by
  have hspent : ¬ (s.divertFailed c it.failedDivert).triesSpent it.failedDivert = true :=
    State.triesSpent_not (by rw [State.divertFailed_line]; exact h)
  rw [divertFailedAt, if_neg (not_not.2 hst)]
  exact congrArg (fun r : Item × State => (({ code := .ok } : Answer), r.2.setItem i r.1)) (if_neg hspent)

theorem divertFailedAt_spent {i : Nat} {c : DivertCause} {it : Item} {s : State} (hst : it.state = .routed)
    (h : s.line.divertTries ≤ it.failedDivert.attempts) (hd : it.disposition ≠ some .review) :
    divertFailedAt i c it s =
      ({ code := .ok }, ((s.divertFailed c it.failedDivert).redecide it.failedDivert).2.setItem i
        ((s.divertFailed c it.failedDivert).redecide it.failedDivert).1) := by
  have hspent : (s.divertFailed c it.failedDivert).triesSpent it.failedDivert = true :=
    State.triesSpent_of (by rw [State.divertFailed_line]; exact h) hd
  rw [divertFailedAt, if_neg (not_not.2 hst)]
  exact congrArg (fun r : Item × State => (({ code := .ok } : Answer), r.2.setItem i r.1)) (if_pos hspent)

/-- What a retirement leaves (R23). -/
theorem State.retire_leaves (i : Nat) (it : Item) (s : State) :
    (s.urgent.length + s.routine.length < 128 →
      (s.retire i it).item i = Item.empty ∧ (s.retire i it).waitList = s.waitList ∧
      (it.reason = .none → (s.retire i it).routine = s.routine ++ [Report.ofItem s.mode it] ∧
        (s.retire i it).urgent = s.urgent) ∧
      (it.reason ≠ .none → (s.retire i it).urgent = s.urgent ++ [Report.ofItem s.mode it] ∧
        (s.retire i it).routine = s.routine)) ∧
    (128 ≤ s.urgent.length + s.routine.length →
      (s.retire i it).item i = { it with state := .retiring } ∧
      (s.retire i it).waitList = s.waitList ++ [i] ∧ (s.retire i it).urgent = s.urgent ∧
      (s.retire i it).routine = s.routine) := by
  refine ⟨fun hroom => ?_, fun hfull => ?_⟩
  · rw [State.retire_reports hroom]
    exact ⟨by rw [State.item_setItem, if_pos rfl], rfl, fun hr => ⟨if_pos hr, if_pos hr⟩,
      fun hr => ⟨if_neg hr, if_neg hr⟩⟩
  · rw [State.retire_of_full hfull]
    refine ⟨?_, rfl, rfl, rfl⟩
    exact ((s.clearTray it.tray).item_setItem i i { it with state := .retiring }).trans (if_pos rfl)

/-- Settles O48: DIVERTED, DIVERT FAILED, the commit, and the retirement. -/
theorem divertedAndDivertFailed : Obligations.DivertedAndDivertFailed := by
  refine ⟨fun h tag tray chute s hl ht => ?_, fun h tag tray cause s hl ht => ?_,
    fun b => Bin.commit_of_reserved, fun i it s => ?_⟩
  · refine ⟨fun hr => exec_taken_sorter (u := s.closeRaises) rfl ht rfl (workDiverted_range hr), fun hr h1 h47 =>
      ⟨fun hno => exec_taken_sorter (u := s.closeRaises) rfl ht rfl (workDiverted_noItem hr h1 h47
        ((s.itemOnTray_inSorterAccess ..).trans (State.itemOnTray_of_not_carries hl.1 hno))), fun i it hc hit => ?_⟩⟩
    subst hit
    have hat {u : State} {a : Answer} (hwork : divertedAt i chute (s.item i)
        (s.closeRaises.inSorterAccess tag (.diverted tray chute)) =
          (a, u.inSorterAccess tag (.diverted tray chute))) :
        exec (.diverted h tray chute) s = .next (u.answered .sorter tag (.diverted tray chute) a) :=
      exec_taken_sorter rfl ht rfl ((workDiverted_found hr h1 h47
        ((s.itemOnTray_inSorterAccess ..).trans (State.itemOnTray_of_carries hl.1 hc))).trans hwork)
    refine ⟨fun hst => hat (if_pos hst), fun b hst hch hb => hat ?_, fun hst hch hb => hat ?_, fun hst hch => hat ?_⟩
    · rw [divertedAt, if_neg (not_not.2 hst), if_pos hch,
        confirmDivert_some (s := s.closeRaises.inSorterAccess tag _) hb, State.bin_inSorterAccess,
        State.setBin_inSorterAccess, State.retire_inSorterAccess]
      rfl
    · rw [divertedAt, if_neg (not_not.2 hst), if_pos hch,
        confirmDivert_none (s := s.closeRaises.inSorterAccess tag _) hb, State.retire_inSorterAccess]
    · rw [divertedAt, if_neg (not_not.2 hst), if_neg hch, missortDivert, State.releaseReservation_inSorterAccess,
        State.bump_inSorterAccess, State.retire_inSorterAccess]
      rfl
  · refine ⟨fun hr => exec_taken_sorter (u := s.closeRaises) rfl ht rfl (workDivertFailed_range hr),
      fun hr hle => ?_⟩
    obtain ⟨c, hcause, hfull⟩ := readCause_of_le hle
    refine ⟨fun hno => exec_taken_sorter (u := s.closeRaises) rfl ht rfl (workDivertFailed_noItem hr hcause
        ((s.itemOnTray_inSorterAccess ..).trans (State.itemOnTray_of_not_carries hl.1 hno))),
      fun i it it₁ hc hit h1 => ?_⟩
    subst hit h1
    have hat {u : State} {a : Answer} (hwork : divertFailedAt i c (s.item i)
        (s.closeRaises.inSorterAccess tag (.divertFailed tray cause)) =
          (a, u.inSorterAccess tag (.divertFailed tray cause))) :
        exec (.divertFailed h tray cause) s = .next (u.answered .sorter tag (.divertFailed tray cause) a) :=
      exec_taken_sorter rfl ht rfl ((workDivertFailed_found hr hcause
        ((s.itemOnTray_inSorterAccess ..).trans (State.itemOnTray_of_carries hl.1 hc))).trans hwork)
    refine ⟨fun hst => hat (if_pos hst), fun hst => ?_⟩
    obtain ⟨hcount, hothers, hzones, hframe⟩ := s.closeRaises.divertFailed_facts c (s.item i).failedDivert
    refine ⟨s.closeRaises.divertFailed c (s.item i).failedDivert, ?_, fun d hd => ?_, fun z hz => ?_, ?_,
      fun hnot => hat ?_, fun htries hd => hat ?_⟩
    · rw [hcount, State.counter_closeRaises]
    · rw [hothers d hd, State.counter_closeRaises]
    · rw [hzones z hz]
      simp only [hfull]
      rfl
    · exact hframe
    · rw [divertFailedAt_retried (s := s.closeRaises.inSorterAccess tag _) hst hnot, State.divertFailed_inSorterAccess]
      rfl
    · rw [divertFailedAt_spent (s := s.closeRaises.inSorterAccess tag _) hst htries hd,
        State.divertFailed_inSorterAccess, State.redecide, State.releaseReservation_inSorterAccess]
      obtain ⟨zones, hv⟩ := s.closeRaises.divertFailed_frame c (s.item i).failedDivert
      rw [hv]
      rfl
  · obtain ⟨hroom, hfull⟩ := s.retire_leaves i it
    refine ⟨?_, fun t hne => ?_, fun j hne => s.retire_item_of_ne it hne, hroom, hfull, ?_⟩
    · rw [State.retire_trayEntry, if_pos rfl]
    · rw [State.retire_trayEntry, if_neg hne]
    · obtain ⟨items, u, v, w, hr⟩ := s.retire_frame i it
      rw [hr]
      rfl

end Sys2Proof.Machine
end

section
/-! PROOFS. TRAY CLEARED, CHUTE CLEAR and ITEM QUERY (R20 to R22). -/

namespace Sys2Proof.Machine

/-! ### TRAY CLEARED (R20) -/

/-- The item taken off its tray leaves the Grade Queue, its reservation is released, and it retires. -/
def State.trayCleared (s : State) (i : Nat) (it : Item) : State :=
  ({ s.releaseReservation it with gradeQueue := s.gradeQueue.filter (· ≠ i) }.bump .removed).retire i
    { it with bin := none, reason := .removed, disposition := some (it.disposition.getD .review) }

/-- Only a QUEUED item stands in the Grade Queue, and there once. -/
theorem State.ItemLaws.leavesQueue {s : State} (hl : s.ItemLaws) (i : Nat) :
    (if (s.item i).state = .queued then
        ({ s.releaseReservation (s.item i) with
            gradeQueue := (s.releaseReservation (s.item i)).gradeQueue.erase i } : State)
      else s.releaseReservation (s.item i)) =
      { s.releaseReservation (s.item i) with gradeQueue := s.gradeQueue.filter (· ≠ i) } := by
  obtain ⟨bins, hrel⟩ := s.releaseReservation_frame (s.item i)
  rw [hrel]
  by_cases hst : (s.item i).state = .queued
  · rw [if_pos hst]
    refine congrArg (fun q => ({ s with bins := bins, gradeQueue := q } : State)) ?_
    rw [hl.2.1.1.erase_eq_filter]
    exact List.filter_congr fun j _ => Bool.eq_iff_iff.2 (by rw [bne_iff_ne, decide_eq_true_eq])
  · have hself : s.gradeQueue.filter (· ≠ i) = s.gradeQueue := List.filter_eq_self.2 fun j hj => by
      rw [decide_eq_true_eq]
      rintro rfl
      exact hl.not_mem_queue hst hj
    rw [if_neg hst, hself]

theorem workTrayCleared_found {tray i : Nat} {s : State} (hl : s.ItemLaws) (ht : tray < 1024)
    (hf : s.itemOnTray tray = some (i, s.item i)) :
    workTrayCleared tray s = ({ code := .ok }, s.trayCleared i (s.item i)) := by
  unfold workTrayCleared
  rw [if_neg (Nat.not_le.2 ht), hf]
  exact congrArg (fun t : State => (({ code := .ok } : Answer), (t.bump .removed).retire i _)) (hl.leavesQueue i)

theorem workTrayCleared_noItem {tray : Nat} {s : State} (ht : tray < 1024) (hf : s.itemOnTray tray = none) :
    workTrayCleared tray s = ({ code := .noItem }, s) := by
  rw [workTrayCleared, if_neg (Nat.not_le.2 ht), hf]

theorem State.trayCleared_inSorterAccess (s : State) (tag : Nat) (r : Request) (i : Nat) (it : Item) :
    (s.inSorterAccess tag r).trayCleared i it = (s.trayCleared i it).inSorterAccess tag r := by
  rw [State.trayCleared, State.releaseReservation_inSorterAccess]
  exact State.retire_inSorterAccess
    (({ s.releaseReservation it with gradeQueue := s.gradeQueue.filter (· ≠ i) } : State).bump .removed) tag r i _

theorem State.ItemLaws.inSorterAccess {s : State} (hl : s.ItemLaws) (tag : Nat) (r : Request) :
    (s.closeRaises.inSorterAccess tag r).ItemLaws := hl.congr rfl rfl rfl rfl

/-! ### CHUTE CLEAR (R21) -/

theorem workChuteClear_range {chute : Nat} {s : State} (h : chute = 0 ∨ 47 < chute) :
    workChuteClear chute s = ({ code := .range }, s) := by
  refine if_pos ?_
  rw [Bool.not_eq_true', ← Bool.not_eq_true, chuteInRange_iff]
  omega

/-- How many zones CHUTE CLEAR reopens. -/
def State.blockedZones (s : State) (chute : Nat) : Nat :=
  (List.range 32).countP fun z => decide ((s.zone z).state = .blocked ∧ (s.zone z).chute = chute)

theorem workChuteClear_clears {chute : Nat} {s : State} (h1 : 1 ≤ chute) (h47 : chute ≤ 47) :
    workChuteClear chute s =
      ({ code := .ok, results := .reopened (s.blockedZones chute) }, s.updateZones (Zone.clearFor chute)) := by
  have hcount : tcount Zone.atReset s.zones Config.zoneEntries (fun z => z.state == .blocked && z.chute == chute) =
      s.blockedZones chute := List.countP_congr fun z _ => by
    rw [Bool.and_eq_true, beq_iff_eq, beq_iff_eq, decide_eq_true_eq]
    rfl
  rw [workChuteClear, chuteInRange_of h1 h47, hcount]
  rfl

/-! ### ITEM QUERY (R22) -/

theorem State.atMoment_frame (s : State) (r : Request) (m : Moment) :
    ∃ counters, s.atMoment r m = { s with counters := counters } := by
  unfold State.atMoment
  split
  · exact ⟨_, rfl⟩
  · exact ⟨s.counters, rfl⟩

theorem State.atWork_items (s : State) (h : Header) (tag : Nat) (r : Request) :
    (s.atWork h tag r).items = s.items ∧ (s.atWork h tag r).trayIndex = s.trayIndex := by
  unfold State.atWork
  split
  · simp
  · obtain ⟨counters, hm⟩ := s.atMoment_frame r h.moment
    rw [hm]
    exact ⟨rfl, rfl⟩

theorem State.itemOnTray_atWork (s : State) (h : Header) (tag : Nat) (r : Request) (tray : Nat) :
    (s.atWork h tag r).itemOnTray tray = s.itemOnTray tray :=
  State.itemOnTray_congr (s.atWork_items h tag r).2 (s.atWork_items h tag r).1 tray

theorem State.item_atWork (s : State) (h : Header) (tag : Nat) (r : Request) (i : Nat) :
    (s.atWork h tag r).item i = s.item i := State.item_congr (s.atWork_items h tag r).1 i

theorem workItemQuery_range {k n : Nat} {s : State} (h : 1 < k ∨ (k = 0 ∧ 1024 ≤ n) ∨ (k = 1 ∧ 256 ≤ n)) :
    workItemQuery k n s = ({ code := .range }, s) := by
  match k with
  | 0 => exact if_pos (show 1024 ≤ n by omega)
  | 1 => exact if_pos (show 256 ≤ n by omega)
  | _ + 2 => rfl

theorem workItemQuery_noItem {n : Nat} {s : State} (h : n < 1024) (hf : s.itemOnTray n = none) :
    workItemQuery 0 n s = ({ code := .noItem }, s) := by
  unfold workItemQuery
  rw [if_neg (Nat.not_le.2 h), hf]
  rfl

theorem workItemQuery_tray {n i : Nat} {it : Item} {s : State} (h : n < 1024) (hf : s.itemOnTray n = some (i, it)) :
    workItemQuery 0 n s = ({ code := .ok, results := .item i it }, s) := by
  unfold workItemQuery
  rw [if_neg (Nat.not_le.2 h), hf]
  rfl

theorem workItemQuery_index {n : Nat} {s : State} (h : n < 256) :
    workItemQuery 1 n s = ({ code := .ok, results := .item n (s.item n) }, s) := if_neg (Nat.not_le.2 h)

/-- Settles O49: TRAY CLEARED, CHUTE CLEAR, and ITEM QUERY on either port. -/
theorem trayClearedChuteClearAndItemQuery : Obligations.TrayClearedChuteClearAndItemQuery := by
  refine ⟨fun h tag tray s hl ht => ⟨fun hr => ?_, fun hr hno => ?_, fun i it hr hc hit => ?_⟩,
    fun h tag chute s ht => ⟨fun hr => ?_, fun h1 h47 => ?_⟩,
    fun h p tag k n s hl ht => ⟨fun hr => ?_, fun hk hn hno => ?_, fun i hfound => ?_⟩⟩
  · exact exec_taken_sorter (u := s.closeRaises) rfl ht rfl (if_pos hr)
  · exact exec_taken_sorter (u := s.closeRaises) rfl ht rfl (workTrayCleared_noItem hr
      ((s.itemOnTray_inSorterAccess ..).trans (State.itemOnTray_of_not_carries hl.1 hno)))
  · subst hit
    refine exec_taken_sorter (u := s.closeRaises.trayCleared i (s.item i)) rfl ht rfl
      ((workTrayCleared_found (hl.inSorterAccess tag _) hr
        ((s.itemOnTray_inSorterAccess ..).trans (State.itemOnTray_of_carries hl.1 hc))).trans ?_)
    exact congrArg (Prod.mk _) (s.closeRaises.trayCleared_inSorterAccess ..)
  · exact exec_taken_sorter (u := s.closeRaises) rfl ht rfl (workChuteClear_range hr)
  · refine ⟨s.closeRaises.updateZones (Zone.clearFor chute),
      exec_taken_sorter rfl ht rfl ((workChuteClear_clears h1 h47).trans ?_), fun z hz => ?_,
      s.closeRaises.updateZones_frame _⟩
    · rw [State.updateZones_inSorterAccess]
      rfl
    · rw [State.zone_updateZones, if_pos hz]
      rfl
  · exact exec_taken_reads rfl ht rfl (workItemQuery_range hr)
  · subst hk
    exact exec_taken_reads rfl ht rfl (workItemQuery_noItem hn
      ((s.itemOnTray_atWork ..).trans (State.itemOnTray_of_not_carries hl.1 hno)))
  · rcases hfound with ⟨rfl, hn, hc⟩ | ⟨rfl, hn, rfl⟩
    · exact exec_taken_reads rfl ht rfl (workItemQuery_tray hn
        ((s.itemOnTray_atWork ..).trans (State.itemOnTray_of_carries hl.1 hc)))
    · refine exec_taken_reads rfl ht rfl ((workItemQuery_index hn).trans ?_)
      rw [State.item_atWork]

end Sys2Proof.Machine
end

section
/-! PROOFS. The Grade Computer's fetch, computation and write-back (R105 to R111, R117 to R123). -/

namespace Sys2Proof.Machine

/-! ### The fetch (R107, R108, R123) -/

theorem runAccess_fetch {s : State} (h : s.grader = .fetchWait) : runAccess .gc s = gradingFetch s := by
  unfold runAccess
  rw [h]

theorem runAccess_writeBack {s : State} {c : GradeCopy} {r : Option GradeResult} (h : s.grader = .writeWait c r) :
    runAccess .gc s = gradingWriteBack c r s := by
  unfold runAccess
  rw [h]

theorem gradingFetch_nil {s : State} (h : s.gradeQueue = []) : gradingFetch s = { s with grader := .idle } := by
  unfold gradingFetch
  rw [h]

theorem gradingFetch_cons {s : State} {i : Nat} {rest : List Nat} (h : s.gradeQueue = i :: rest)
    (hfree : s.arbiter.holder = none) :
    gradingFetch s =
      { s.setItem i { s.item i with state := .grading } with
        gradeQueue := rest
        grader := .computing (s.gradeCopy i)
        arbiter := { s.arbiter with
          holder := if s.arbiter.strategy = .chained then some .gc else none
          chain := if s.arbiter.strategy = .chained then true else s.arbiter.chain } } := by
  unfold gradingFetch
  rw [h]
  by_cases hs : s.arbiter.strategy = .chained
  · simp only [if_pos hs]
    rfl
  · simp only [if_neg hs, ← hfree]
    rfl

theorem exec_grant_client {s : State} {c : Client} (hr : s.resetN = true) (hfree : s.arbiter.holder = none)
    (hc : s.arbiter.choice = some c) : exec .storeAccessGrant s = .next (runAccess c (s.markGranted c)) := by
  rw [exec_grant hr, grantStore_free hfree hc]

/-! ### COMPUTATION_DONE (R109, R123) -/

theorem endComputation_posts {s : State} {c : GradeCopy} (hg : s.grader = .computing c)
    (hc : s.arbiter.chain = false) (m : Moment) :
    endComputation m s = postClient .gc m { s with grader := .writeWait c (computeResult c) } := by
  rw [endComputation, hg]
  exact if_neg (hc ▸ Bool.false_ne_true)

theorem endComputation_not {s : State} (h : ∀ c, s.grader ≠ .computing c) (m : Moment) :
    endComputation m s = s := by
  unfold endComputation
  split
  next c hg => exact absurd hg (h c)
  · rfl

theorem exec_computationDone_not {s : State} (h : ∀ c, s.grader ≠ .computing c) (m : Moment) :
    exec (.computationDone m) s = .next s := by
  show whenRunning s _ = _
  rw [whenRunning, endComputation_not h, ite_self]

theorem State.afterChain_not {s : State}
    (h : ∀ tag r, s.linePort.phase = .executing tag r → r ≠ .fullReset ∧ r ≠ .lineRestart) : s.afterChain = s := by
  unfold State.afterChain
  split
  next tag r hph =>
    obtain ⟨hf, hl⟩ := h tag r hph
    exact if_neg fun hr => hr.elim hf hl
  · rfl

/-! ### What a write-back leaves (R110, R111, R106) -/

theorem State.graderDone_idle {s : State} (h : s.gradeQueue = []) : s.graderDone = { s with grader := .idle } := by
  rw [State.graderDone, h]
  rfl

theorem State.graderDone_fetches {s : State} (h : s.gradeQueue ≠ []) :
    s.graderDone =
      { s with
        grader := .fetchWait
        arbiter := { s.arbiter with waiting := { s.arbiter.waiting with gc := true } } } :=
  if_neg fun he => h (List.isEmpty_iff.1 he)

theorem State.graderDone_frame (s : State) :
    s.graderDone = { s with grader := s.graderDone.grader, arbiter := s.graderDone.arbiter } := by
  unfold State.graderDone
  split <;> rfl

theorem State.graderDone_items (s : State) : s.graderDone.items = s.items := by rw [State.graderDone_frame]

theorem State.stillGrading_iff (s : State) (c : GradeCopy) :
    s.stillGrading c = true ↔ (s.item c.index).state = .grading ∧ (s.item c.index).ticket = c.ticket := by
  rw [State.stillGrading, Bool.and_eq_true, beq_iff_eq, beq_iff_eq]

theorem gradingWriteBack_discarded {s : State} {c : GradeCopy}
    (h : (s.item c.index).state ≠ .grading ∨ (s.item c.index).ticket ≠ c.ticket) (r : Option GradeResult) :
    gradingWriteBack c r s = s.graderDone := by
  rw [gradingWriteBack, if_neg fun hs => ?_]
  obtain ⟨hst, htick⟩ := (s.stillGrading_iff c).1 hs
  exact h.elim (· hst) (· htick)

theorem gradingWriteBack_applied {s : State} {c : GradeCopy} (hst : (s.item c.index).state = .grading)
    (htick : (s.item c.index).ticket = c.ticket) (r : Option GradeResult) :
    gradingWriteBack c r s = (applyResult c r s).graderDone := by
  rw [gradingWriteBack, if_pos ((s.stillGrading_iff c).2 ⟨hst, htick⟩)]

/-- An applied result touches neither the queue nor the arbiter. -/
theorem gradingWriteBack_done (c : GradeCopy) (r : Option GradeResult) (s : State) :
    ∃ t : State, gradingWriteBack c r s = t.graderDone ∧ t.gradeQueue = s.gradeQueue ∧ t.arbiter = s.arbiter := by
  rw [gradingWriteBack]
  refine ⟨_, rfl, ?_⟩
  split
  · obtain ⟨it, bins, k, -, -, e⟩ := applyResult_frame c r s
    rw [e]
    exact ⟨rfl, rfl⟩
  · exact ⟨rfl, rfl⟩

/-! ### The bin and chute steps (R120, R121) -/

theorem Disposition.lane_none {d : Disposition} (hn : d ≠ .restockNew) (hs : d ≠ .restockSecond) : d.lane = none := by
  cases d with
  | restockNew => exact absurd rfl hn
  | restockSecond => exact absurd rfl hs
  | _ => rfl

theorem Disposition.lane_some {d : Disposition} {lane : Lane}
    (h : (d = .restockNew ∧ lane = .new) ∨ (d = .restockSecond ∧ lane = .second)) : d.lane = some lane := by
  rcases h with ⟨rfl, rfl⟩ | ⟨rfl, rfl⟩ <;> rfl

theorem State.placeItem_chute {s : State} {d : Disposition} (h : d.lane = none) (c : GradeCopy) (it : Item)
    (why : Reason) : s.placeItem c it d why = (finishWithoutBin s.line it d why, s) := by
  rw [State.placeItem, h]

theorem State.placeItem_bin {s : State} {c : GradeCopy} {d : Disposition} {lane : Lane} {b : Nat}
    (h : d.lane = some lane) (hb : s.searchBin c.record.prefs c.cls lane = some b) (it : Item) (why : Reason) :
    s.placeItem c it d why =
      ({ it with disposition := some d, reason := why, bin := some b, chute := some (s.zone (s.bin b).zone).chute },
        if s.mode = .run then s.reserveBin b c.cls else s) := by
  unfold State.placeItem
  rw [h]
  simp only [hb]

theorem State.placeItem_noSlot {s : State} {c : GradeCopy} {d : Disposition} {lane : Lane}
    (h : d.lane = some lane) (hb : s.searchBin c.record.prefs c.cls lane = none) (it : Item) (why : Reason) :
    s.placeItem c it d why = (finishWithoutBin s.line it .review .noSlot, s.bump .noSlot) := by
  unfold State.placeItem
  rw [h]
  simp only [hb]

theorem State.placeItem_counter (s : State) (c : GradeCopy) (it : Item) (d : Disposition) (why : Reason)
    {e : Counter} (he : e ≠ .noSlot) : (s.placeItem c it d why).2.counter e = s.counter e := by
  cases hl : d.lane with
  | none => rw [State.placeItem_chute hl]
  | some lane =>
    cases hb : s.searchBin c.record.prefs c.cls lane with
    | none => rw [State.placeItem_noSlot hl hb, State.counter_bump, if_neg he]
    | some b =>
      rw [State.placeItem_bin hl hb]
      show (if s.mode = .run then s.reserveBin b c.cls else s).counter e = s.counter e
      split <;> rfl

/-! ### The counters of a decision (R111) -/

theorem Grade.counter_injective {g k : Grade} (h : g.counter = k.counter) : g = k := by
  cases g <;> cases k <;> simp [Grade.counter] at h ⊢

theorem Grade.counter_ne (g : Grade) : g.counter ≠ .noSlot ∧ g.counter ≠ .reviewed := by
  cases g <;> exact ⟨by decide, by decide⟩

/-- The state with the counter of the computed grade raised. -/
def State.countGrade (s : State) (r : Option GradeResult) : State :=
  match r with
  | some x => s.bump x.grade.counter
  | none => s

theorem State.counter_countGrade_of_not {s : State} {r : Option GradeResult} {e : Counter}
    (h : ∀ x, r = some x → e ≠ x.grade.counter) : (s.countGrade r).counter e = s.counter e := by
  cases r with
  | none => rfl
  | some x => exact (s.counter_bump _ _).trans (if_neg (h x rfl))

theorem State.counter_countGrade_grade {s : State} {r : Option GradeResult} {g : Grade}
    (h : ∃ x, r = some x ∧ x.grade = g) :
    (s.countGrade r).counter g.counter = min 65535 (s.counter g.counter + 1) := by
  obtain ⟨x, rfl, rfl⟩ := h
  exact (s.counter_bump _ _).trans (if_pos rfl)

theorem State.countDecision_eq (s : State) (r : Option GradeResult) (it : Item) : s.countDecision r it =
    if it.disposition = some .review then (s.countGrade r).bump .reviewed else s.countGrade r := by
  cases r <;> rfl

theorem State.counter_countDecision_reviewed (s : State) (r : Option GradeResult) (it : Item) :
    (s.countDecision r it).counter .reviewed =
      if it.disposition = some .review then min 65535 (s.counter .reviewed + 1) else s.counter .reviewed := by
  have hgrade : (s.countGrade r).counter .reviewed = s.counter .reviewed :=
    State.counter_countGrade_of_not fun x _ => x.grade.counter_ne.2.symm
  rw [State.countDecision_eq]
  split
  · rw [State.counter_bump, if_pos rfl, hgrade]
  · exact hgrade

theorem State.counter_countDecision_of_ne (s : State) (r : Option GradeResult) (it : Item) {e : Counter}
    (h : e ≠ .reviewed) : (s.countDecision r it).counter e = (s.countGrade r).counter e := by
  rw [State.countDecision_eq]
  split
  · rw [State.counter_bump, if_neg h]
  · rfl

/-! ### The override list (R117, R118) -/

theorem weightDifference_eq (n w : Nat) : weightDifference n w = ((w : Int) - (n : Int)).natAbs := by
  rw [weightDifference]
  omega

theorem GradeCopy.wrongItem_iff (c : GradeCopy) :
    c.wrongItem = true ↔ ∃ t k, c.tag = some t ∧ t.sku = some k ∧ k ≠ c.cls := by
  unfold GradeCopy.wrongItem
  cases ht : c.tag with
  | none => simp
  | some t =>
    cases hs : t.sku with
    | none => simp [hs]
    | some k => simp [hs]

theorem GradeCopy.grossWeight_iff (c : GradeCopy) :
    c.grossWeight = true ↔ ∃ w n, c.weight = some w ∧ c.nominal = some n ∧
      c.record.grossFactor * allowance c.record n < ((w : Int) - (n : Int)).natAbs := by
  unfold GradeCopy.grossWeight
  cases hw : c.weight with
  | none => simp
  | some w =>
    cases hn : c.nominal with
    | none => simp
    | some n => simp [weightDifference_eq]

theorem GradeCopy.hygieneBreach_iff (c : GradeCopy) :
    c.hygieneBreach = true ↔ c.hygiene = true ∧ ∀ t, c.tag = some t → t.tag ≠ .intact := by
  unfold GradeCopy.hygieneBreach
  cases ht : c.tag with
  | none => simp
  | some t => simp

theorem GradeCopy.highValue_iff (c : GradeCopy) (g : Grade) :
    c.highValue g = true ↔ g ≠ .a ∧ ∃ b, c.band = some b ∧ c.record.highBand ≤ b := by
  unfold GradeCopy.highValue
  cases hb : c.band with
  | none => simp
  | some b => simp [and_comm]

theorem decideDisposition_noManifest {c : GradeCopy} (h : c.noManifest = true) (r : Option GradeResult) :
    decideDisposition c r = (.review, .noManifest) := if_pos h

theorem decideDisposition_noClass {c : GradeCopy} (h : c.noManifest = false) :
    decideDisposition c none = (.review, .noClass) := if_neg (h ▸ Bool.false_ne_true)

theorem decideDisposition_some {c : GradeCopy} (h : c.noManifest = false) (x : GradeResult) :
    decideDisposition c (some x) =
      if c.excessUnit = true then (.review, .excessUnit)
      else if c.wrongItem = true then (.review, .wrongItem)
      else if c.grossWeight = true then (.review, .weightGross)
      else if c.hygieneBreach = true then (.recycle, .hygiene)
      else if c.highValue x.grade = true then (.review, .highValue)
      else (c.record.mapped x.grade, .none) := if_neg (h ▸ Bool.false_ne_true)

/-! ### An applied write-back (R111) -/

/-- The item an applied write-back begins from. -/
def Item.scored (it : Item) (r : Option GradeResult) : Item :=
  { it with score := r.map (·.score), grade := r.map (·.grade) }

/-- What an applied write-back leaves, in terms of the bin and chute steps: the item decided, the bins of those
steps, and the counters of the grade and of the decision. -/
theorem gradingWriteBack_leaves {s : State} {c : GradeCopy} {r : Option GradeResult} {d : Disposition} {why : Reason}
    {x : Item} {t : State} (hst : (s.item c.index).state = .grading) (htick : (s.item c.index).ticket = c.ticket)
    (hd : decideDisposition c r = (d, why)) (hp : s.placeItem c ((s.item c.index).scored r) d why = (x, t)) :
    (gradingWriteBack c r s).item c.index = { x with state := .decided } ∧
      (∀ j, j ≠ c.index → (gradingWriteBack c r s).item j = s.item j) ∧
      (gradingWriteBack c r s).bins = t.bins ∧
      (∀ e, (gradingWriteBack c r s).counter e = (t.countDecision r x).counter e) ∧
      gradingWriteBack c r s =
        { s with
          items := (gradingWriteBack c r s).items, bins := (gradingWriteBack c r s).bins
          counters := (gradingWriteBack c r s).counters, grader := (gradingWriteBack c r s).grader
          arbiter := (gradingWriteBack c r s).arbiter } := by
  have happ : applyResult c r s = (t.countDecision r x).setItem c.index { x with state := .decided } := by
    have hp' : s.placeItem c ((s.item c.index).scored r) (decideDisposition c r).1 (decideDisposition c r).2 =
        (x, t) := by
      rw [hd]
      exact hp
    exact congrArg (fun p : Item × State =>
      (p.2.countDecision r p.1).setItem c.index { p.1 with state := .decided }) hp'
  obtain ⟨-, bins, k, ht⟩ := s.placeItem_frame c ((s.item c.index).scored r) d why
  rw [hp] at ht
  change t = _ at ht
  obtain ⟨k', hk⟩ := t.countDecision_frame r x
  have hitem (j : Nat) : (gradingWriteBack c r s).item j =
      if j = c.index then { x with state := .decided } else s.item j := by
    rw [gradingWriteBack_applied hst htick, happ, State.item_congr (State.graderDone_items _), State.item_setItem]
    refine if_congr Iff.rfl rfl (State.item_congr ?_ j)
    rw [hk, ht]
  refine ⟨(hitem _).trans (if_pos rfl), fun j hj => (hitem j).trans (if_neg hj), ?_, fun e => ?_, ?_⟩
  · rw [gradingWriteBack_applied hst htick, happ, State.graderDone_frame, hk]
    rfl
  · rw [gradingWriteBack_applied hst htick, happ, State.graderDone_frame]
    rfl
  · rw [gradingWriteBack_applied hst htick, happ, State.graderDone_frame, hk, ht]
    rfl

theorem State.placeItem_grader (s : State) (g : Grader) (c : GradeCopy) (it : Item) (d : Disposition)
    (why : Reason) : ({ s with grader := g } : State).placeItem c it d why =
      ((s.placeItem c it d why).1, { (s.placeItem c it d why).2 with grader := g }) := by
  cases hl : d.lane with
  | none => rw [State.placeItem_chute hl, State.placeItem_chute hl]
  | some lane =>
    have hsearch : ({ s with grader := g } : State).searchBin c.record.prefs c.cls lane =
        s.searchBin c.record.prefs c.cls lane :=
      State.searchBin_congr (s := s) (t := { s with grader := g }) rfl rfl rfl ..
    cases hb : s.searchBin c.record.prefs c.cls lane with
    | none =>
      rw [State.placeItem_noSlot hl hb, State.placeItem_noSlot hl (hsearch.trans hb)]
      rfl
    | some b =>
      rw [State.placeItem_bin hl hb, State.placeItem_bin hl (hsearch.trans hb)]
      refine Prod.ext rfl ?_
      show (if s.mode = .run then ({ s with grader := g } : State).reserveBin b c.cls else { s with grader := g }) =
        { (if s.mode = .run then s.reserveBin b c.cls else s) with grader := g }
      split <;> rfl

theorem State.countDecision_grader (s : State) (g : Grader) (r : Option GradeResult) (it : Item) :
    ({ s with grader := g } : State).countDecision r it = { s.countDecision r it with grader := g } := by
  rw [State.countDecision_eq, State.countDecision_eq]
  cases r <;> split <;> rfl

theorem applyResult_grader (s : State) (g : Grader) (c : GradeCopy) (r : Option GradeResult) :
    applyResult c r { s with grader := g } = { applyResult c r s with grader := g } := by
  unfold applyResult
  simp only [State.placeItem_grader, State.countDecision_grader]
  rfl

theorem State.graderDone_grader (s : State) (g : Grader) :
    ({ s with grader := g } : State).graderDone = s.graderDone := by
  by_cases h : s.gradeQueue = []
  · rw [State.graderDone_idle h, State.graderDone_idle (s := { s with grader := g }) h]
  · rw [State.graderDone_fetches h, State.graderDone_fetches (s := { s with grader := g }) h]

/-- A write-back replaces the Grade Computer's state whatever it was. -/
theorem gradingWriteBack_grader (s : State) (g : Grader) (c : GradeCopy) (r : Option GradeResult) :
    gradingWriteBack c r { s with grader := g } = gradingWriteBack c r s := by
  by_cases h : s.stillGrading c = true
  · rw [gradingWriteBack, gradingWriteBack, if_pos h, if_pos
        (c := State.stillGrading { s with grader := g } c = true) h,
      applyResult_grader, State.graderDone_grader]
  · rw [gradingWriteBack, gradingWriteBack, if_neg h, if_neg
        (c := State.stillGrading { s with grader := g } c = true) h,
      State.graderDone_grader]

theorem State.reserveBin_bin (s : State) (b k e : Nat) :
    (s.reserveBin b k).bin e = if e = b then (s.bin b).reserve k else s.bin e := State.bin_setBin ..

/-- Settles O52: the fetch, the computation, the write-back, and the override list. -/
theorem grading : Obligations.Grading := by
  refine ⟨fun s hr hfree hc hg => ⟨fun hq => ?_, fun i rest it hq hit => ?_⟩,
    fun m c s hr hg => ⟨fun hchain hat => ?_, fun hchain hat => ?_, fun hchain hline => ⟨_, rfl, ?_⟩⟩,
    fun m s hnot => exec_computationDone_not hnot m, fun c r s hr hfree hc hg => ?_,
    fun c r s => ⟨?_, fun hgone => ?_, fun d why base it lane u hst htick hd hbase hu hit => ?_⟩,
    fun c x wrong gross breach hwrong hgross hbreach => ⟨fun hm y => decideDisposition_noManifest hm y,
      fun hm => decideDisposition_noClass hm, fun hm => ?_⟩⟩
  · rw [exec_grant_client hr hfree hc, runAccess_fetch (s := s.markGranted .gc) hg,
      gradingFetch_nil (s := s.markGranted .gc) hq]
  · subst hit
    rw [exec_grant_client hr hfree hc, runAccess_fetch (s := s.markGranted .gc) hg,
      gradingFetch_cons (s := s.markGranted .gc) hq hfree]
    rfl
  · rw [exec_computationDone hr, endComputation_posts hg hchain, postClient]
    exact congrArg Host.Outcome.next (if_neg (hat ▸ Bool.false_ne_true))
  · rw [exec_computationDone hr, endComputation_posts hg hchain, postClient]
    refine congrArg Host.Outcome.next ((if_pos hat).trans ?_)
    rw [runAccess_writeBack (s := State.markGranted { s with grader := .writeWait c (computeResult c) } .gc) rfl]
    exact gradingWriteBack_grader (s.markGranted .gc) ..
  · rw [exec_computationDone hr, endComputation_chain hg hchain]
    refine congrArg Host.Outcome.next (State.afterChain_not fun tag q hph => hline tag q ?_)
    exact ((gradingWriteBack_linePort c (computeResult c) s.closeRaises).symm.trans rfl).symm ▸ hph
  · rw [exec_grant_client hr hfree hc, runAccess_writeBack (s := s.markGranted .gc) hg]
  · obtain ⟨t, ht, hq, ha⟩ := gradingWriteBack_done c r s
    rw [ht]
    refine ⟨?_, fun h => ?_, fun h => ?_⟩
    · rw [State.graderDone_frame]
      exact hq
    · rw [State.graderDone_idle (hq.trans h)]
      exact ⟨rfl, ha⟩
    · rw [State.graderDone_fetches (hq ▸ h), ← ha]
      exact ⟨rfl, rfl⟩
  · rw [gradingWriteBack_discarded hgone]
    exact s.graderDone_frame
  · have hleaves := gradingWriteBack_leaves (r := r) hst htick hd
      (x := (s.placeItem c ((s.item c.index).scored r) d why).1)
      (t := (s.placeItem c ((s.item c.index).scored r) d why).2) rfl
    rw [← hu, ← hit] at hleaves
    obtain ⟨hitem, hothers, hbins, hcounter, hframe⟩ := hleaves
    have hdisp : (s.placeItem c ((s.item c.index).scored r) d why).1.disposition = it.disposition := by rw [hitem]
    have hslot : u.counter .noSlot = (s.placeItem c ((s.item c.index).scored r) d why).2.counter .noSlot := by
      rw [hcounter, State.counter_countDecision_of_ne _ _ _ (by decide),
        State.counter_countGrade_of_not fun x _ => x.grade.counter_ne.1.symm]
    subst hbase
    refine ⟨fun hn hs hch => ?_, fun hn hs hch => ?_, fun hlane => ⟨fun b hb => ?_, fun hb => ?_⟩, ?_,
      fun g hg => ?_, fun g hg => ?_, fun e hns hrev hgrade => ?_, hothers, hframe⟩
    · have hp := State.placeItem_chute (s := s) (Disposition.lane_none hn hs) c ((s.item c.index).scored r) why
      rw [hp] at hitem hbins hslot
      exact ⟨hitem.trans (by rw [finishWithoutBin, if_neg hch]; rfl), hbins, hslot⟩
    · have hp := State.placeItem_chute (s := s) (Disposition.lane_none hn hs) c ((s.item c.index).scored r) why
      rw [hp] at hitem hbins hslot
      exact ⟨hitem.trans (by rw [finishWithoutBin, if_pos hch]; rfl), hbins, hslot⟩
    · have hp := State.placeItem_bin (Disposition.lane_some hlane) hb ((s.item c.index).scored r) why
      rw [hp] at hitem hbins hslot
      refine ⟨hitem, fun hm => ?_, fun hm => hbins.trans (by rw [if_neg hm]), hslot.trans ?_⟩
      · rw [if_pos hm] at hbins
        have hbin (e : Nat) : u.bin e = (s.reserveBin b c.cls).bin e := State.bin_congr hbins e
        exact ⟨by rw [hbin, State.reserveBin_bin, if_pos rfl]; rfl,
          fun e he => by rw [hbin, State.reserveBin_bin, if_neg he]⟩
      · split <;> rfl
    · have hp := State.placeItem_noSlot (Disposition.lane_some hlane) hb ((s.item c.index).scored r) why
      rw [hp] at hitem hbins hslot
      refine ⟨hitem.trans ?_, hbins, hslot.trans ((s.counter_bump _ _).trans (if_pos rfl))⟩
      by_cases hch : s.line.reviewChute = 0
      · rw [finishWithoutBin, if_pos (show s.line.chuteFor .review = 0 from hch), if_pos hch]
        rfl
      · rw [finishWithoutBin, if_neg (show ¬ s.line.chuteFor .review = 0 from hch), if_neg hch]
        rfl
    · rw [hcounter, State.counter_countDecision_reviewed, hdisp, State.placeItem_counter _ _ _ _ _ (by decide)]
    · rw [hcounter, State.counter_countDecision_of_ne _ _ _ g.counter_ne.2, State.counter_countGrade_grade hg,
        State.placeItem_counter _ _ _ _ _ g.counter_ne.1]
    · rw [hcounter, State.counter_countDecision_of_ne _ _ _ g.counter_ne.2, State.counter_countGrade_of_not,
        State.placeItem_counter _ _ _ _ _ g.counter_ne.1]
      exact fun x hx he => hg ⟨x, hx, (Grade.counter_injective he).symm⟩
    · rw [hcounter, State.counter_countDecision_of_ne _ _ _ hrev,
        State.counter_countGrade_of_not fun x _ => hgrade x.grade, State.placeItem_counter _ _ _ _ _ hns]
  · rw [decideDisposition_some hm, Bool.eq_iff_iff.2 (c.wrongItem_iff.trans hwrong.symm),
      Bool.eq_iff_iff.2 (c.grossWeight_iff.trans hgross.symm),
      Bool.eq_iff_iff.2 (c.hygieneBreach_iff.trans hbreach.symm)]
    simp only [GradeCopy.highValue_iff]
    cases x.grade <;> rfl

end Sys2Proof.Machine
end

section
/-! PROOFS. The peak extraction: runs, shadow and the strongest peaks (R98 to R102). -/

namespace Sys2Proof.Machine

/-! ### Runs of a profile (R98, R99, R101) -/

/-- A qualifying position of a profile (R98). -/
def Qualifying (k : ClassRecord) (profile : List Int) (i : Nat) : Prop :=
  k.skip ≤ i ∧ ∃ x, profile[i]? = some x ∧ k.threshold ≤ x.natAbs

/-- Position `i` qualifies and has the polarity of position `j` (R99). -/
def Joins (k : ClassRecord) (profile : List Int) (i j : Nat) : Prop :=
  Qualifying k profile i ∧ (profile.getD i 0 < 0 ↔ profile.getD j 0 < 0)

/-- `r` covers positions that join its first one, none joining it on the left, and its peak is the earliest of
the greatest magnitude (R99, R101). -/
structure Run.Grows (k : ClassRecord) (profile : List Int) (r : Run) : Prop where
  le : r.first ≤ r.last
  joins : ∀ i, r.first ≤ i → i ≤ r.last → Joins k profile i r.first
  left : ∀ i, i + 1 = r.first → ¬ Joins k profile i r.first
  inside : r.first ≤ r.peak.pos ∧ r.peak.pos ≤ r.last
  amp : r.peak.amp = profile.getD r.peak.pos 0
  greatest : ∀ i, r.first ≤ i → i ≤ r.last → (profile.getD i 0).natAbs < r.peak.amp.natAbs ∨
    ((profile.getD i 0).natAbs = r.peak.amp.natAbs ∧ r.peak.pos ≤ i)

/-- The longest stretches of qualifying positions of one polarity (R99). -/
def IsRun (k : ClassRecord) (profile : List Int) (x : Nat × Nat) : Prop :=
  x.1 ≤ x.2 ∧ (∀ i, x.1 ≤ i → i ≤ x.2 → Joins k profile i x.1) ∧
    (∀ i, i + 1 = x.1 → ¬ Joins k profile i x.1) ∧ ¬ Joins k profile (x.2 + 1) x.1

/-- The positions a run covers. -/
def Run.span (r : Run) : Nat × Nat := (r.first, r.last)

variable {k : ClassRecord} {profile : List Int}

theorem Joins.trans {i j m : Nat} (h : Joins k profile i j) (hjm : profile.getD j 0 < 0 ↔ profile.getD m 0 < 0) :
    Joins k profile i m := ⟨h.1, h.2.trans hjm⟩

theorem Run.Grows.isRun {r : Run} (h : r.Grows k profile) (hend : ¬ Joins k profile (r.last + 1) r.first) :
    IsRun k profile r.span := ⟨h.le, h.joins, h.left, hend⟩

/-- Two runs that begin at one position are the same. -/
theorem IsRun.eq_of_first {x y : Nat × Nat} (hx : IsRun k profile x) (hy : IsRun k profile y) (h : x.1 = y.1) :
    x = y := by
  obtain ⟨hxle, hxj, -, hxe⟩ := hx
  obtain ⟨hyle, hyj, -, hye⟩ := hy
  refine Prod.ext h ?_
  rcases Nat.lt_trichotomy x.2 y.2 with hlt | heq | hgt
  · exact absurd (h ▸ hyj (x.2 + 1) (by omega) hlt) hxe
  · exact heq
  · exact absurd (h ▸ hxj (y.2 + 1) (by omega) hgt) hye

/-- A run that begins inside another is that run. -/
theorem IsRun.eq_of_inside {x y : Nat × Nat} (hx : IsRun k profile x) (hy : IsRun k profile y) (h1 : y.1 ≤ x.1)
    (h2 : x.1 ≤ y.2) : x = y := by
  refine hx.eq_of_first hy (Nat.le_antisymm ?_ h1)
  by_contra hlt
  obtain ⟨-, hyj, -, -⟩ := hy
  obtain ⟨-, -, hxl, -⟩ := hx
  exact hxl (x.1 - 1) (by omega)
    ((hyj (x.1 - 1) (by omega) (by omega)).trans (hyj x.1 h1 h2).2.symm)

/-- The list `runs` is that of the runs of the profile from position `start` on, in order. -/
structure RunsOf (k : ClassRecord) (profile : List Int) (start : Nat) (runs : List Run) : Prop where
  ordered : runs.Pairwise fun a b => a.last < b.first
  sound : ∀ r ∈ runs, r.Grows k profile ∧ IsRun k profile r.span ∧ start ≤ r.first
  complete : ∀ x, IsRun k profile x → start ≤ x.1 → ∃ r ∈ runs, r.span = x

/-- A run that is complete stands before those that begin after it. -/
theorem RunsOf.cons {r : Run} {start : Nat} {runs : List Run} (h : RunsOf k profile start runs)
    (hr : r.Grows k profile) (hrun : IsRun k profile r.span) (hlt : r.last < start)
    (hgap : ∀ i, r.last < i → i < start → ¬ Qualifying k profile i) :
    RunsOf k profile r.first (r :: runs) where
  ordered := List.pairwise_cons.2 ⟨fun q hq => Nat.lt_of_lt_of_le hlt (h.sound q hq).2.2, h.ordered⟩
  sound q hq := by
    rcases List.mem_cons.1 hq with rfl | hq
    · exact ⟨hr, hrun, Nat.le_refl _⟩
    · obtain ⟨hg, hq', hle⟩ := h.sound q hq
      exact ⟨hg, hq', by have := hr.le; omega⟩
  complete x hx hle := by
    by_cases hin : x.1 ≤ r.last
    · exact ⟨r, List.mem_cons_self .., (hx.eq_of_inside hrun hle hin).symm⟩
    · by_cases hs : start ≤ x.1
      · obtain ⟨q, hq, he⟩ := h.complete x hx hs
        exact ⟨q, List.mem_cons_of_mem _ hq, he⟩
      · exact absurd (hx.2.1 x.1 (Nat.le_refl _) hx.1).1 (hgap x.1 (by omega) (by omega))

/-- Positions that do not qualify may be passed over. -/
theorem RunsOf.earlier {start start' : Nat} {runs : List Run} (h : RunsOf k profile start runs) (hle : start' ≤ start)
    (hgap : ∀ i, start' ≤ i → i < start → ¬ Qualifying k profile i) : RunsOf k profile start' runs where
  ordered := h.ordered
  sound q hq := by
    obtain ⟨hg, hq', hs⟩ := h.sound q hq
    exact ⟨hg, hq', hle.trans hs⟩
  complete x hx hx1 := by
    by_cases hs : start ≤ x.1
    · exact h.complete x hx hs
    · exact absurd (hx.2.1 x.1 (Nat.le_refl _) hx.1).1 (hgap x.1 hx1 (by omega))

theorem not_qualifying_of_end {i : Nat} (h : profile.length ≤ i) : ¬ Qualifying k profile i := by
  rintro ⟨-, v, hv, -⟩
  obtain ⟨hlt, -⟩ := List.getElem?_eq_some_iff.1 hv
  omega

theorem runsOf_end {start : Nat} (h : profile.length ≤ start) : RunsOf k profile start [] where
  ordered := .nil
  sound _ hr := nomatch hr
  complete x hx hle :=
    absurd (hx.2.1 x.1 (Nat.le_refl _) hx.1).1 (not_qualifying_of_end (h.trans hle))

theorem qualifies_iff {pos : Nat} {v : Int} (hv : profile[pos]? = some v) :
    qualifies k pos v = true ↔ Qualifying k profile pos := by
  rw [qualifies, Bool.and_eq_true, decide_eq_true_eq, decide_eq_true_eq, Qualifying, hv]
  simp

/-- A single position begins a run. -/
theorem Run.grows_single {pos : Nat} {v : Int} (hv : profile[pos]? = some v) (hq : Qualifying k profile pos)
    (hleft : ∀ i, i + 1 = pos → ¬ Joins k profile i pos) :
    Run.Grows k profile ⟨pos, pos, ⟨pos, v⟩⟩ := by
  have hget : profile.getD pos 0 = v := by rw [List.getD_eq_getElem?_getD, hv]; rfl
  refine ⟨Nat.le_refl _, fun i h1 h2 => ?_, hleft, ⟨Nat.le_refl _, Nat.le_refl _⟩, hget.symm, fun i h1 h2 => ?_⟩
  · obtain rfl := Nat.le_antisymm h2 h1
    exact ⟨hq, Iff.rfl⟩
  · obtain rfl := Nat.le_antisymm h2 h1
    exact .inr ⟨by rw [hget], Nat.le_refl _⟩

/-- The peak of a run has the polarity of its first position. -/
theorem Run.Grows.peak_sign {r : Run} (h : r.Grows k profile) : r.peak.amp < 0 ↔ profile.getD r.first 0 < 0 := by
  rw [h.amp]
  exact (h.joins _ h.inside.1 h.inside.2).2

/-- A run grows by the next position of its polarity. -/
theorem Run.Grows.extend {r : Run} {v : Int} (h : r.Grows k profile) (hv : profile[r.last + 1]? = some v)
    (hj : Joins k profile (r.last + 1) r.first) : (r.extend (r.last + 1) v).Grows k profile := by
  have hget : profile.getD (r.last + 1) 0 = v := by rw [List.getD_eq_getElem?_getD, hv]; rfl
  have hle := h.le
  obtain ⟨hin1, hin2⟩ := h.inside
  have hlast (i : Nat) (hi : i ≤ r.last + 1) (hne : ¬ i ≤ r.last) : i = r.last + 1 := by omega
  unfold Run.extend
  by_cases hgt : r.peak.amp.natAbs < v.natAbs
  · rw [if_pos hgt]
    refine ⟨Nat.le_succ_of_le hle, fun i h1 h2 => ?_, h.left, ⟨Nat.le_succ_of_le hle, Nat.le_refl _⟩, hget.symm,
      fun i h1 h2 => ?_⟩
    · by_cases hi : i ≤ r.last
      · exact h.joins i h1 hi
      · exact hlast i h2 hi ▸ hj
    · by_cases hi : i ≤ r.last
      · rcases h.greatest i h1 hi with hlt | ⟨heq, -⟩
        · exact .inl (hlt.trans hgt)
        · exact .inl (heq ▸ hgt)
      · obtain rfl := hlast i h2 hi
        exact .inr ⟨by rw [hget], Nat.le_refl _⟩
  · rw [if_neg hgt]
    refine ⟨Nat.le_succ_of_le hle, fun i h1 h2 => ?_, h.left, ⟨hin1, Nat.le_succ_of_le hin2⟩, h.amp,
      fun i h1 h2 => ?_⟩
    · by_cases hi : i ≤ r.last
      · exact h.joins i h1 hi
      · exact hlast i h2 hi ▸ hj
    · by_cases hi : i ≤ r.last
      · exact h.greatest i h1 hi
      · obtain rfl := hlast i h2 hi
        rw [hget]
        show v.natAbs < r.peak.amp.natAbs ∨ v.natAbs = r.peak.amp.natAbs ∧ r.peak.pos ≤ r.last + 1
        omega

/-- Where the runs still to come begin: at the run in progress, or at the next position. -/
def startOf (pos : Nat) : Option Run → Nat
  | some r => r.first
  | none => pos

/-- The run in progress reaches to the position before; with none, that position does not qualify. -/
def InProgress (k : ClassRecord) (profile : List Int) (pos : Nat) : Option Run → Prop
  | some r => r.Grows k profile ∧ r.last + 1 = pos
  | none => ∀ i, i + 1 = pos → ¬ Qualifying k profile i

/-- The runs found from a position on are those of the profile (R99, R101). -/
theorem runsOf_runsFrom (t : List Int) (pos : Nat) (cur : Option Run) (ht : profile.drop pos = t)
    (hpos : pos ≤ profile.length) (hcur : InProgress k profile pos cur) :
    RunsOf k profile (startOf pos cur) (runsFrom k pos cur t) := by
  induction t generalizing pos cur with
  | nil =>
    have hend : profile.length ≤ pos := List.drop_eq_nil_iff.1 ht
    have hnone := runsOf_end (k := k) hend
    cases cur with
    | none => exact hnone
    | some r =>
      obtain ⟨hg, rfl⟩ := hcur
      exact hnone.cons hg (hg.isRun fun hj => not_qualifying_of_end hend hj.1) (Nat.lt_succ_self _)
        fun i h1 h2 => absurd h2 (by omega)
  | cons v t ih =>
    have hv : profile[pos]? = some v := by
      rw [← Nat.add_zero pos, ← List.getElem?_drop, ht]
      rfl
    have hget : profile.getD pos 0 = v := by rw [List.getD_eq_getElem?_getD, hv]; rfl
    have hlt : pos < profile.length := (List.getElem?_eq_some_iff.1 hv).1
    have ht' : profile.drop (pos + 1) = t := by rw [← List.tail_drop, ht, List.tail_cons]
    by_cases hq : Qualifying k profile pos
    · cases cur with
      | none =>
        have hg : Run.Grows k profile ⟨pos, pos, ⟨pos, v⟩⟩ :=
          Run.grows_single hv hq fun i hi hj => hcur i hi hj.1
        have h := ih (pos + 1) (some ⟨pos, pos, ⟨pos, v⟩⟩) ht' hlt ⟨hg, rfl⟩
        rw [runsFrom, if_pos ((qualifies_iff hv).2 hq)]
        exact h
      | some r =>
        obtain ⟨hg, rfl⟩ := hcur
        by_cases hs : r.peak.amp < 0 ↔ v < 0
        · have hj : Joins k profile (r.last + 1) r.first := ⟨hq, by rw [hget, ← hs, hg.peak_sign]⟩
          have h := ih (r.last + 1 + 1) (some (r.extend (r.last + 1) v)) ht' hlt ⟨hg.extend hv hj, rfl⟩
          rw [runsFrom, if_pos ((qualifies_iff hv).2 hq)]
          simp only [propext hs, if_true]
          exact h
        · have hnj : ¬ Joins k profile (r.last + 1) r.first := fun hj => hs (by
            rw [hg.peak_sign, ← hget]
            exact hj.2.symm)
          have hg' : Run.Grows k profile ⟨r.last + 1, r.last + 1, ⟨r.last + 1, v⟩⟩ := by
            refine Run.grows_single hv hq fun i hi hj => ?_
            obtain rfl : i = r.last := by omega
            exact hnj ⟨hq, hj.2.symm.trans (hg.joins _ hg.le (Nat.le_refl _)).2⟩
          have h := ih (r.last + 1 + 1) (some ⟨r.last + 1, r.last + 1, ⟨r.last + 1, v⟩⟩) ht' hlt ⟨hg', rfl⟩
          rw [runsFrom, if_pos ((qualifies_iff hv).2 hq)]
          simp only [eq_iff_iff, hs, if_false]
          exact RunsOf.cons (start := r.last + 1) h hg (hg.isRun hnj) (Nat.lt_succ_self _)
            fun i h1 h2 => absurd h2 (by omega)
    · have hq' : ¬ qualifies k pos v = true := fun h => hq ((qualifies_iff hv).1 h)
      have h := ih (pos + 1) none ht' hlt fun i hi => by
        obtain rfl : i = pos := by omega
        exact hq
      unfold runsFrom
      rw [if_neg hq']
      cases cur with
      | none =>
        refine RunsOf.earlier (start := pos + 1) (start' := pos) h (Nat.le_succ _) fun i h1 h2 => ?_
        obtain rfl : i = pos := by omega
        exact hq
      | some r =>
        obtain ⟨hg, rfl⟩ := hcur
        refine RunsOf.cons (start := r.last + 1 + 1) h hg (hg.isRun fun hj => hq hj.1) (by omega) fun i h1 h2 => ?_
        obtain rfl : i = r.last + 1 := by omega
        exact hq

/-- The runs of a whole profile. -/
theorem runsOf_profile (k : ClassRecord) (profile : List Int) : RunsOf k profile 0 (runsFrom k 0 none profile) :=
  runsOf_runsFrom profile 0 none rfl (Nat.zero_le _) fun _ h => absurd h (Nat.succ_ne_zero _)

end Sys2Proof.Machine
end

section
/-! PROOFS. The shadow and the four strongest peaks (R100, R102). -/

namespace Sys2Proof.Machine

/-! ### The shadow (R100) -/

theorem acceptRuns_sublist (shadow : Nat) (last : Option Nat) (runs : List Run) :
    (acceptRuns shadow last runs).Sublist runs := by
  induction runs generalizing last with
  | nil => cases last <;> exact .slnil
  | cons r t ih =>
    cases last with
    | none => exact (ih _).cons_cons r
    | some l =>
      rw [acceptRuns]
      split
      · exact (ih _).cons r
      · exact (ih _).cons_cons r

/-- A run stays outside the shadow of another that ends before it. -/
def OutsideShadow (shadow : Nat) (a b : Run) : Prop := b.last < a.first → shadow < a.first - b.last

/-- A run is accepted unless it begins in the shadow of the last run before it or of an accepted one. -/
theorem mem_acceptRuns_iff {shadow : Nat} {runs : List Run} (hord : runs.Pairwise fun a b => a.last < b.first)
    (hle : ∀ r ∈ runs, r.first ≤ r.last) (last : Option Nat) {r : Run} (hr : r ∈ runs) :
    r ∈ acceptRuns shadow last runs ↔
      (∀ l, last = some l → shadow < r.first - l) ∧
        ∀ q ∈ acceptRuns shadow last runs, OutsideShadow shadow r q := by
  induction runs generalizing last with
  | nil => cases hr
  | cons a t ih =>
    obtain ⟨hfirst, hrest⟩ := List.pairwise_cons.1 hord
    have hle' : ∀ r ∈ t, r.first ≤ r.last := fun r hr => hle r (List.mem_cons_of_mem _ hr)
    have hale : a.first ≤ a.last := hle a (List.mem_cons_self ..)
    have hlater (q : Run) (hq : q ∈ t) : q ≠ a := by
      rintro rfl
      have := hfirst q hq
      omega
    -- the first run is outside the shadow of those that follow it
    have haccepted (o : Option Nat) : ∀ q ∈ a :: acceptRuns shadow o t, OutsideShadow shadow a q := by
      intro q hq hlt
      rcases List.mem_cons.1 hq with rfl | hq
      · omega
      · have hqt := (acceptRuns_sublist shadow o t).subset hq
        have := hfirst q hqt
        have := hle' q hqt
        omega
    -- a later run is judged by the run taken and by the runs taken after it
    have hstep (h : r ∈ t) : r ∈ a :: acceptRuns shadow (some a.last) t ↔
        ∀ q ∈ a :: acceptRuns shadow (some a.last) t, OutsideShadow shadow r q := by
      rw [List.mem_cons, or_iff_right (hlater r h), ih hrest hle' (some a.last) h, List.forall_mem_cons]
      refine and_congr ⟨fun hs _ => hs _ rfl, fun hs l hl => ?_⟩ Iff.rfl
      cases hl
      exact hs (hfirst r h)
    cases last with
    | none =>
      rw [acceptRuns]
      rcases List.mem_cons.1 hr with rfl | h
      · exact ⟨fun _ => ⟨fun l hl => (nomatch hl), haccepted _⟩, fun _ => List.mem_cons_self ..⟩
      · rw [hstep h]
        exact ⟨fun hq => ⟨fun l hl => (nomatch hl), hq⟩, fun hq => hq.2⟩
    | some l =>
      rw [acceptRuns]
      by_cases hin : a.first - l ≤ shadow
      · rw [if_pos hin]
        rcases List.mem_cons.1 hr with rfl | h
        · refine ⟨fun hm => ?_, fun hs => ?_⟩
          · exact absurd rfl (hlater _ ((acceptRuns_sublist shadow _ t).subset hm))
          · exact absurd (hs.1 l rfl) (Nat.not_lt.2 hin)
        · exact ih hrest hle' (some l) h
      · rw [if_neg hin]
        rcases List.mem_cons.1 hr with rfl | h
        · refine ⟨fun _ => ⟨fun m hm => ?_, haccepted _⟩, fun _ => List.mem_cons_self ..⟩
          cases hm
          exact Nat.not_le.1 hin
        · rw [hstep h]
          refine ⟨fun hq => ⟨fun m hm => ?_, hq⟩, fun hq => hq.2⟩
          cases hm
          have hs : shadow < r.first - a.last := hq a (List.mem_cons_self ..) (hfirst r h)
          omega

/-! ### The four strongest (R102) -/

theorem Peak.ranksBefore_iff (q p : Peak) : q.ranksBefore p = true ↔
    p.amp.natAbs < q.amp.natAbs ∨ (p.amp.natAbs = q.amp.natAbs ∧ q.pos < p.pos) := by
  rw [Peak.ranksBefore, Bool.or_eq_true, Bool.and_eq_true, decide_eq_true_eq, decide_eq_true_eq, beq_iff_eq,
    eq_comm (a := q.amp.natAbs)]

/-- How many peaks rank before one. -/
def rankIn (peaks : List Peak) (p : Peak) : Nat := peaks.countP fun q => q.ranksBefore p

theorem rankIn_lt_length {peaks : List Peak} {p : Peak} (hp : p ∈ peaks) : rankIn peaks p < peaks.length := by
  refine Nat.lt_of_le_of_ne List.countP_le_length fun h => ?_
  have hself := (Peak.ranksBefore_iff p p).1 (List.countP_eq_length.1 h p hp)
  omega

theorem countP_lt_countP {α : Type} {l : List α} {p q : α → Bool} (himp : ∀ x ∈ l, p x = true → q x = true) {a : α}
    (ha : a ∈ l) (hp : p a = false) (hq : q a = true) : l.countP p < l.countP q := by
  obtain ⟨s, t, rfl⟩ := List.append_of_mem ha
  have hs : s.countP p ≤ s.countP q := List.countP_mono_left fun x hx => himp x (List.mem_append_left _ hx)
  have ht : t.countP p ≤ t.countP q :=
    List.countP_mono_left fun x hx => himp x (List.mem_append_right _ (List.mem_cons_of_mem _ hx))
  rw [List.countP_append, List.countP_append, List.countP_cons, List.countP_cons, hp, hq]
  simp only [Bool.false_eq_true, if_false, if_true]
  omega

theorem rankIn_lt {peaks : List Peak} {p q : Peak} (hp : p ∈ peaks) (h : p.ranksBefore q = true) :
    rankIn peaks p < rankIn peaks q := by
  have hpq := (Peak.ranksBefore_iff p q).1 h
  refine countP_lt_countP (fun x _ hx => ?_) hp ?_ h
  · have hxp := (Peak.ranksBefore_iff x p).1 hx
    exact (Peak.ranksBefore_iff x q).2 (by omega)
  · rw [← Bool.not_eq_true, Peak.ranksBefore_iff]
    omega

/-- Peaks in order of position have the ranks 0, 1, 2 and so on, each once. -/
theorem perm_map_rankIn {peaks : List Peak} (h : peaks.Pairwise fun p q => p.pos < q.pos) :
    (peaks.map (rankIn peaks)).Perm (List.range peaks.length) := by
  have hnodup : (peaks.map (rankIn peaks)).Nodup := by
    refine List.pairwise_map.2 (h.imp_of_mem fun {p q} hp hq hlt => ?_)
    rcases Bool.eq_false_or_eq_true (p.ranksBefore q) with hb | hb
    · exact (rankIn_lt hp hb).ne
    · have hqp : q.ranksBefore p = true := by
        rw [← Bool.not_eq_true, Peak.ranksBefore_iff] at hb
        rw [Peak.ranksBefore_iff]
        omega
      exact (rankIn_lt hq hqp).ne'
  have hsub : peaks.map (rankIn peaks) ⊆ List.range peaks.length := fun n hn => by
    obtain ⟨p, hp, rfl⟩ := List.mem_map.1 hn
    exact List.mem_range.2 (rankIn_lt_length hp)
  exact (hnodup.subperm hsub).perm_of_length_le (by simp)

theorem countP_range_lt (m n : Nat) : (List.range n).countP (fun i => decide (i < m)) = min m n := by
  induction n with
  | zero => simp
  | succ n ih =>
    rw [List.range_succ, List.countP_append, ih, List.countP_singleton]
    by_cases h : n < m
    · rw [decide_eq_true h, if_pos rfl]
      omega
    · rw [decide_eq_false h, if_neg Bool.false_ne_true]
      omega

/-- Of the peaks at most four are kept, and no fewer when there are no more (R102). -/
theorem length_keepStrongest {peaks : List Peak} (h : peaks.Pairwise fun p q => p.pos < q.pos) :
    (keepStrongest peaks).length = min 4 peaks.length := by
  calc (keepStrongest peaks).length
      = peaks.countP (fun p => decide (rankIn peaks p < 4)) := (List.countP_eq_length_filter ..).symm
    _ = (peaks.map (rankIn peaks)).countP (fun i => decide (i < 4)) := by rw [List.countP_map]; rfl
    _ = (List.range peaks.length).countP (fun i => decide (i < 4)) := (perm_map_rankIn h).countP_eq _
    _ = min 4 peaks.length := countP_range_lt 4 _

end Sys2Proof.Machine
end

section
/-! PROOFS. Score and grade (R112 to R116), and the scan evidence a score weighs (R98 to R102). -/

namespace Sys2Proof.Machine

/-! ### The grade of a score (R116) -/

theorem gradeOf_a_iff (k : ClassRecord) (n : Nat) : gradeOf k n = .a ↔ n ≤ k.limA := by
  unfold gradeOf
  split_ifs <;> simp <;> omega

theorem gradeOf_b_iff (k : ClassRecord) (n : Nat) : gradeOf k n = .b ↔ k.limA < n ∧ n ≤ k.limB := by
  unfold gradeOf
  split_ifs <;> simp <;> omega

theorem gradeOf_c_iff (k : ClassRecord) (n : Nat) :
    gradeOf k n = .c ↔ k.limA < n ∧ k.limB < n ∧ n ≤ k.limC := by
  unfold gradeOf
  split_ifs <;> simp <;> omega

theorem gradeOf_d_iff (k : ClassRecord) (n : Nat) :
    gradeOf k n = .d ↔ k.limA < n ∧ k.limB < n ∧ k.limC < n := by
  unfold gradeOf
  split_ifs <;> simp <;> omega

theorem scoreOf_le (c : GradeCopy) : scoreOf c ≤ 1000 := Nat.min_le_left _ _

theorem computeResult_invalid {c : GradeCopy} (h : c.valid = false) : computeResult c = none :=
  if_neg (h ▸ Bool.false_ne_true)

theorem computeResult_valid {c : GradeCopy} (h : c.valid = true) :
    computeResult c = some { score := scoreOf c, grade := gradeOf c.record (scoreOf c) } := if_pos h

/-- The bin and chute steps keep the score and the grade. -/
theorem State.placeItem_scored (s : State) (c : GradeCopy) (it : Item) (d : Disposition) (why : Reason) :
    (s.placeItem c it d why).1.score = it.score ∧ (s.placeItem c it d why).1.grade = it.grade := by
  have hfin (e : Disposition) (y : Reason) : (finishWithoutBin s.line it e y).score = it.score ∧
      (finishWithoutBin s.line it e y).grade = it.grade := by
    unfold finishWithoutBin
    split <;> exact ⟨rfl, rfl⟩
  cases hl : d.lane with
  | none =>
    rw [State.placeItem_chute hl]
    exact hfin d why
  | some lane =>
    cases hb : s.searchBin c.record.prefs c.cls lane with
    | none =>
      rw [State.placeItem_noSlot hl hb]
      exact hfin .review .noSlot
    | some b =>
      rw [State.placeItem_bin hl hb]
      exact ⟨rfl, rfl⟩

theorem gradingWriteBack_scored {s : State} {c : GradeCopy} (h : s.stillGrading c = true) (r : Option GradeResult) :
    ((gradingWriteBack c r s).item c.index).score = r.map (·.score) ∧
      ((gradingWriteBack c r s).item c.index).grade = r.map (·.grade) := by
  obtain ⟨hst, htick⟩ := (s.stillGrading_iff c).1 h
  have hleaves := gradingWriteBack_leaves (r := r) hst htick rfl
    (x := (s.placeItem c ((s.item c.index).scored r) (decideDisposition c r).1 (decideDisposition c r).2).1)
    (t := (s.placeItem c ((s.item c.index).scored r) (decideDisposition c r).1 (decideDisposition c r).2).2) rfl
  rw [hleaves.1]
  exact s.placeItem_scored c ((s.item c.index).scored r) _ _

/-! ### The four terms (R112 to R115) -/

theorem ceil_div_thousand (m : Nat) : ⌈((m : Nat) : ℚ) / 1000⌉₊ = (m + 999) / 1000 := by
  refine eq_of_forall_ge_iff fun c => ?_
  rw [Nat.ceil_le, div_le_iff₀ (by norm_num)]
  have hcast : ((m : ℚ) ≤ (c : ℚ) * 1000) ↔ m ≤ c * 1000 := by exact_mod_cast Iff.rfl
  rw [hcast]
  omega

theorem GradeCopy.not_requires {c : GradeCopy} {k : Kind} (h : c.record.required.getLsbD (kindBit k) = false) :
    ¬ c.requires k = true := by
  rw [GradeCopy.requires, h]
  exact Bool.false_ne_true

theorem weightTerm_not {c : GradeCopy} (h : c.record.required.getLsbD 0 = false) : weightTerm c = 0 :=
  if_neg (GradeCopy.not_requires (k := .weigh) h)

theorem tagTerm_not {c : GradeCopy} (h : c.record.required.getLsbD 1 = false) : tagTerm c = 0 :=
  if_neg (GradeCopy.not_requires (k := .tag) h)

theorem scanTerm_not {c : GradeCopy} (h : c.record.required.getLsbD 2 = false) : scanTerm c = 0 :=
  if_neg (GradeCopy.not_requires (k := .scan) h)

theorem wearTerm_not {c : GradeCopy} (h : c.record.required.getLsbD 3 = false) : wearTerm c = 0 :=
  if_neg (GradeCopy.not_requires (k := .wear) h)

theorem weightTerm_required {c : GradeCopy} (h : c.record.required.getLsbD 0 = true) :
    (c.nominal = none → weightTerm c = 0) ∧
    (∀ n, c.nominal = some n → c.weight = none → weightTerm c = c.record.wCap) ∧
    (∀ n w, c.nominal = some n → c.weight = some w → weightTerm c = weightCost c.record n w) := by
  have hreq : c.requires .weigh = true := h
  refine ⟨fun hn => ?_, fun n hn hw => ?_, fun n w hn hw => ?_⟩
  · rw [weightTerm, if_pos hreq, hn]
  · rw [weightTerm, if_pos hreq, hn, hw]
  · rw [weightTerm, if_pos hreq, hn, hw]

theorem tagTerm_required {c : GradeCopy} (h : c.record.required.getLsbD 1 = true) :
    (c.tag = none → tagTerm c = c.record.ptAbs) ∧ (∀ t, c.tag = some t → tagTerm c = tagCost c.record t.tag) := by
  have hreq : c.requires .tag = true := h
  refine ⟨fun ht => ?_, fun t ht => ?_⟩ <;> rw [tagTerm, if_pos hreq, ht]

theorem scanTerm_required {c : GradeCopy} (h : c.record.required.getLsbD 2 = true) :
    (c.scan = none → scanTerm c = c.record.sCap) ∧ (∀ e, c.scan = some e → scanTerm c = scanCost c.record e) := by
  have hreq : c.requires .scan = true := h
  refine ⟨fun he => ?_, fun e he => ?_⟩ <;> rw [scanTerm, if_pos hreq, he]

theorem wearTerm_required {c : GradeCopy} (h : c.record.required.getLsbD 3 = true) :
    (c.wear = none → wearTerm c = c.record.uCap) ∧ (∀ w, c.wear = some w → wearTerm c = wearCost c.record w) := by
  have hreq : c.requires .wear = true := h
  refine ⟨fun hw => ?_, fun w hw => ?_⟩ <;> rw [wearTerm, if_pos hreq, hw]

/-! ### The scan evidence (R98 to R102) -/

/-- The runs of a profile that the shadow accepts (R100). -/
def acceptedRuns (k : ClassRecord) (profile : List Int) : List Run :=
  acceptRuns k.shadow none (runsFrom k 0 none profile)

theorem acceptedRuns_sublist (k : ClassRecord) (profile : List Int) :
    (acceptedRuns k profile).Sublist (runsFrom k 0 none profile) := acceptRuns_sublist ..

theorem acceptedRuns_grows {k : ClassRecord} {profile : List Int} {r : Run} (h : r ∈ acceptedRuns k profile) :
    r.Grows k profile := ((runsOf_profile k profile).sound r ((acceptedRuns_sublist k profile).subset h)).1

theorem acceptedRuns_ordered (k : ClassRecord) (profile : List Int) :
    (acceptedRuns k profile).Pairwise fun a b => a.last < b.first :=
  (runsOf_profile k profile).ordered.sublist (acceptedRuns_sublist k profile)

/-- A span is that of an accepted run exactly when it is a run outside the shadow of the accepted ones. -/
theorem mem_acceptedRuns_iff (k : ClassRecord) (profile : List Int) (x : Nat × Nat) :
    x ∈ (acceptedRuns k profile).map Run.span ↔
      IsRun k profile x ∧
        ∀ y ∈ (acceptedRuns k profile).map Run.span, y.2 < x.1 → k.shadow < x.1 - y.2 := by
  have hruns := runsOf_profile k profile
  have hmem {r : Run} (hr : r ∈ runsFrom k 0 none profile) :=
    mem_acceptRuns_iff (shadow := k.shadow) hruns.ordered (fun r hr => (hruns.sound r hr).1.le) none hr
  constructor
  · intro hx
    obtain ⟨r, hr, rfl⟩ := List.mem_map.1 hx
    have hr' := (acceptedRuns_sublist k profile).subset hr
    refine ⟨(hruns.sound r hr').2.1, fun y hy => ?_⟩
    obtain ⟨q, hq, rfl⟩ := List.mem_map.1 hy
    exact ((hmem hr').1 hr).2 q hq
  · rintro ⟨hx, hshadow⟩
    obtain ⟨r, hr, rfl⟩ := hruns.complete x hx (Nat.zero_le _)
    exact List.mem_map_of_mem ((hmem hr).2 ⟨fun l hl => (nomatch hl), fun q hq =>
      hshadow q.span (List.mem_map_of_mem hq)⟩)

theorem acceptedPeaks_ordered (k : ClassRecord) (profile : List Int) :
    ((acceptedRuns k profile).map Run.peak).Pairwise fun p q => p.pos < q.pos := by
  refine List.pairwise_map.2 ((acceptedRuns_ordered k profile).imp_of_mem fun {a b} ha hb hlt => ?_)
  have := (acceptedRuns_grows ha).inside
  have := (acceptedRuns_grows hb).inside
  omega

theorem keepStrongest_eq (peaks : List Peak) : keepStrongest peaks = peaks.filter fun p =>
    decide ((peaks.countP fun q => decide (p.amp.natAbs < q.amp.natAbs ∨
      (p.amp.natAbs = q.amp.natAbs ∧ q.pos < p.pos))) < 4) := by
  refine List.filter_congr fun p _ => ?_
  have hcount : (peaks.countP fun q => q.ranksBefore p) = peaks.countP fun q => decide (p.amp.natAbs < q.amp.natAbs ∨
      (p.amp.natAbs = q.amp.natAbs ∧ q.pos < p.pos)) :=
    List.countP_congr fun q _ => by rw [Peak.ranksBefore_iff, decide_eq_true_eq]
  rw [hcount]

/-- Settles O53: the grade of a score, the four terms, and the peaks of a profile. -/
theorem scoreAndGrade : Obligations.ScoreAndGrade := by
  refine ⟨fun c => ⟨computeResult_invalid, fun hv => ?_, fun s it hs hit => ?_⟩,
    fun c => ⟨weightTerm_not, tagTerm_not, scanTerm_not, wearTerm_not, fun h0 => ?_, fun h1 => ?_, fun h2 => ?_,
      fun h3 => ?_⟩,
    fun k profile qualifying run hq hrun => ?_⟩
  · refine ⟨_, _, computeResult_valid hv, rfl, scoreOf_le c, gradeOf_a_iff .., gradeOf_b_iff .., fun hab =>
      ⟨(gradeOf_c_iff ..).trans (by omega), fun hbc => (gradeOf_d_iff ..).trans (by omega)⟩,
      fun hab hb => ?_, fun hlim hd => ?_, fun hz => ?_⟩
    · have := (gradeOf_b_iff ..).1 hb
      omega
    · have := (gradeOf_d_iff ..).1 hd
      have := scoreOf_le c
      omega
    · rw [gradeOf_a_iff, hz]
      exact Nat.zero_le _
  · obtain ⟨hscore, hgrade⟩ := gradingWriteBack_scored hs (computeResult c)
    subst hit
    exact ⟨hscore, hgrade, fun mode => ⟨rfl, rfl⟩⟩
  · obtain ⟨hnone, hcap, hcost⟩ := weightTerm_required h0
    refine ⟨hnone, hcap, fun n w allow diff hn hw hallow hdiff => ?_⟩
    rw [hcost n w hn hw, weightCost, weightDifference_eq, allowance, ← ceil_div_thousand, ← hdiff, ← hallow]
  · obtain ⟨hnone, hcost⟩ := tagTerm_required h1
    refine ⟨hnone, fun t ht => ⟨fun hs => ?_, fun hs => ?_, fun hs => ?_⟩⟩
    · rw [hcost t ht, hs]
      rfl
    · rw [hcost t ht, hs]
      rfl
    · rcases hs with hs | hs <;> rw [hcost t ht, hs] <;> rfl
  · exact scanTerm_required h2
  · exact wearTerm_required h3
  · obtain rfl : qualifying = Qualifying k profile := funext fun i => propext (hq i)
    obtain rfl : run = IsRun k profile := funext fun x => propext (hrun x)
    refine ⟨(acceptedRuns k profile).map Run.span, (acceptedRuns k profile).map Run.peak,
      List.pairwise_map.2 (acceptedRuns_ordered k profile), mem_acceptedRuns_iff k profile, ?_, ?_, ?_,
      keepStrongest_eq ((acceptedRuns k profile).map Run.peak)⟩
    · rw [List.forall₂_map_left_iff, List.forall₂_map_right_iff, List.forall₂_same]
      intro r hr
      have hg := acceptedRuns_grows hr
      exact ⟨hg.inside.1, hg.inside.2, hg.amp, hg.greatest⟩
    · rw [List.length_map]
      exact congrArg (min 255) (List.length_map _)
    · rw [List.length_map]
      exact (length_keepStrongest (acceptedPeaks_ordered k profile)).trans (congrArg (min 4) (List.length_map _))

end Sys2Proof.Machine
end

section
/-! PROOFS. The settle filter and the WEIGH frames (R76 to R82). -/

namespace Sys2Proof.Machine

/-! ### One sample (R78 to R80) -/

theorem gap_eq (a b : Nat) : gap a b = ((a : Int) - (b : Int)).natAbs := by
  rw [gap]
  omega

/-- The mean of a run is the nearest whole number, halves rounded up (R79). -/
theorem roundedMean_spec {n : Nat} (hn : 0 < n) (sum : Nat) :
    2 * sum < (2 * roundedMean sum n + 1) * n ∧ (2 * roundedMean sum n) * n ≤ 2 * sum + n := by
  have hle := Nat.div_mul_le_self (sum + n / 2) n
  have hlt := Nat.lt_mul_div_succ (sum + n / 2) hn
  rw [roundedMean]
  generalize (sum + n / 2) / n = q at hle hlt
  rw [Nat.add_mul, Nat.mul_assoc 2 q n, Nat.one_mul]
  rw [Nat.mul_succ, Nat.mul_comm n q] at hlt
  omega

theorem skipsSample_iff (k : StationConfig) (m : Sample) : skipsSample k m = true ↔
    (m.motion = true ∧ k.holdOnMotion = true) ∨ (m.overload = true ∧ k.holdOnOverload = true) := by
  rw [skipsSample, Bool.or_eq_true, Bool.and_eq_true, Bool.and_eq_true]

theorem SettleContext.sample_skipped {k : StationConfig} {m : Sample} (h : skipsSample k m = true)
    (c : SettleContext) : c.sample k m = c := by
  have hflag : (m.motion || m.overload) = true := by
    rw [Bool.or_eq_true]
    exact ((skipsSample_iff k m).1 h).imp And.left And.left
  rw [SettleContext.sample, if_pos hflag, if_pos h]

theorem SettleContext.sample_flagged {k : StationConfig} {m : Sample} (hf : m.motion = true ∨ m.overload = true)
    (h : ¬ skipsSample k m = true) (c : SettleContext) : c.sample k m = c.flagged k := by
  rw [SettleContext.sample, if_pos (Bool.or_eq_true .. ▸ hf), if_neg h]

theorem SettleContext.sample_clean {m : Sample} (hm : m.motion = false) (ho : m.overload = false)
    (k : StationConfig) (c : SettleContext) : c.sample k m = c.clean k m.value.toNat := by
  rw [SettleContext.sample, hm, ho]
  rfl

theorem SettleContext.flagged_seeking {c : SettleContext} (h : c.phase = .seeking) (k : StationConfig) :
    c.flagged k = { c with reference := none, count := 0, sum := 0 } := by
  rw [SettleContext.flagged, h]

theorem SettleContext.flagged_settled {c : SettleContext} (h : c.phase = .settled) (k : StationConfig) :
    c.flagged k =
      if k.unsettleCount ≤ c.outCount + 1 then c.unsettle else { c with outCount := c.outCount + 1 } := by
  unfold SettleContext.flagged
  rw [h]

theorem SettleContext.clean_first {c : SettleContext} (h : c.phase = .seeking) (hr : c.reference = none)
    (k : StationConfig) (v : Nat) : c.clean k v = c.startRun v := by
  rw [SettleContext.clean, h, hr]

theorem SettleContext.clean_seeking {c : SettleContext} {r : Nat} (h : c.phase = .seeking)
    (hr : c.reference = some r) (k : StationConfig) (v : Nat) :
    c.clean k v = if gap v r ≤ k.band then c.addSample k v else c.startRun v := by
  rw [SettleContext.clean, h, hr]

theorem SettleContext.clean_settled {c : SettleContext} {r : Nat} (h : c.phase = .settled)
    (hr : c.settledWeight = some r) (k : StationConfig) (v : Nat) : c.clean k v =
      if gap v r ≤ k.band then { c with outCount := 0 }
      else if k.unsettleCount ≤ c.outCount + 1 then c.unsettle.startRun v
      else { c with outCount := c.outCount + 1 } := by
  unfold SettleContext.clean
  rw [h, hr]
  rfl

theorem SettleContext.addSample_unsettled {k : StationConfig} {c : SettleContext} (h : c.count + 1 < k.settleCount)
    (v : Nat) : c.addSample k v = { c with count := c.count + 1, sum := c.sum + v } := if_neg (Nat.not_le.2 h)

theorem SettleContext.addSample_settles {k : StationConfig} {c : SettleContext} (h : k.settleCount ≤ c.count + 1)
    (v : Nat) : c.addSample k v =
      { c with
        count := c.count + 1, sum := c.sum + v, phase := .settled
        settledWeight := some (roundedMean (c.sum + v) (c.count + 1)), outCount := 0 } := if_pos h

/-! ### The contexts a WEIGH frame closes (R77, R81, R82) -/

/-- The contexts closed by a frame: one of another identity, and at END the frame's own. -/
def closedBy (before : Option SettleContext) (isEnd : Bool) (c : SettleContext) : List SettleContext :=
  before.toList ++ if isEnd = true then [c] else []

/-- What a WEIGH frame does once its samples have been taken: contexts close, and one is left. -/
def State.weighed (s : State) (a : Nat) (closes : List SettleContext) (left : Option SettleContext) :
    List Piece × State :=
  (closes.filterMap SettleContext.closed, (closes.foldl State.closeSettle s).setSettle a left)

/-- The end of the work on a WEIGH frame, the samples having been taken into `c`. -/
def State.weighFrame (s : State) (a : Nat) (isEnd : Bool) (before : Option SettleContext) (c : SettleContext) :
    List Piece × State :=
  let t := (before.map s.closeSettle).getD s
  if isEnd then ((before.bind SettleContext.closed).toList ++ c.closed.toList, (t.closeSettle c).setSettle a none)
  else ((before.bind SettleContext.closed).toList, t.setSettle a (some c))

theorem State.weighFrame_eq (s : State) (a : Nat) (isEnd : Bool) (before : Option SettleContext) (c : SettleContext) :
    s.weighFrame a isEnd before c =
      s.weighed a (closedBy before isEnd c) (if isEnd = true then none else some c) := by
  have hbefore : (before.bind SettleContext.closed).toList = before.toList.filterMap SettleContext.closed := by
    cases before with
    | none => rfl
    | some o => cases hc : o.closed <;> simp [hc]
  have hclosed : c.closed.toList = [c].filterMap SettleContext.closed := by cases hc : c.closed <;> simp [hc]
  rw [State.weighFrame, State.weighed, closedBy, List.filterMap_append, List.foldl_append, hbefore, hclosed]
  cases before <;> cases isEnd <;> simp

/-- The context a WEIGH frame's samples are taken into, from the one it continues or opens (R77). -/
def weighedInto (s : State) (a : Nat) (samples : List Sample) (start : SettleContext) : SettleContext :=
  samples.foldl (fun c m => c.sample (s.station a).config m) start

theorem takeWeigh_same {s : State} {a tray : Nat} {stamp : Option Nat} {o : SettleContext}
    (h : s.settleContext a = some o) (ht : o.tray = tray) (hs : o.stamp = stamp) (isEnd : Bool)
    (samples : List Sample) :
    takeWeigh a tray stamp isEnd samples s = s.weighFrame a isEnd none (weighedInto s a samples o) := by
  subst ht hs
  unfold takeWeigh
  simp only [h, beq_self_eq_true, Bool.and_self, Bool.not_true, Option.filter_some]
  rfl

theorem takeWeigh_none {s : State} {a : Nat} (h : s.settleContext a = none) (tray : Nat) (stamp : Option Nat)
    (isEnd : Bool) (samples : List Sample) : takeWeigh a tray stamp isEnd samples s =
      s.weighFrame a isEnd none (weighedInto s a samples (.openFor tray stamp)) := by
  unfold takeWeigh
  simp only [h, Option.filter_none]
  rfl

theorem takeWeigh_other {s : State} {a tray : Nat} {stamp : Option Nat} {o : SettleContext}
    (h : s.settleContext a = some o) (hne : o.tray ≠ tray ∨ o.stamp ≠ stamp) (isEnd : Bool)
    (samples : List Sample) : takeWeigh a tray stamp isEnd samples s =
      s.weighFrame a isEnd (some o) (weighedInto s a samples (.openFor tray stamp)) := by
  have hsame : (o.tray == tray && o.stamp == stamp) = false := by
    rw [← Bool.not_eq_true, Bool.and_eq_true, beq_iff_eq, beq_iff_eq]
    rintro ⟨ht, hs⟩
    exact hne.elim (· ht) (· hs)
  unfold takeWeigh
  simp only [h, hsame, Bool.not_false, Option.filter_some]
  rfl

/-- The evidence of closed contexts: the settled ones yield their weights (R81). -/
theorem filterMap_closed (closes : List SettleContext) : closes.filterMap SettleContext.closed =
    (closes.filter fun o => decide (o.phase = .settled)).map fun o =>
      { tray := o.tray, stamp := o.stamp, finding := .weight (o.settledWeight.getD 0) } := by
  induction closes with
  | nil => rfl
  | cons o closes ih =>
    cases h : o.phase with
    | settled =>
      have hc : o.closed = some { tray := o.tray, stamp := o.stamp, finding := .weight (o.settledWeight.getD 0) } := by
        rw [SettleContext.closed, h]
      rw [List.filterMap_cons_some hc, ih, List.filter_cons_of_pos (by rw [h]; decide), List.map_cons]
    | seeking =>
      have hc : o.closed = none := by rw [SettleContext.closed, h]
      rw [List.filterMap_cons_none hc, ih, List.filter_cons_of_neg (by rw [h]; decide)]

theorem State.closeSettle_settled {c : SettleContext} (h : c.phase = .settled) (s : State) : s.closeSettle c = s := by
  rw [State.closeSettle, h]

theorem State.closeSettle_seeking {c : SettleContext} (h : c.phase = .seeking) (s : State) :
    s.closeSettle c = s.bump .weighUnsettled := by
  rw [State.closeSettle, h]

/-- The contexts closed while still seeking are counted. -/
theorem State.closeSettles (closes : List SettleContext) (s : State) :
    (closes.foldl State.closeSettle s).counter .weighUnsettled =
      min 65535 (s.counter .weighUnsettled + closes.countP fun o => decide (o.phase = .seeking)) ∧
    (∀ d, d ≠ .weighUnsettled → (closes.foldl State.closeSettle s).counter d = s.counter d) ∧
    ∃ counters, closes.foldl State.closeSettle s = { s with counters := counters } := by
  induction closes generalizing s with
  | nil => exact ⟨(Nat.min_eq_right (s.counter_le _)).symm, fun _ _ => rfl, s.counters, rfl⟩
  | cons o closes ih =>
    obtain ⟨hcount, hothers, counters, hframe⟩ := ih (s.closeSettle o)
    rw [List.foldl_cons]
    cases h : o.phase with
    | settled =>
      rw [State.closeSettle_settled h] at hcount hothers hframe ⊢
      rw [List.countP_cons_of_neg (by rw [h]; decide)]
      exact ⟨hcount, hothers, counters, hframe⟩
    | seeking =>
      rw [State.closeSettle_seeking h] at hcount hothers hframe ⊢
      refine ⟨?_, fun d hd => ?_, counters, hframe⟩
      · rw [hcount, State.counter_bump, if_pos rfl, List.countP_cons_of_pos (by rw [h]; decide)]
        show min 65535 (min 65535 _ + _) = _
        omega
      · rw [hothers d hd, State.counter_bump, if_neg hd]

/-- What a WEIGH frame leaves of the state. -/
theorem State.weighed_leaves (s : State) (a : Nat) (closes : List SettleContext) (left : Option SettleContext) :
    (s.weighed a closes left).2.settleContext a = left ∧
    (∀ b, b ≠ a → (s.weighed a closes left).2.settleContext b = s.settleContext b) ∧
    (s.weighed a closes left).2.counter .weighUnsettled =
      min 65535 (s.counter .weighUnsettled + closes.countP fun o => decide (o.phase = .seeking)) ∧
    (∀ d, d ≠ .weighUnsettled → (s.weighed a closes left).2.counter d = s.counter d) ∧
    (s.weighed a closes left).2 =
      { s with
        settle := (s.weighed a closes left).2.settle, counters := (s.weighed a closes left).2.counters } := by
  obtain ⟨hcount, hothers, counters, hframe⟩ := State.closeSettles closes s
  obtain ⟨settle, hset⟩ := (closes.foldl State.closeSettle s).setSettle_frame a left
  have hctx (b : Nat) : (s.weighed a closes left).2.settleContext b = if b = a then left else s.settleContext b := by
    refine (State.settleContext_setSettle ..).trans (if_congr Iff.rfl rfl ?_)
    rw [hframe]
    rfl
  have hcounter (d : Counter) : (s.weighed a closes left).2.counter d =
      (closes.foldl State.closeSettle s).counter d := by
    show ((closes.foldl State.closeSettle s).setSettle a left).counter d = _
    rw [hset]
    rfl
  refine ⟨(hctx a).trans (if_pos rfl), fun b hb => (hctx b).trans (if_neg hb), (hcounter _).trans hcount,
    fun d hd => (hcounter d).trans (hothers d hd), ?_⟩
  show (closes.foldl State.closeSettle s).setSettle a left =
    { s with
      settle := ((closes.foldl State.closeSettle s).setSettle a left).settle
      counters := ((closes.foldl State.closeSettle s).setSettle a left).counters }
  rw [hset, hframe]

theorem takeFrame_weigh {f : StampedFrame} {isEnd : Bool} {samples : List Sample} (h : f.body = .weigh isEnd samples)
    (s : State) : takeFrame f s = takeWeigh f.station f.tray f.stamp isEnd samples s := by
  rw [takeFrame, h]

/-- A WEIGH frame, once it is known which contexts it closes (R77, R81). -/
theorem takeFrame_weighed {f : StampedFrame} {isEnd : Bool} {samples : List Sample} {closed : Option SettleContext}
    {start : SettleContext} {s : State} (hf : f.body = .weigh isEnd samples)
    (hcases : (∃ o, s.settleContext f.station = some o ∧ o.tray = f.tray ∧ o.stamp = f.stamp ∧
        closed = none ∧ start = o) ∨
      ((s.settleContext f.station = none ∧ closed = none ∨
          ∃ o, s.settleContext f.station = some o ∧ (o.tray ≠ f.tray ∨ o.stamp ≠ f.stamp) ∧ closed = some o) ∧
        start = .openFor f.tray f.stamp)) :
    takeFrame f s = s.weighed f.station (closedBy closed isEnd (weighedInto s f.station samples start))
      (if isEnd = true then none else some (weighedInto s f.station samples start)) := by
  rw [takeFrame_weigh hf, ← State.weighFrame_eq]
  rcases hcases with ⟨o, ho, ht, hs, rfl, rfl⟩ | ⟨⟨ho, rfl⟩ | ⟨o, ho, hne, rfl⟩, rfl⟩
  · exact takeWeigh_same ho ht hs ..
  · exact takeWeigh_none ho ..
  · exact takeWeigh_other ho hne ..

/-- Settles O51: each sample, and each context a WEIGH frame continues, opens and closes. -/
theorem settleFilter : Obligations.SettleFilter := by
  refine ⟨fun k c m w hw => ⟨fun hskip => ?_, fun hflag hmo hov => ?_, fun hm ho => ?_⟩,
    fun f isEnd samples k closed start c closes s hf hk hcases hc hcloses => ?_⟩
  · exact SettleContext.sample_skipped ((skipsSample_iff k m).2 hskip) c
  · have hnot : ¬ skipsSample k m = true := fun hs => by
      rcases (skipsSample_iff k m).1 hs with ⟨hm, hk⟩ | ⟨ho, hk⟩
      · exact absurd hk (hmo hm ▸ Bool.false_ne_true)
      · exact absurd hk (hov ho ▸ Bool.false_ne_true)
    rw [SettleContext.sample_flagged hflag hnot]
    refine ⟨fun hp => SettleContext.flagged_seeking hp k, fun hp hlt => ?_, fun hp hle => ?_⟩
    · rw [SettleContext.flagged_settled hp, if_neg (Nat.not_le.2 hlt)]
    · rw [SettleContext.flagged_settled hp, if_pos hle]
      rfl
  · rw [SettleContext.sample_clean hm ho, ← hw]
    refine ⟨fun hp hr => ?_, fun r hp hr hband => ⟨fun hlt => ?_, fun hle =>
      ⟨roundedMean (c.sum + w) (c.count + 1), ?_, roundedMean_spec (Nat.succ_pos _) _⟩⟩,
      fun r hp hr => ⟨fun hband => ?_, fun hband hlt => ?_, fun hband hle => ?_⟩⟩
    · rcases hr with hr | ⟨r, hr, hband⟩
      · exact SettleContext.clean_first hp hr k w
      · rw [SettleContext.clean_seeking hp hr, gap_eq, if_neg (Nat.not_le.2 hband)]
        rfl
    · rw [SettleContext.clean_seeking hp hr, gap_eq, if_pos hband, SettleContext.addSample_unsettled hlt]
    · rw [SettleContext.clean_seeking hp hr, gap_eq, if_pos hband, SettleContext.addSample_settles hle]
    · rw [SettleContext.clean_settled hp hr, gap_eq, if_pos hband]
    · rw [SettleContext.clean_settled hp hr, gap_eq, if_neg (Nat.not_le.2 hband), if_neg (Nat.not_le.2 hlt)]
    · rw [SettleContext.clean_settled hp hr, gap_eq, if_neg (Nat.not_le.2 hband), if_pos hle]
      rfl
  · obtain rfl : c = weighedInto s f.station samples start := by rw [hc, hk]; rfl
    obtain rfl : closes = closedBy closed isEnd (weighedInto s f.station samples start) := hcloses
    rw [takeFrame_weighed hf hcases, ← filterMap_closed]
    exact ⟨_, rfl, State.weighed_leaves s ..⟩

end Sys2Proof.Machine
end

section
/-! PROOFS. The Evidence Collector: frames taken, mapped and written (R71 to R75, R82 to R87, R91 to R96). -/

namespace Sys2Proof.Machine

/-! ### TAG and WEAR frames (R73 to R75) -/

theorem selectRaw_of {sel : Option Nat} {j : Fin 4} (h : sel = some (j : Nat)) (r0 r1 r2 r3 : Nat) :
    selectRaw sel r0 r1 r2 r3 = [r0, r1, r2, r3][j]? := by
  subst h
  match j with
  | 0 => rfl
  | 1 => rfl
  | 2 => rfl
  | 3 => rfl

theorem StationConfig.tagOf_some (k : StationConfig) (v : Nat) :
    k.tagOf (some v) = ([k.code0, k.code1, k.code2, k.code3][v]?).getD .unread := by
  match v with
  | 0 => rfl
  | 1 => rfl
  | 2 => rfl
  | 3 => rfl
  | _ + 4 => rfl

theorem takeFrame_tag {f : StampedFrame} {r0 r1 r2 r3 : Nat} (h : f.body = .tag r0 r1 r2 r3) (s : State) :
    takeFrame f s =
      ([{ tray := f.tray, stamp := f.stamp,
          finding := .tag (mapTag (s.station f.station).config r0 r1 r2 r3) }], s) := by
  rw [takeFrame, h]

/-- The reading a TAG frame is mapped to (R74). -/
theorem mapTag_spec (k : StationConfig) (r0 r1 r2 r3 : Nat) :
    (∀ (j : Fin 4) (v : Nat) (code : TagState), k.sel0 = some j → [r0, r1, r2, r3][j]? = some v →
      ([k.code0, k.code1, k.code2, k.code3][v]? = some code → (mapTag k r0 r1 r2 r3).tag = code) ∧
      (4 ≤ v → (mapTag k r0 r1 r2 r3).tag = .unread)) ∧
    (k.sel0 = none → (mapTag k r0 r1 r2 r3).tag = .unread) ∧
    (∀ (j : Fin 4) (v : Nat), k.sel1 = some j → [r0, r1, r2, r3][j]? = some v →
      (mapTag k r0 r1 r2 r3).sku = if v ≤ 63 then some v else none) ∧
    (k.sel1 = none → (mapTag k r0 r1 r2 r3).sku = none) := by
  refine ⟨fun j v code hs hv => ?_, fun hs => ?_, fun j v hs hv => ?_, fun hs => ?_⟩
  · have htag : (mapTag k r0 r1 r2 r3).tag = ([k.code0, k.code1, k.code2, k.code3][v]?).getD .unread := by
      rw [mapTag, selectRaw_of hs, hv, StationConfig.tagOf_some]
    refine ⟨fun hc => by rw [htag, hc]; rfl, fun h4 => ?_⟩
    rw [htag, List.getElem?_eq_none h4]
    rfl
  · rw [mapTag, hs]
    rfl
  · rw [mapTag, selectRaw_of hs, hv, Option.filter_some]
    simp only [decide_eq_true_eq]
  · rw [mapTag, hs]
    rfl

theorem takeFrame_wear {f : StampedFrame} {r0 r1 r2 r3 : Nat} (h : f.body = .wear r0 r1 r2 r3) (s : State) :
    takeFrame f s =
      ((mapWear (s.station f.station).config r0 r1 r2 r3).toList.map fun w =>
        { tray := f.tray, stamp := f.stamp, finding := .wear w }, s) := by
  rw [takeFrame, h]

theorem mapWear_none {k : StationConfig} (h : k.sel2 = none) (r0 r1 r2 r3 : Nat) : mapWear k r0 r1 r2 r3 = none := by
  rw [mapWear, h]
  rfl

theorem mapWear_some {k : StationConfig} {r0 r1 r2 r3 : Nat} {j : Fin 4} {v : Nat} (h : k.sel2 = some j)
    (hv : [r0, r1, r2, r3][j]? = some v) : mapWear k r0 r1 r2 r3 =
      some { index := min 255 v, pilling := decide (0 < (selectRaw k.sel3 r0 r1 r2 r3).getD 0) } := by
  rw [mapWear, selectRaw_of h, hv]
  rfl

/-! ### SCAN frames (R91, R92) -/

theorem ScanContext.otherIdentity_iff (c : ScanContext) (tray : Nat) (stamp : Option Nat) :
    c.otherIdentity tray stamp = true ↔ c.state ≠ .empty ∧ (c.tray ≠ some tray ∨ c.stamp ≠ stamp) := by
  rw [ScanContext.otherIdentity, Bool.and_eq_true, Bool.or_eq_true, bne_iff_ne, bne_iff_ne, bne_iff_ne]

theorem ScanContext.identified_eq (c : ScanContext) (tray : Nat) (stamp : Option Nat) :
    c.identified tray stamp =
      if c.state = .empty ∨ c.otherIdentity tray stamp = true then
        { binding := c.binding, state := .awaitPass, tray := some tray, stamp := stamp
          length := none, passesDone := 0, pass := [], sums := [] } else c := by
  refine if_congr ?_ rfl rfl
  rw [Bool.or_eq_true, decide_eq_true_eq]

theorem takeFrame_scan {f : StampedFrame} {g : Segment} (h : f.body = .scan g) (s : State) :
    takeFrame f s = takeScan f.station f.tray f.stamp g s := by
  rw [takeFrame, h]

theorem takeScan_unbound {s : State} {a : Nat} (h0 : s.scan0.binding ≠ some a) (h1 : s.scan1.binding ≠ some a)
    (tray : Nat) (stamp : Option Nat) (g : Segment) : takeScan a tray stamp g s = ([], s) := by
  have hnone : s.boundScan a = none := by rw [State.boundScan, if_neg h0, if_neg h1]
  rw [takeScan, hnone]

/-- A context closed for another garment is counted (R92). -/
def State.scanClosed (s : State) (other : Bool) : State := if other = true then s.bump .scanIncomplete else s

theorem takeScan_bound {s : State} {a : Nat} {second : Bool} {c : ScanContext} {tray : Nat} {stamp : Option Nat}
    {g : Segment} {r : ScanStep} (h : s.boundScan a = some (second, c))
    (hr : r = (c.identified tray stamp).take (s.station a).config.passes g) :
    takeScan a tray stamp g s =
      (r.profile.toList.map fun p => { tray := tray, stamp := stamp, finding := .profile p },
        ((s.scanClosed (c.otherIdentity tray stamp)).setScan second r.context).bumpBy .scanPassDiscarded
          r.discarded) := by
  have hstation : ((s.scanClosed (c.otherIdentity tray stamp)).station a).config = (s.station a).config := by
    unfold State.scanClosed
    split <;> rfl
  rw [← hstation] at hr
  subst hr
  unfold takeScan
  rw [h]
  rfl

theorem State.scanClosed_counter (s : State) (other : Bool) :
    (s.scanClosed other).counter .scanIncomplete =
      min 65535 (s.counter .scanIncomplete + if other = true then 1 else 0) ∧
    (∀ d, d ≠ .scanIncomplete → (s.scanClosed other).counter d = s.counter d) ∧
    ∃ counters, s.scanClosed other = { s with counters := counters } := by
  cases other with
  | true => exact ⟨(s.counter_bump _ _).trans (if_pos rfl), fun d hd => (s.counter_bump _ _).trans (if_neg hd), _, rfl⟩
  | false => exact ⟨(Nat.min_eq_right (s.counter_le _)).symm, fun _ _ => rfl, s.counters, rfl⟩

/-- What a SCAN frame of a bound context leaves (R92 to R96). -/
theorem State.scanned_leaves (s : State) (other second : Bool) (c : ScanContext) (n : Nat) {v : State}
    (hv : v = ((s.scanClosed other).setScan second c).bumpBy .scanPassDiscarded n) :
    v.scan0 = (if second = true then s.scan0 else c) ∧ v.scan1 = (if second = true then c else s.scan1) ∧
    v.counter .scanIncomplete = min 65535 (s.counter .scanIncomplete + if other = true then 1 else 0) ∧
    v.counter .scanPassDiscarded = min 65535 (s.counter .scanPassDiscarded + n) ∧
    (∀ d, d ≠ .scanIncomplete → d ≠ .scanPassDiscarded → v.counter d = s.counter d) ∧
    v = { s with scan0 := v.scan0, scan1 := v.scan1, counters := v.counters } := by
  obtain ⟨hclosed, hothers, counters, hframe⟩ := s.scanClosed_counter other
  have hcounter (d : Counter) : v.counter d =
      if d = .scanPassDiscarded then min 65535 ((s.scanClosed other).counter .scanPassDiscarded + n)
      else (s.scanClosed other).counter d := by
    rw [hv, State.counter_bumpBy]
    cases second <;> rfl
  refine ⟨?_, ?_, ?_, ?_, fun d h1 h2 => ?_, ?_⟩
  · rw [hv, hframe]
    cases second <;> rfl
  · rw [hv, hframe]
    cases second <;> rfl
  · rw [hcounter, if_neg (by decide), hclosed]
  · rw [hcounter, if_pos rfl, hothers _ (by decide)]
  · rw [hcounter, if_neg h2, hothers d h1]
  · rw [hv, hframe]
    cases second <;> rfl

/-! ### A segment taken by a context (R91, R93, R94) -/

/-- A malformed segment (R91). -/
def Segment.Malformed (g : Segment) : Prop :=
  g.count = 0 ∨ 32 < g.count ∨ (g.start = 0 ∧ ∀ l, g.length = some l → l < 16 ∨ 512 < l)

theorem Segment.malformed_iff (g : Segment) : g.malformed = true ↔ g.Malformed := by
  unfold Segment.malformed Segment.Malformed
  cases h : g.length with
  | none => simp [or_assoc]
  | some l => simp [or_assoc]

/-- The pass length a start-0 segment is judged by (R93). -/
def ScanContext.passLength (c : ScanContext) (g : Segment) : Option Nat :=
  if c.passesDone = 0 then g.length else c.length

theorem ScanContext.refuses_iff (c : ScanContext) (g : Segment) : c.refuses g = true ↔
    g.Malformed ∨ g.pass ≠ c.passesDone ∨ (1 ≤ c.passesDone ∧ g.length ≠ c.length) ∨
      (c.passLength g).getD 0 < g.count := by
  unfold ScanContext.refuses
  rw [Bool.or_eq_true, Bool.or_eq_true, Bool.or_eq_true, Bool.and_eq_true, decide_eq_true_eq, decide_eq_true_eq,
    Segment.malformed_iff, bne_iff_ne, bne_iff_ne, or_assoc, or_assoc]
  rfl

theorem ScanContext.continues_iff (c : ScanContext) (g : Segment) : c.continues g = true ↔
    ¬ g.Malformed ∧ g.pass = c.passesDone ∧ g.start = c.pass.length ∧ g.start + g.count ≤ c.length.getD 0 := by
  unfold ScanContext.continues
  rw [Bool.and_eq_true, Bool.and_eq_true, Bool.and_eq_true, decide_eq_true_eq, Bool.not_eq_true', beq_iff_eq,
    beq_iff_eq, ← Bool.not_eq_true, Segment.malformed_iff, and_assoc, and_assoc]

theorem ScanContext.take_first {c : ScanContext} {g : Segment} (h : c.state ≠ .inPass) (hs : g.start = 0) (P : Nat) :
    c.take P g = c.beginPass P g := by
  unfold ScanContext.take
  cases hc : c.state with
  | inPass => exact absurd hc h
  | _ => exact if_pos hs

theorem ScanContext.take_ignored {c : ScanContext} {g : Segment} (h : c.state ≠ .inPass) (hs : g.start ≠ 0)
    (P : Nat) : c.take P g = { context := c } := by
  unfold ScanContext.take
  cases hc : c.state with
  | inPass => exact absurd hc h
  | _ => exact if_neg hs

theorem ScanContext.take_restarts {c : ScanContext} {g : Segment} (h : c.state = .inPass) (hs : g.start = 0)
    (P : Nat) : c.take P g =
      { c.dropPass.beginPass P g with discarded := (c.dropPass.beginPass P g).discarded + 1 } := by
  unfold ScanContext.take
  rw [h]
  exact if_pos hs

theorem ScanContext.take_later {c : ScanContext} {g : Segment} (h : c.state = .inPass) (hs : g.start ≠ 0)
    (P : Nat) : c.take P g =
      if c.continues g then c.place P g.samples else { context := c.dropPass, discarded := 1 } := by
  unfold ScanContext.take
  rw [h]
  exact if_neg hs

/-- The context whose pass a taken segment's samples join (R93, R94). -/
theorem ScanContext.take_places {c b : ScanContext} {P : Nat} {g : Segment}
    (h : (c.state ≠ .inPass ∧ g.start = 0 ∧ ¬ g.Malformed ∧ g.pass = c.passesDone ∧
          (1 ≤ c.passesDone → g.length = c.length) ∧ (∀ l, c.passLength g = some l → g.count ≤ l) ∧
          b = { c with length := c.passLength g, pass := [] }) ∨
        (c.state = .inPass ∧ g.start ≠ 0 ∧ ¬ g.Malformed ∧ g.pass = c.passesDone ∧
          g.start = c.pass.length ∧ (∃ l, c.length = some l ∧ g.start + g.count ≤ l) ∧ b = c)) :
    c.take P g = b.place P g.samples := by
  rcases h with ⟨hst, hs, hgood, hpass, hlen, hcount, rfl⟩ | ⟨hst, hs, hgood, hpass, hstart, ⟨l, hl, hle⟩, rfl⟩
  · have hfits : ¬ (c.passLength g).getD 0 < g.count := by
      cases hL : c.passLength g with
      | some l => exact Nat.not_lt.2 (hcount l hL)
      | none =>
        have hnone : g.length = none := by
          unfold ScanContext.passLength at hL
          split at hL
          next => exact hL
          next hd => exact (hlen (Nat.one_le_iff_ne_zero.2 hd)).trans hL
        exact absurd (.inr (.inr ⟨hs, fun l hl => by rw [hnone] at hl; cases hl⟩)) hgood
    have hnot : ¬ c.refuses g = true := fun hr => by
      rcases (c.refuses_iff g).1 hr with hb | hp | ⟨h1, hne⟩ | hlt
      · exact hgood hb
      · exact hp hpass
      · exact hne (hlen h1)
      · exact hfits hlt
    rw [ScanContext.take_first hst hs, ScanContext.beginPass, if_neg hnot]
    rfl
  · have hcont : b.continues g = true := (b.continues_iff g).2 ⟨hgood, hpass, hstart, by rw [hl]; exact hle⟩
    rw [ScanContext.take_later hst hs, if_pos hcont]

/-- A pass of which a segment is missing stays in progress. -/
theorem ScanContext.place_partial {b : ScanContext} {joined samples : List Int}
    (hj : joined = b.pass ++ samples.map clampSample) (h : b.length ≠ some joined.length) (P : Nat) :
    b.place P samples = { context := { b with state := .inPass, pass := joined } } := by
  subst hj
  exact if_neg h

theorem ScanContext.place_whole {b : ScanContext} {joined samples : List Int}
    (hj : joined = b.pass ++ samples.map clampSample) (h : b.length = some joined.length) (P : Nat) :
    b.place P samples = ({ b with state := .inPass, pass := joined } : ScanContext).completePass P := by
  subst hj
  exact if_pos h

theorem ScanContext.completePass_more {c : ScanContext} {P : Nat} (h : c.passesDone + 1 < P) : c.completePass P =
    { context :=
        { c with
          state := .awaitPass, passesDone := c.passesDone + 1, pass := []
          sums := if c.passesDone = 0 then c.pass else List.zipWith (· + ·) c.sums c.pass } } := if_pos h

theorem ScanContext.completePass_last {c : ScanContext} {P : Nat} (h : P ≤ c.passesDone + 1) :
    ∃ profile, c.completePass P = { context := c.emptied, profile := some profile } :=
  ⟨_, if_neg (Nat.not_lt.2 h)⟩

/-- A start-0 segment that fails a check is refused (R93). -/
theorem ScanContext.take_refuses {c : ScanContext} {g : Segment} (hst : c.state ≠ .inPass) (hs : g.start = 0)
    (h : g.Malformed ∨ g.pass ≠ c.passesDone ∨ (1 ≤ c.passesDone ∧ g.length ≠ c.length) ∨
      ∃ l, c.passLength g = some l ∧ l < g.count) (P : Nat) : c.take P g = { context := c, discarded := 1 } := by
  have hr : c.refuses g = true := (c.refuses_iff g).2 (by
    rcases h with h | h | h | ⟨l, hl, hlt⟩
    · exact .inl h
    · exact .inr (.inl h)
    · exact .inr (.inr (.inl h))
    · exact .inr (.inr (.inr (by rw [hl]; exact hlt))))
  rw [ScanContext.take_first hst hs, ScanContext.beginPass, if_pos hr]

/-- A segment that does not continue the pass drops it (R94). -/
theorem ScanContext.take_drops {c : ScanContext} {g : Segment} (hst : c.state = .inPass) (hs : g.start ≠ 0)
    (h : g.Malformed ∨ g.pass ≠ c.passesDone ∨ g.start ≠ c.pass.length ∨
      ∀ l, c.length = some l → l < g.start + g.count) (P : Nat) :
    c.take P g = { context := c.dropPass, discarded := 1 } := by
  have hc : ¬ c.continues g = true := fun hc => by
    obtain ⟨hgood, hpass, hstart, hle⟩ := (c.continues_iff g).1 hc
    rcases h with h | h | h | h
    · exact hgood h
    · exact h hpass
    · exact h hstart
    · cases hl : c.length with
      | none =>
        rw [hl, Option.getD_none] at hle
        omega
      | some l =>
        rw [hl, Option.getD_some] at hle
        exact absurd (h l hl) (Nat.not_lt.2 hle)
  rw [ScanContext.take_later hst hs, if_neg hc]

/-! ### The evidence write (R83 to R86) -/

theorem State.ticketOnTray_of_carries {s : State} (hl : s.ItemLaws) {tray i : Nat} (hc : s.carries tray i) :
    s.ticketOnTray tray = some (s.item i).ticket := by
  obtain ⟨hact, rfl⟩ := hc
  rw [State.ticketOnTray, hl.1.2 i hact]
  rfl

theorem State.carries_of_ticketOnTray {s : State} (hl : s.ItemLaws) {tray n : Nat}
    (h : s.ticketOnTray tray = some n) : ∃ i, s.carries tray i ∧ (s.item i).ticket = n := by
  obtain ⟨e, he, rfl⟩ := Option.map_eq_some_iff.1 h
  obtain ⟨hact, htray, hticket⟩ := hl.1.1 tray e he
  exact ⟨e.index, ⟨hact, htray⟩, hticket⟩

theorem State.writePiece_stray {s : State} {p : Piece}
    (h : ¬ (p.stamp.isSome && p.stamp == s.ticketOnTray p.tray) = true) : s.writePiece p = s.bump .noItemEvidence := by
  unfold State.writePiece
  exact if_neg h

theorem State.writePiece_noItem {s : State} {p : Piece}
    (hs : (p.stamp.isSome && p.stamp == s.ticketOnTray p.tray) = true) (hf : s.itemOnTray p.tray = none) :
    s.writePiece p = s.bump .noItemEvidence := by
  unfold State.writePiece
  rw [if_pos hs]
  simp only [hf]

/-- What a piece of evidence does to the item its stamp names (R84 to R86). -/
def State.writeItem (s : State) (i : Nat) (it : Item) (f : Finding) : State :=
  if it.state = .opened then
    if (it.withFinding (s.classRecord it.cls) f).complete
        (s.classRecord (it.withFinding (s.classRecord it.cls) f).cls).required then
      s.enqueue i (it.withFinding (s.classRecord it.cls) f)
    else s.setItem i (it.withFinding (s.classRecord it.cls) f)
  else (s.setItem i { it with late := true }).bump .lateEvidence

theorem State.writeItem_complete {s : State} {it : Item} {f : Finding} (ho : it.state = .opened)
    (h : (it.withFinding (s.classRecord it.cls) f).complete
      (s.classRecord (it.withFinding (s.classRecord it.cls) f).cls).required = true) (i : Nat) :
    s.writeItem i it f = s.enqueue i (it.withFinding (s.classRecord it.cls) f) := by
  rw [State.writeItem, if_pos ho, if_pos h]

theorem State.writeItem_incomplete {s : State} {it : Item} {f : Finding} (ho : it.state = .opened)
    (h : (it.withFinding (s.classRecord it.cls) f).complete
      (s.classRecord (it.withFinding (s.classRecord it.cls) f).cls).required = false) (i : Nat) :
    s.writeItem i it f = s.setItem i (it.withFinding (s.classRecord it.cls) f) := by
  rw [State.writeItem, if_pos ho, if_neg (h ▸ Bool.false_ne_true)]

theorem State.writeItem_late {s : State} {it : Item} (ho : it.state ≠ .opened) (i : Nat) (f : Finding) :
    s.writeItem i it f = (s.setItem i { it with late := true }).bump .lateEvidence := if_neg ho

theorem State.writePiece_item {s : State} {p : Piece} {i : Nat} {it : Item}
    (hs : (p.stamp.isSome && p.stamp == s.ticketOnTray p.tray) = true) (hf : s.itemOnTray p.tray = some (i, it)) :
    s.writePiece p = s.writeItem i it p.finding := by
  unfold State.writePiece
  rw [if_pos hs]
  simp only [hf]
  rfl

theorem State.writePiece_found {s : State} (hl : s.ItemLaws) {p : Piece} {i : Nat} (hc : s.carries p.tray i)
    (hs : p.stamp = some (s.item i).ticket) : s.writePiece p = s.writeItem i (s.item i) p.finding := by
  have hstamp : (p.stamp.isSome && p.stamp == s.ticketOnTray p.tray) = true := by
    rw [State.ticketOnTray_of_carries hl hc, hs, Option.isSome_some, Bool.true_and, beq_iff_eq]
  exact State.writePiece_item hstamp (State.itemOnTray_of_carries hl.1 hc)

/-! ### The event (R71, R72, R82) -/

theorem exec_evidenceFrameTaken {s : State} (hr : s.resetN = true) (m : Moment) :
    exec (.evidenceFrameTaken m) s = .next (collectFrame m s) := by
  show whenRunning s _ = _
  rw [whenRunning, if_pos hr]

theorem collectFrame_none {s : State} (h : s.fifo = [] ∨ s.collector ≠ .waiting) (m : Moment) :
    collectFrame m s = s := by
  unfold collectFrame
  split
  next f rest hc hf =>
    rcases h with h | h
    · rw [hf] at h
      cases h
    · exact absurd hc h
  · rfl

theorem collectFrame_takes {s v : State} {f : StampedFrame} {rest : List StampedFrame} {pieces : List Piece}
    (hc : s.collector = .waiting) (hf : s.fifo = f :: rest)
    (ht : takeFrame f { s.closeRaises with fifo := rest } = (pieces, v)) (m : Moment) :
    collectFrame m s =
      if pieces.isEmpty then v else postClient .ec m { v with collector := .awaitStore pieces } := by
  unfold collectFrame
  rw [hc, hf]
  simp only [ht]

theorem takeWeigh_weighed (a tray : Nat) (stamp : Option Nat) (isEnd : Bool) (samples : List Sample) (s : State) :
    ∃ closes left, takeWeigh a tray stamp isEnd samples s = s.weighed a closes left := by
  cases h : s.settleContext a with
  | none => exact ⟨_, _, (takeWeigh_none h ..).trans (s.weighFrame_eq ..)⟩
  | some o =>
    by_cases hsame : o.tray = tray ∧ o.stamp = stamp
    · exact ⟨_, _, (takeWeigh_same h hsame.1 hsame.2 ..).trans (s.weighFrame_eq ..)⟩
    · exact ⟨_, _, (takeWeigh_other h (not_and_or.1 hsame) ..).trans (s.weighFrame_eq ..)⟩

/-- The work on a frame changes contexts and counters alone. -/
theorem takeFrame_frame (f : StampedFrame) (s : State) : ∃ settle scan0 scan1 counters,
    (takeFrame f s).2 = { s with settle := settle, scan0 := scan0, scan1 := scan1, counters := counters } := by
  cases hb : f.body with
  | tag r0 r1 r2 r3 =>
    rw [takeFrame_tag hb]
    exact ⟨s.settle, s.scan0, s.scan1, s.counters, rfl⟩
  | wear r0 r1 r2 r3 =>
    rw [takeFrame_wear hb]
    exact ⟨s.settle, s.scan0, s.scan1, s.counters, rfl⟩
  | weigh isEnd samples =>
    obtain ⟨closes, left, hw⟩ := takeWeigh_weighed f.station f.tray f.stamp isEnd samples s
    obtain ⟨-, -, -, -, hv⟩ := s.weighed_leaves f.station closes left
    rw [takeFrame_weigh hb, hw]
    exact ⟨_, s.scan0, s.scan1, _, hv⟩
  | scan g =>
    rw [takeFrame_scan hb]
    cases hs : s.boundScan f.station with
    | none =>
      rw [takeScan, hs]
      exact ⟨s.settle, s.scan0, s.scan1, s.counters, rfl⟩
    | some b =>
      obtain ⟨-, -, -, -, -, hv⟩ := s.scanned_leaves (b.2.otherIdentity f.tray f.stamp) b.1 _ _ rfl
      rw [takeScan_bound hs rfl]
      exact ⟨s.settle, _, _, _, hv⟩

theorem State.enqueue_collector (s : State) (x : Collector) (i : Nat) (it : Item) :
    ({ s with collector := x } : State).enqueue i it = { s.enqueue i it with collector := x } := by
  by_cases hg : s.grader = .idle
  · rw [State.enqueue_idle hg, State.enqueue_idle (s := { s with collector := x }) hg]
    rfl
  · rw [State.enqueue_busy hg, State.enqueue_busy (s := { s with collector := x }) hg]
    rfl

theorem State.itemOnTray_collector (s : State) (x : Collector) (tray : Nat) :
    ({ s with collector := x } : State).itemOnTray tray = s.itemOnTray tray := State.itemOnTray_congr rfl rfl tray

theorem State.writeItem_collector (s : State) (x : Collector) (i : Nat) (it : Item) (f : Finding) :
    ({ s with collector := x } : State).writeItem i it f = { s.writeItem i it f with collector := x } := by
  by_cases ho : it.state = .opened
  · cases h : (it.withFinding (s.classRecord it.cls) f).complete
      (s.classRecord (it.withFinding (s.classRecord it.cls) f).cls).required with
    | true =>
      rw [State.writeItem_complete ho h, State.writeItem_complete (s := { s with collector := x }) ho h]
      exact s.enqueue_collector x i _
    | false =>
      rw [State.writeItem_incomplete ho h, State.writeItem_incomplete (s := { s with collector := x }) ho h]
      rfl
  · rw [State.writeItem_late ho, State.writeItem_late ho]
    rfl

/-- The evidence write does not read the collector. -/
theorem State.writePiece_collector (s : State) (x : Collector) (p : Piece) :
    ({ s with collector := x } : State).writePiece p = { s.writePiece p with collector := x } := by
  by_cases hs : (p.stamp.isSome && p.stamp == s.ticketOnTray p.tray) = true
  · cases hf : s.itemOnTray p.tray with
    | none =>
      rw [State.writePiece_noItem hs hf,
        State.writePiece_noItem (s := { s with collector := x }) hs ((s.itemOnTray_collector x _).trans hf)]
      rfl
    | some e =>
      rw [State.writePiece_item hs hf,
        State.writePiece_item (s := { s with collector := x }) hs ((s.itemOnTray_collector x _).trans hf),
        State.writeItem_collector]
  · rw [State.writePiece_stray hs, State.writePiece_stray (s := { s with collector := x }) hs]
    rfl

theorem State.writePieces_collector (pieces : List Piece) (s : State) (x : Collector) :
    pieces.foldl State.writePiece { s with collector := x } =
      { pieces.foldl State.writePiece s with collector := x } := by
  induction pieces generalizing s with
  | nil => rfl
  | cons p pieces ih => rw [List.foldl_cons, List.foldl_cons, State.writePiece_collector, ih]

end Sys2Proof.Machine
end

section
/-! PROOFS. EVIDENCE_FRAME_TAKEN (R71 to R75, R82 to R87, R91 to R96). -/

namespace Sys2Proof.Machine

theorem runAccess_evidence {s : State} {pieces : List Piece} (h : s.collector = .awaitStore pieces) :
    runAccess .ec s = { pieces.foldl State.writePiece s with collector := .waiting } := by
  unfold runAccess
  rw [h]
  rfl

/-- A frame that brings no evidence leaves the collector waiting. -/
theorem collectFrame_nothing {s v : State} {f : StampedFrame} {rest : List StampedFrame}
    (hc : s.collector = .waiting) (hf : s.fifo = f :: rest)
    (ht : takeFrame f { s.closeRaises with fifo := rest } = ([], v)) (m : Moment) : collectFrame m s = v :=
  collectFrame_takes hc hf ht m

theorem collectFrame_posts {s v : State} {f : StampedFrame} {rest : List StampedFrame} {pieces : List Piece}
    (hc : s.collector = .waiting) (hf : s.fifo = f :: rest)
    (ht : takeFrame f { s.closeRaises with fifo := rest } = (pieces, v)) (hp : pieces ≠ []) (m : Moment) :
    collectFrame m s = postClient .ec m { v with collector := .awaitStore pieces } :=
  (collectFrame_takes hc hf ht m).trans (if_neg fun he => hp (List.isEmpty_iff.1 he))

theorem takeFrame_arbiter {f : StampedFrame} {s v : State} {pieces : List Piece} (h : takeFrame f s = (pieces, v)) :
    v.arbiter = s.arbiter := by
  obtain ⟨settle, c0, c1, counters, hv⟩ := takeFrame_frame f s
  rw [h] at hv
  rw [show v = _ from hv]

/-- A frame with evidence granted at once has it written in the same step (R82). -/
theorem postClient_evidence_granted {v : State} {m : Moment} (hg : v.arbiter.grantsAtOnce .ec m = true)
    (pieces : List Piece) : postClient .ec m { v with collector := .awaitStore pieces } =
      { pieces.foldl State.writePiece (v.markGranted .ec) with collector := .waiting } := by
  refine (if_pos hg).trans ?_
  rw [runAccess_evidence (s := ({ v with collector := .awaitStore pieces } : State).markGranted .ec) rfl]
  have hw := State.writePieces_collector pieces (v.markGranted .ec) (.awaitStore pieces)
  exact congrArg (fun t : State => { t with collector := .waiting }) hw

theorem postClient_evidence_waits {v : State} {m : Moment} (hg : v.arbiter.grantsAtOnce .ec m = false)
    (pieces : List Piece) : postClient .ec m { v with collector := .awaitStore pieces } =
      { v with
        collector := .awaitStore pieces
        arbiter := { v.arbiter with waiting := { v.arbiter.waiting with ec := true } } } :=
  if_neg (c := v.arbiter.grantsAtOnce .ec m = true) (hg ▸ Bool.false_ne_true)

/-- Which of the two contexts is bound to the station (R91). -/
theorem State.boundScan_of {s : State} {a : Nat} {first : Bool} {c : ScanContext}
    (h : (first = true ∧ s.scan0.binding = some a ∧ c = s.scan0) ∨
      (first = false ∧ s.scan0.binding ≠ some a ∧ s.scan1.binding = some a ∧ c = s.scan1)) :
    s.boundScan a = some (!first, c) := by
  rcases h with ⟨rfl, h0, rfl⟩ | ⟨rfl, h0, h1, rfl⟩
  · exact if_pos h0
  · exact (if_neg h0).trans (if_pos h1)

/-- Settles O50: the event, the grant to the collector, each kind of frame but WEIGH, and the write. -/
theorem evidenceFrameTaken : Obligations.EvidenceFrameTaken := by
  refine ⟨fun m s hr h => ?_, fun m f rest pieces v s hr hc hf ht => ⟨fun hp => ?_, fun hp hg => ?_, fun hp hg => ?_⟩,
    fun pieces s hr hfree hch hc => ?_, fun f k r0 r1 r2 r3 s hk =>
      ⟨fun hb => ?_, fun hb => ⟨fun hs => ?_, fun j v hs hv => ?_⟩⟩, fun f g s hb => ⟨fun h0 h1 => ?_, fun first other c opened r hbound hother hopened hr => ?_⟩,
    fun c dropped b P g L bad joined hbad hL hdropped hjoined => ?_,
    fun p s hl => ⟨fun i it hc hs hit => ?_, fun hno => ?_⟩⟩
  · rw [exec_evidenceFrameTaken hr, collectFrame_none h]
  · subst hp
    rw [exec_evidenceFrameTaken hr, collectFrame_nothing hc hf ht]
  · have harb : v.arbiter = s.arbiter := (takeFrame_arbiter ht).trans rfl
    rw [exec_evidenceFrameTaken hr, collectFrame_posts hc hf ht hp,
      postClient_evidence_granted (by rw [harb]; exact hg)]
  · have harb : v.arbiter = s.arbiter := (takeFrame_arbiter ht).trans rfl
    rw [exec_evidenceFrameTaken hr, collectFrame_posts hc hf ht hp,
      postClient_evidence_waits (by rw [harb]; exact hg), harb]
  · rw [exec_grant_client hr hfree hch, runAccess_evidence (s := s.markGranted .ec) hc]
  · subst hk
    exact ⟨_, takeFrame_tag hb s, mapTag_spec ..⟩
  · subst hk
    rw [takeFrame_wear hb, mapWear_none hs]
    rfl
  · subst hk
    refine ⟨_, (takeFrame_wear hb s).trans (by rw [mapWear_some hs hv]; rfl), fun h3 => ?_, fun i w h3 hw => ?_⟩
    · rw [h3]
      rfl
    · rw [selectRaw_of h3, hw]
      rfl
  · rw [takeFrame_scan hb, takeScan_unbound h0 h1]
  · have hother' : other = c.otherIdentity f.tray f.stamp :=
      Bool.eq_iff_iff.2 (hother.trans (c.otherIdentity_iff ..).symm)
    have hopened' : opened = c.identified f.tray f.stamp := by
      rw [ScanContext.identified_eq, ← hother', hopened]
    subst hopened'
    obtain ⟨hs0, hs1, hleaves⟩ := s.scanned_leaves (c.otherIdentity f.tray f.stamp) (!first) r.context r.discarded rfl
    refine ⟨_, (takeFrame_scan hb s).trans (takeScan_bound (State.boundScan_of hbound) hr), hs0.trans ?_, hs1.trans ?_,
      hother' ▸ hleaves⟩
    · cases first <;> rfl
    · cases first <;> rfl
  · obtain rfl : bad = g.Malformed := propext hbad
    obtain rfl : L = c.passLength g := hL
    obtain rfl : dropped = c.dropPass := hdropped
    have hj : joined = b.pass ++ g.samples.map clampSample := hjoined
    refine ⟨fun hst hs => ScanContext.take_ignored hst hs P, fun hst hs h => ScanContext.take_refuses hst hs h P,
      fun hst hs => ?_, fun hst hs h => ScanContext.take_drops hst hs h P, fun h => ?_⟩
    · rw [ScanContext.take_restarts hst hs, ScanContext.take_first
          (c := c.dropPass) (show ScanState.awaitPass ≠ .inPass by decide) hs]
    · rw [ScanContext.take_places h]
      refine ⟨fun hl => ScanContext.place_partial hj hl P, fun hl hP => ?_, fun hl hP => ?_⟩
      · rw [ScanContext.place_whole hj hl,
          ScanContext.completePass_more (c := { b with state := .inPass, pass := joined }) hP]
      · obtain ⟨profile, hprofile⟩ := ScanContext.completePass_last
          (c := { b with state := .inPass, pass := joined }) hP
        rw [ScanContext.place_whole hj hl, hprofile]
        exact ⟨profile, rfl, rfl⟩
  · subst hit
    rw [State.writePiece_found hl hc hs]
    exact ⟨fun ho h => State.writeItem_complete ho h i, fun ho h => State.writeItem_incomplete ho h i,
      fun ho => State.writeItem_late ho i _⟩
  · refine State.writePiece_stray fun hs => ?_
    rw [Bool.and_eq_true, beq_iff_eq] at hs
    obtain ⟨hsome, hstamp⟩ := hs
    obtain ⟨n, hn⟩ := Option.isSome_iff_exists.1 hsome
    obtain ⟨i, hc, rfl⟩ := State.carries_of_ticketOnTray hl (hstamp.symm.trans hn)
    exact hno i hc hn

end Sys2Proof.Machine
end
